-- ==== Sys2Proof/Word.lean ====
section
/-! DEFINITION. The plain types every other file uses: bytes on a Cordline, moments and lengths of time, and the numbers of
zones, damper channels and Route Table entries. -/

namespace Sys2Proof

/-- One byte on a Cordline (R103). -/
abbrev Byte := BitVec 8

/-- One byte as it goes over a Cordline, ten bits in the order of the line: bit 0 is the start bit, bits 1 to 8 the data
bits, bit 9 the stop bit (R103). -/
abbrev Character := BitVec 10

/-- A moment, or a length of time, in ticks of 1/48 ms. The unit is exact for both time bases of the manual: 1 ms is 48
ticks and one byte of a Cordline, 10 bit times at 19 200 bit/s (R103), is 25 ticks. DESIGN CHOICE (log entry 2). -/
abbrev Time := Nat

/-- A zone, numbered 0 to 7 (Chapter 1). -/
abbrev ZoneId := Fin 8

/-- A damper channel, numbered 0 to 7. Channel i drives the damper of zone i (R72). -/
abbrev ChannelId := Fin 8

/-- A Route Table entry, numbered 0 to 15 (R119). -/
abbrev RouteId := Fin 16

end Sys2Proof
end

