-- ==== Sys2Proof/Config.lean ====
section
/-! DEFINITION. What the manual leaves open: constants with no body, so that no statement can rest on a value of theirs.
Each one is named in the assumption log. -/

namespace Sys2Proof.Config

/-- The sets of codes that READ STATE sends and Chapter 12 does not list (R185, R196). DESIGN CHOICE (log entry 7). -/
inductive CodeSet where
  | lossTimer | lineState | goalKind | trainState | trainOutcome | supplyState | inputState | queryState
  deriving DecidableEq, Repr

/-- The revision byte of IDENTIFY (R185): the manual names it and gives no value. DESIGN CHOICE (log entry 7). -/
opaque revision : Byte

/-- The byte that stands in READ STATE for member `n` of a set whose codes the manual does not list.
DESIGN CHOICE (log entry 7). -/
opaque unlistedCode (set : CodeSet) (n : Nat) : Byte

/-- Byte `n` of a four-byte count or value that is absent in READ STATE: R195 gives an absent code for one-byte and 16-bit
fields and none for a field of 32 bits. DESIGN CHOICE (log entry 7). -/
opaque absentLong (n : Nat) : Byte

end Sys2Proof.Config
end

