-- ==== Sys2Proof/Syntax.lean ====
section
/-! DEFINITION. The commands of the part: one constructor for each row of spec/opcode_table.json. The table gives its rows
no operands, so the operands below are the model's (log entry 1). Every command carries `dt`, the ticks that have
passed since the command before it. -/

namespace Sys2Proof

/-- The two Cordlines (Chapter 5). -/
inductive Line where
  | room
  | plant
  deriving DecidableEq, Repr

/-- The two plant nodes: the air handler at 0x40 and the outdoor unit at 0x48 (R108). -/
inductive Node where
  | airHandler
  | outdoorUnit
  deriving DecidableEq, Repr

/-- One byte on a line as a command brings it: the ticks from its start bit to the command, and its ten bits (R103). -/
structure LineByte where
  age : Nat
  bits : Character
  deriving DecidableEq, Repr

/-- What a line has brought: its bytes in the order of arrival. The port that receives them cuts them into bursts (R103,
R107). -/
structure Burst where
  chars : List LineByte
  /-- For a PLANT STATUS with an answer part: whether the query relay takes its part before the link takes the rest. R165
  allows either order, so the order comes from outside. -/
  relayFirst : Bool
  deriving DecidableEq, Repr

/-- The moment of a command by which a port sends: `quiet` is for how many ticks the line has been silent when it comes, 0
while a byte is on it (R107). -/
structure Sending where
  dt : Nat
  quiet : Nat
  deriving DecidableEq, Repr

/-- The moment of a reply timeout: `under` is the ticks since the start of the burst that is under way on the line, if one is
(R111, R117). -/
structure Timeout where
  dt : Nat
  under : Option Nat
  deriving DecidableEq, Repr

/-- The moment of a START UP: `above` is for how many ticks the supply has stood above the start level without a break when it
comes (R174, R176). -/
structure Powered where
  dt : Nat
  above : Nat
  deriving DecidableEq, Repr

/-- The commands, in the order of the table. -/
inductive Instr where
  /-- POLL (R110): the room port sends the next POLL of its round. -/
  | poll (o : Sending)
  /-- NOTHING (R122). -/
  | nothing (dt : Nat) (b : Burst)
  /-- ROOM_REPORT (R124). -/
  | roomReport (dt : Nat) (b : Burst)
  /-- SETPOINT_CHANGE (R125). -/
  | setpointChange (dt : Nat) (b : Burst)
  /-- PLANT_QUERY (R126). -/
  | plantQuery (dt : Nat) (b : Burst)
  /-- IDENTIFY (R185). -/
  | identify (dt : Nat) (b : Burst)
  /-- READ_TABLE (R186). -/
  | readTable (dt : Nat) (b : Burst)
  /-- WRITE_TABLE (R186). -/
  | writeTable (dt : Nat) (b : Burst)
  /-- SAVE (R187). -/
  | save (dt : Nat) (b : Burst)
  /-- RESTART (R189). -/
  | restart (dt : Nat) (b : Burst)
  /-- READ_STATE (R185). -/
  | readState (dt : Nat) (b : Burst)
  /-- CLEAR_EVENTS (R192). -/
  | clearEvents (dt : Nat) (b : Burst)
  /-- CLEAR_SHUTDOWN (R183). -/
  | clearShutdown (dt : Nat) (b : Burst)
  /-- RELEASE_DAMPER (R98). -/
  | releaseDamper (dt : Nat) (b : Burst)
  /-- CLEAR_COUNTERS (R190). -/
  | clearCounters (dt : Nat) (b : Burst)
  /-- DECIDING_BURST_MISS (R112, R117): a burst that decides a wait and is no valid reply. -/
  | decidingBurstMiss (dt : Nat) (l : Line) (b : Burst)
  /-- BURST_OUTSIDE_WAIT (R107). -/
  | burstOutsideWait (dt : Nat) (l : Line) (b : Burst)
  /-- ROOM_REPLY_TIMEOUT (R111). -/
  | roomReplyTimeout (o : Timeout)
  /-- PLANT_ROUND (R115). -/
  | plantRound (dt : Nat)
  /-- PLANT_COMMAND (R137). -/
  | plantCommand (o : Sending) (n : Node)
  /-- WAKE (R116). -/
  | wake (o : Sending) (n : Node)
  /-- QUERY (R160). -/
  | query (o : Sending)
  /-- PLANT_STATUS (R147). -/
  | plantStatus (dt : Nat) (b : Burst)
  /-- QUERY_ACCEPT (R161). -/
  | queryAccept (dt : Nat) (b : Burst)
  /-- PLANT_REPLY_TIMEOUT (R117). -/
  | plantReplyTimeout (o : Timeout)
  /-- BINDING_SUPERVISOR_EXPIRY (R141). -/
  | bindingSupervisorExpiry (dt : Nat) (n : Node)
  /-- LINK_SILENCE_TIMER_EXPIRY (R144). -/
  | linkSilenceTimerExpiry (dt : Nat) (n : Node)
  /-- LINK_LOSS_TIMER_EXPIRY (R145). -/
  | linkLossTimerExpiry (dt : Nat) (n : Node)
  /-- STOP_TIMER_EXPIRY (R138). -/
  | stopTimerExpiry (dt : Nat) (n : Node)
  /-- ANSWER_TIMER_EXPIRY (R163), of the Query list entry that holds the tag. -/
  | answerTimerExpiry (dt : Nat) (tag : Nat)
  /-- CYCLE_EXPIRY (R34). -/
  | cycleExpiry (dt : Nat)
  /-- DEFROST_TIMER_EXPIRY (R45). -/
  | defrostTimerExpiry (dt : Nat)
  /-- ZONE_LOSS_TIMER_EXPIRY (R8). -/
  | zoneLossTimerExpiry (dt : Nat) (z : ZoneId)
  /-- FEEDBACK_PULSE (R88, R89). -/
  | feedbackPulse (dt : Nat) (c : ChannelId)
  /-- CHANNEL_SILENCE_TIMER_EXPIRY (R90). -/
  | channelSilenceTimerExpiry (dt : Nat) (c : ChannelId)
  /-- SEEK_TIMER_EXPIRY (R96). -/
  | seekTimerExpiry (dt : Nat) (c : ChannelId)
  /-- SETTLE_END (R92). -/
  | settleEnd (dt : Nat) (c : ChannelId)
  /-- DEAD_TIME_ELAPSED (R82). -/
  | deadTimeElapsed (dt : Nat) (c : ChannelId)
  /-- START_UP_HOMING_JOIN (R102). -/
  | startUpHomingJoin (dt : Nat)
  /-- CURTAIL_INPUT_ASSERTED (R168). -/
  | curtailInputAsserted (dt : Nat)
  /-- CURTAIL_INPUT_AT_REST (R168). -/
  | curtailInputAtRest (dt : Nat)
  /-- COUNTED_PULSE (R168). -/
  | countedPulse (dt : Nat)
  /-- PULSE_SPOILED (R168). -/
  | pulseSpoiled (dt : Nat)
  /-- TRAIN_END (R170). -/
  | trainEnd (dt : Nat)
  /-- HOLD_TIMER_EXPIRY (R171). -/
  | holdTimerExpiry (dt : Nat)
  /-- SAG_ENTRY (R174, R175). -/
  | sagEntry (dt : Nat)
  /-- SAG_EXIT (R174, R175). -/
  | sagExit (dt : Nat)
  /-- DROPOUT_RESET (R176). -/
  | dropoutReset (dt : Nat)
  /-- POWER_ON_RESET (R176). -/
  | powerOnReset (dt : Nat)
  /-- LINE_RESET (R176). -/
  | lineReset (dt : Nat)
  /-- START_UP (R176); `retainedGood` says whether the check of the retained area is found good (R178). -/
  | startUp (o : Powered) (retainedGood : Bool)
  /-- START_UP_COMPLETION (R180). -/
  | startUpCompletion (dt : Nat)
  /-- SHUTDOWN_INPUT_ASSERTED (R181), after the filter of 20 ms. -/
  | shutdownInputAsserted (dt : Nat)
  /-- SHUTDOWN_INPUT_RELEASED (R181), after the filter of 20 ms. -/
  | shutdownInputReleased (dt : Nat)
  /-- SAVE_END (R188); `agrees` says whether the read-back agrees with what was written. -/
  | saveEnd (dt : Nat) (agrees : Bool)
  /-- UNKNOWN_REQUEST_CODE (R184). -/
  | unknownRequestCode (dt : Nat) (b : Burst)
  deriving DecidableEq, Repr

end Sys2Proof
end

