-- ==== Sys2Proof/Decode.lean ====
section
/-! DEFINITION. Words of the command table. spec/opcode_table.json gives none of its rows any bits ("fields" is empty in
every row and no row has "fixed"), so no word spells a command. What a frame's bytes spell is decoded in
Machine/Operands.lean. -/

namespace Sys2Proof

/-! ### The serial form of a byte (R103) -/

/-- A byte as it is sent: a start bit, the eight data bits with the least significant first, and a stop bit. The idle line
stands at the stop level, written 1 here (log entry 38). -/
def serial (b : Byte) : Character := (1#1 ++ b) ++ 0#1

/-- The byte that a character carries: its eight data bits, the first one the least significant. -/
def dataBits (c : Character) : Byte := c.extractLsb' 1 8

/-- The byte that a byte of a line carries. -/
def LineByte.data (c : LineByte) : Byte := dataBits c.bits

/-- Bytes as they go over a line, back to back. -/
def wire (bs : List Byte) : List Character := bs.map serial

/-- The bytes of a burst. -/
def Burst.bytes (b : Burst) : List Byte := b.chars.map LineByte.data

/-- The ticks since the burst began, at the start bit of its first byte (R111, R117). -/
def Burst.age (b : Burst) : Nat := match b.chars with | c :: _ => c.age | [] => 0

/-! ### Words of the command table -/

/-- The command that the word `w` of `nbits` bits spells by the table's bits: none, because no row of the table gives bits. -/
def decodeTableWord (_nbits _w : Nat) : Option Instr := none

end Sys2Proof
end

