-- ==== Sys2Proof/Machine/Types.lean ====
section
/-! DEFINITION. The records of the part's blocks, one structure for each table or record of the manual, all plain data. -/

namespace Sys2Proof.Machine

/-! ### The Route Table (Chapter 6) -/

/-- The role of a route entry (R119). -/
inductive Role where
  | panel | sensor | tool | display
  deriving DecidableEq, Repr

/-- The configuration part of a Route Table entry (R119). -/
structure RouteCfg where
  used : Bool
  address : Byte
  role : Role
  /-- Absent for a TOOL. -/
  zone : Option ZoneId
  weight : Nat
  polled : Bool
  /-- The HOUSE right. -/
  house : Bool
  /-- The NOTICE right. -/
  notice : Bool
  deriving DecidableEq, Repr

/-- A reading with its arrival time (R5). -/
structure Reading where
  value : Int
  time : Time
  deriving DecidableEq, Repr

/-- The results and refusal reasons (R128, R184, 12.4). -/
inductive Result where
  | ok | busy | range | rights | index | conflict | state | unknown | unreachable
  deriving DecidableEq, Repr

/-- The kind of reply that a held result answers (R128). -/
inductive ReplyKind where
  | setpoint | query
  deriving DecidableEq, Repr

/-- A held result (R128). -/
structure HeldResult where
  kind : ReplyKind
  result : Result
  tag : Option Nat
  deriving DecidableEq, Repr

/-- The line state of an entry (R113). -/
inductive LineState where
  | answering | silent
  deriving DecidableEq, Repr

/-- Which optional part the last POLL to an entry carried (R121). -/
inductive OptionalPart where
  | none | answer | notice
  deriving DecidableEq, Repr

/-- The runtime part of a Route Table entry (R121). -/
structure RouteRun where
  temp : Option Reading
  hum : Option Reading
  misses : Nat
  line : LineState
  held : Option HeldResult
  lastPart : OptionalPart
  deriving DecidableEq, Repr

/-! ### The Zone Table (Chapter 1) -/

/-- The mode permission of a zone (R2). -/
inductive Permission where
  | auto | heatOnly | coolOnly
  deriving DecidableEq, Repr

/-- The configuration part of a zone record (R2). -/
structure ZoneCfg where
  enabled : Bool
  /-- Bit g stands for group g. -/
  groups : BitVec 4
  permission : Permission
  /-- The design airflow Qd, L/s. -/
  qd : Nat
  pmin : Nat
  spillRank : Nat
  psp : Nat
  kp : Nat
  /-- The stored setpoints Sh_st, Sc_st (tenths of a degree) and Hd_st (percent). -/
  shSt : Int
  scSt : Int
  hdSt : Int
  deriving DecidableEq, Repr

/-- The loss timer of a zone (R4, R8): running until a moment, expired, or stopped. -/
inductive LossTimer where
  | running (due : Time)
  | expired
  | stopped
  deriving DecidableEq, Repr

/-- What a zone asks of the house (R17). -/
inductive Call where
  | none | cool | heat | dry
  deriving DecidableEq, Repr

/-- The zone status (R23). -/
inductive ZoneStatus where
  | disabled | noSource | off | lost | satisfied | served | waiting | drying | spill
  deriving DecidableEq, Repr

/-- The runtime part of a zone record (R4). -/
structure ZoneRun where
  /-- The effective setpoints Sh, Sc and Hd. -/
  sh : Int
  sc : Int
  hd : Int
  confirmed : Bool
  /-- The combined temperature and humidity. -/
  t : Option Int
  h : Option Int
  lastFresh : Option Time
  loss : LossTimer
  /-- The zone switch: true is ON. -/
  switchOn : Bool
  fan : Bool
  call : Call
  /-- The demand D. -/
  demand : Nat
  /-- The unmet count A. -/
  unmet : Nat
  status : ZoneStatus
  damperFault : Bool
  deriving DecidableEq, Repr

/-! ### The Damper Table and the channels (Chapter 4) -/

/-- An entry of the Damper Table (R72). -/
structure DamperCfg where
  stroke : Nat
  settle : Nat
  approach : Nat
  /-- Dead time, ms. -/
  deadMs : Nat
  /-- Stall time, ms. -/
  stallMs : Nat
  /-- Seek limit, s. -/
  seekS : Nat
  deriving DecidableEq, Repr

/-- The states of a channel (R75). -/
inductive ChannelState where
  | unhomed | queued | moving | seeking | settling | idle | fault
  deriving DecidableEq, Repr

/-- The active goals of a channel (R74, R76). -/
inductive Goal where
  | move (count : Nat)
  | seekOpen
  | seekClosed
  | home
  deriving DecidableEq, Repr

/-- A drive direction (R74). -/
inductive Dir where
  | opening | closing
  deriving DecidableEq, Repr

/-- A drive level (R87). -/
inductive Level where
  | full | half
  deriving DecidableEq, Repr

/-- The runtime record of a channel (R74). Each of the three timers holds the moment at which it expires, or is absent while
it is stopped. -/
structure Channel where
  state : ChannelState
  count : Nat
  homed : Bool
  goal : Option Goal
  /-- The pending target, percent. -/
  target : Option Nat
  taken : Bool
  retry : Bool
  stray : Nat
  /-- The drive direction: absent while no drive is on. -/
  dir : Option Dir
  level : Level
  lastDir : Option Dir
  /-- The time of last drive-off. -/
  lastOff : Time
  /-- The dead time that runs from it, ms: the entry's own as it stood at that drive-off (R73). -/
  restMs : Nat
  /-- The moment at which it last joined the motion queue, by which those that join at one moment are known (R82). The model's
  own (log entry 40). -/
  joined : Time
  silenceDue : Option Time
  seekDue : Option Time
  deadDue : Option Time
  deriving DecidableEq, Repr

/-! ### The Plant Profile and the stored tables -/

/-- The Plant Profile (R29). -/
structure Profile where
  /-- Cycle period, s. -/
  cycle : Nat
  /-- Minimum run, s. -/
  minRun : Nat
  /-- Minimum rest, s. -/
  minRest : Nat
  /-- Changeover dwell, s. -/
  dwell : Nat
  starvation : Nat
  ton : Nat
  toff : Nat
  /-- Dry airflow factor, percent. -/
  dryFactor : Nat
  slots : Nat
  /-- Curtail hold, min. -/
  holdMin : Nat
  /-- The event enable set: bit n stands for event code n (12.3). -/
  enable : BitVec 16
  deriving DecidableEq, Repr

/-- The four configuration tables. -/
structure Tables where
  routes : Vector RouteCfg 16
  zones : Vector ZoneCfg 8
  dampers : Vector DamperCfg 8
  profile : Profile
  deriving DecidableEq, Repr

/-- The image in the store, as far as the tests of R179 look at it: the format mark, the check and the records. The manual
gives no byte layout of the image (log entry 10). -/
structure StoreImage where
  markGood : Bool
  checkGood : Bool
  tables : Tables
  deriving DecidableEq, Repr

/-- The store state (R187). -/
inductive StoreState where
  | valid | defaults | saving | invalid
  deriving DecidableEq, Repr

/-! ### The house arbiter (Chapters 2 and 3) -/

/-- The house states (R26). -/
inductive HouseState where
  | uncommissioned | halt | idle | fan | cool | heat | dry | defrost | changeover | shed
  deriving DecidableEq, Repr

/-- A pending target (R28). -/
inductive Target where
  | cool | heat | dry
  deriving DecidableEq, Repr

/-- The outdoor mode of a run (R32). -/
inductive RunMode where
  | cool | heat
  deriving DecidableEq, Repr

/-- The outdoor mode (R27). -/
inductive OutMode where
  | off | cool | heat
  deriving DecidableEq, Repr

/-- The air handler mode (R27). -/
inductive AirMode where
  | off | fan | cool | heat | dry
  deriving DecidableEq, Repr

/-- The plant command record (R27). -/
structure Command where
  outMode : OutMode
  capacity : Nat
  airMode : AirMode
  airflow : Nat
  reheat : Bool
  coldBlow : Bool
  deriving DecidableEq, Repr

/-- The computation record (R56). -/
structure Computation where
  served : Vector Bool 8
  raw : Option Nat
  capacity : Option Nat
  airSum : Option Nat
  commanded : Option Nat
  spill : Vector Bool 8
  short : Bool
  openings : Option (Vector Nat 8)
  deriving DecidableEq, Repr

/-- What the arbiter holds beside the two records (R28, R31, R32, R44). The cycle and defrost timers hold the moment at which
they expire, the run, rest and dwell timers the moment at which they were started; absent is stopped. -/
structure Arbiter where
  house : HouseState
  pendingTarget : Option Target
  hold : Bool
  /-- The remembered airflow of a defrost. -/
  remembered : Option Nat
  cycleDue : Option Time
  runStart : Option Time
  restStart : Option Time
  dwellStart : Option Time
  lastRun : Option RunMode
  defrostDue : Option Time
  deriving DecidableEq, Repr

/-! ### The plant links (Chapter 7) -/

/-- The link states (R139). -/
inductive LinkState where
  | down | binding | ready | active | stopping | silent
  deriving DecidableEq, Repr

/-- The node states a plant node reports (R139, R148). -/
inductive NodeState where
  | idle | starting | running | defrost | stopping | locked
  deriving DecidableEq, Repr

/-- The capability of a plant node, its annex item 1 (R151). -/
inductive Capability where
  | outdoor (cmin : Nat) (heatPump : Bool)
  | air (qmin qmax : Nat) (reheat : Bool)
  deriving DecidableEq, Repr

/-- The value of an annex slot (R151): the capability, two temperatures, the last non-zero fault code, or a count. -/
inductive AnnexValue where
  | capability (c : Capability)
  | temps (first second : Option Int)
  | faultCode (code : Nat)
  | counter (n : Nat)
  deriving DecidableEq, Repr

/-- An annex slot record (R152). -/
structure AnnexSlot where
  value : Option AnnexValue
  age : Nat
  deriving DecidableEq, Repr

/-- The record of a plant link (R138, R139, R152). Its timers hold the moment at which they expire. -/
structure Link where
  state : LinkState
  lost : Bool
  nodeState : Option NodeState
  fault : Option Nat
  cap : Option Capability
  annex : Vector AnnexSlot 5
  /-- The expected slot, counted from 0 for slot 1. -/
  expected : Option (Fin 5)
  runLength : Nat
  breaks : Nat
  stopOpen : Bool
  stopCount : Nat
  stopDue : Option Time
  bindDue : Option Time
  silenceDue : Option Time
  lossDue : Option Time
  deriving DecidableEq, Repr

/-- One value for each plant node. -/
structure PerNode (α : Type) where
  air : α
  outdoor : α
  deriving DecidableEq, Repr

/-! ### The query relay (Chapter 8) -/

/-- The states of a Query list entry (R158). -/
inductive QueryState where
  | waiting | sent | answered | expired
  deriving DecidableEq, Repr

/-- The answer status of an entry (R158): the node's code in ANSWERED, the reason in EXPIRED. -/
inductive AnswerStatus where
  | code (c : Byte)
  | timeout
  | unreachable
  deriving DecidableEq, Repr

/-- An entry of the Query list (R158). -/
structure QueryEntry where
  requester : Byte
  target : Node
  item : Byte
  argument : BitVec 16
  tag : Nat
  state : QueryState
  status : Option AnswerStatus
  value : Option (BitVec 32)
  sentTime : Option Time
  /-- The answer timer: the moment at which it expires. -/
  answerDue : Option Time
  deriving DecidableEq, Repr

/-- The query relay (R158): the list, the tag of the query on the line, and the late count. -/
structure Relay where
  entries : List QueryEntry
  onLine : Option Nat
  late : Nat
  deriving DecidableEq, Repr

/-! ### The ports (Chapter 5) -/

/-- The four counters of a line (R118). -/
structure Counters where
  good : Nat
  checkErrors : Nat
  misses : Nat
  impostors : Nat
  deriving DecidableEq, Repr

/-- The round position (R110): the entry polled last, or the mark of the service address. -/
inductive RoundPos where
  | entry (i : RouteId)
  | service
  deriving DecidableEq, Repr

/-- The open wait of the room port (R111). -/
structure RoomWait where
  /-- The address polled. -/
  address : Byte
  /-- Whether the POLL carried a notice part (R127). -/
  notice : Bool
  /-- The end of the reply timeout. -/
  closes : Time
  deriving DecidableEq, Repr

/-- A frame of a port on its line (R107): the moment at which its first start bit began, and its bytes, sent back to back. -/
structure OwnFrame where
  start : Time
  bytes : Nat
  deriving DecidableEq, Repr

/-- The room port (R110, R111, R114). -/
structure RoomPort where
  pos : RoundPos
  wait : Option RoomWait
  /-- RESTART has been answered OK and the line reset follows at this moment (R114, R189). -/
  restartDue : Option Time
  /-- The port's own last frame and its 4 ms of silence last until here (R107). -/
  sendAfter : Time
  /-- The moment at which the next POLL became due: the end of the exchange before it (R107, R114). -/
  dueSince : Time
  /-- The model's own: the last frame the port sent, as it goes over the line. -/
  sent : List Character
  /-- The model's own: when each frame that the port has sent since the reset was on the line, the latest first (R107). -/
  frames : List OwnFrame
  counters : Counters
  deriving DecidableEq, Repr

/-- The slots of a plant round (R115); `over` when the round's three slots have ended. -/
inductive Slot where
  | airHandler | outdoorUnit | query | over
  deriving DecidableEq, Repr

/-- What a frame of the plant port is answered by (R109). -/
inductive Expects where
  | status | accept
  deriving DecidableEq, Repr

/-- The open wait of the plant port (R117). -/
structure PlantWait where
  node : Node
  expects : Expects
  closes : Time
  deriving DecidableEq, Repr

/-- The plant port (R115, R116, R117). -/
structure PlantPort where
  /-- The round timer: the moment at which it expires. -/
  roundDue : Option Time
  slot : Slot
  wait : Option PlantWait
  /-- The time of last WAKE of each node (R116). -/
  lastWake : PerNode (Option Time)
  sendAfter : Time
  /-- The moment at which the frame of the present slot became due: the beginning of the slot (R107, R115). -/
  dueSince : Time
  /-- The model's own: the last frame the port sent, as it goes over the line. -/
  sent : List Character
  /-- The model's own: when each frame that the port has sent since the reset was on the line, the latest first (R107). -/
  frames : List OwnFrame
  counters : Counters
  deriving DecidableEq, Repr

/-! ### Curtailment, supply, shutdown (Chapters 9 and 10) -/

/-- The train states (R167). -/
inductive TrainState where
  | quiet | pulse | gap | waitRest
  deriving DecidableEq, Repr

/-- The curtail levels (R167). -/
inductive CurtailLevel where
  | release | level1 | level2 | level3
  deriving DecidableEq, Repr

/-- The outcome of a train (R170). -/
inductive TrainOutcome where
  | valid (l : CurtailLevel)
  | invalid
  deriving DecidableEq, Repr

/-- The curtailment decoder (R167, R168). -/
structure Decoder where
  /-- The input as it stands: true is asserted. -/
  pin : Bool
  train : TrainState
  pulses : Nat
  spoiled : Bool
  level : CurtailLevel
  /-- The hold timer: the moment at which it expires. -/
  holdDue : Option Time
  invalidTrains : Nat
  lastTrain : Option (Nat × TrainOutcome)
  /-- The pulse timer and the gap timer: the moments at which they were started. -/
  pulseStart : Option Time
  gapStart : Option Time
  /-- The present assertion has reached 50 ms (R168). -/
  reached : Bool
  deriving DecidableEq, Repr

/-- The reset causes (R177). -/
inductive ResetCause where
  | powerOn | dropout | line
  deriving DecidableEq, Repr

/-- The retained area (R173, R178). Its check is no field: START UP brings whether it is found good. -/
structure Retained where
  level : CurtailLevel
  /-- The time left on the curtailment hold, whole seconds. -/
  holdLeft : Nat
  cause : ResetCause
  deriving DecidableEq, Repr

/-- The supply states (R174). -/
inductive SupplyState where
  | normal | sag
  deriving DecidableEq, Repr

/-- The filtered shutdown input (R181). -/
inductive InputState where
  | asserted | released
  deriving DecidableEq, Repr

/-- Supply and shutdown (R174, R181). -/
structure Supply where
  supply : SupplyState
  input : InputState
  /-- The shutdown latch: true is SET. -/
  latch : Bool
  /-- The moment from which a reset counts its unbroken 100 ms above the start level (R176): the moment the reset was taken,
  or a later one before which the monitor has found the supply below that level. -/
  holdFrom : Time
  deriving DecidableEq, Repr

/-- Where the part stands between resets (R176, R180): held in reset, in the store load, or running. -/
inductive Phase where
  | held | loading | running
  deriving DecidableEq, Repr

/-! ### The event list (Chapter 11) -/

/-- The sixteen events, in the order of their codes (R191, 12.4). -/
inductive Event where
  | supplySag | shutdown | damperFault | plantLost | plantFault | zoneLost | restart | modeChange | curtailChange | bindFail
  | queryTimeout | spillShort | defrostLong | capabilityChange | saveDone | storeFail
  deriving DecidableEq, Repr

/-- The marks of the event list: bit n stands for the event of code n. The enabled marks follow the Profile (R191) and are
read from it. -/
structure EventList where
  raised : BitVec 16
  undelivered : BitVec 16
  /-- The outstanding offer (R193). -/
  offer : Option (BitVec 16)
  deriving DecidableEq, Repr

end Sys2Proof.Machine
end

