-- ==== Sys2Proof/Machine/Defaults.lean ====
section
/-! DEFINITION. The defaults of the four tables and the values that every reset gives the blocks, table by table of the manual. -/

namespace Sys2Proof.Machine

/-- The default Route Table entry (R119). -/
def defaultRoute : RouteCfg where
  used := false
  address := 0x10
  role := .sensor
  zone := some 0
  weight := 1
  polled := true
  house := false
  notice := false

/-- The default zone configuration (R2). -/
def defaultZone : ZoneCfg where
  enabled := false
  groups := 0
  permission := .auto
  qd := 100
  pmin := 20
  spillRank := 0
  psp := 40
  kp := 12
  shSt := 200
  scSt := 240
  hdSt := 55

/-- The default Damper Table entry (R72). -/
def defaultDamper : DamperCfg where
  stroke := 1200
  settle := 6
  approach := 24
  deadMs := 300
  stallMs := 400
  seekS := 120

/-- The default Plant Profile (R29). The enable set holds SUPPLY SAG, SHUTDOWN, DAMPER FAULT, PLANT LOST, PLANT FAULT, ZONE
LOST, RESTART and STORE FAIL: codes 0 to 6 and 15. -/
def defaultProfile : Profile where
  cycle := 20
  minRun := 300
  minRest := 180
  dwell := 180
  starvation := 45
  ton := 5
  toff := 2
  dryFactor := 60
  slots := 2
  holdMin := 30
  enable := 0x807F

/-- The four tables at their defaults (R179). -/
def defaultTables : Tables where
  routes := Vector.replicate 16 defaultRoute
  zones := Vector.replicate 8 defaultZone
  dampers := Vector.replicate 8 defaultDamper
  profile := defaultProfile

/-- The runtime part of a route entry after every reset (R121). -/
def resetRouteRun : RouteRun where
  temp := none
  hum := none
  misses := 0
  line := .answering
  held := none
  lastPart := .none

/-- The runtime part of a zone after a reset, from its stored setpoints (R4, R12). The loss timer and the status are set at
start-up completion. -/
def resetZoneRun (c : ZoneCfg) : ZoneRun where
  sh := c.shSt
  sc := c.scSt
  hd := c.hdSt
  confirmed := false
  t := none
  h := none
  lastFresh := none
  loss := .stopped
  switchOn := true
  fan := false
  call := .none
  demand := 0
  unmet := 0
  status := .disabled
  damperFault := false

/-- A channel after a reset taken at `t` (R74). Start-up completion gives it the dead time of the table as loaded. -/
def resetChannel (t : Time) : Channel where
  state := .unhomed
  count := 0
  homed := false
  goal := none
  target := none
  taken := false
  retry := false
  stray := 0
  dir := none
  level := .full
  lastDir := none
  lastOff := t
  restMs := defaultDamper.deadMs
  joined := t
  silenceDue := none
  seekDue := none
  deadDue := none

/-- The plant command record after every reset (R27). -/
def resetCommand : Command where
  outMode := .off
  capacity := 0
  airMode := .off
  airflow := 0
  reheat := false
  coldBlow := false

/-- The computation record after every reset (R56). -/
def resetComputation : Computation where
  served := Vector.replicate 8 false
  raw := none
  capacity := none
  airSum := none
  commanded := none
  spill := Vector.replicate 8 false
  short := false
  openings := none

/-- The arbiter after a reset, its timers stopped (R28, R32). The house state is chosen at start-up completion. -/
def resetArbiter : Arbiter where
  house := .uncommissioned
  pendingTarget := none
  hold := false
  remembered := none
  cycleDue := none
  runStart := none
  restStart := none
  dwellStart := none
  lastRun := none
  defrostDue := none

/-- An annex slot that has not been received (R152). -/
def emptyAnnexSlot : AnnexSlot where
  value := none
  age := 10

/-- A link after every reset (R139). -/
def resetLink : Link where
  state := .down
  lost := false
  nodeState := none
  fault := none
  cap := none
  annex := Vector.replicate 5 emptyAnnexSlot
  expected := none
  runLength := 0
  breaks := 0
  stopOpen := false
  stopCount := 0
  stopDue := none
  bindDue := none
  silenceDue := none
  lossDue := none

/-- The relay after every reset (R158). -/
def resetRelay : Relay where
  entries := []
  onLine := none
  late := 0

/-- Line counters at 0 (R118). -/
def zeroCounters : Counters where
  good := 0
  checkErrors := 0
  misses := 0
  impostors := 0

/-- The room port after every reset (R110). -/
def resetRoomPort : RoomPort where
  pos := .service
  wait := none
  restartDue := none
  sendAfter := 0
  dueSince := 0
  sent := []
  frames := []
  counters := zeroCounters

/-- The plant port after every reset (R115, R116). -/
def resetPlantPort : PlantPort where
  roundDue := none
  slot := .over
  wait := none
  lastWake := ⟨none, none⟩
  sendAfter := 0
  dueSince := 0
  sent := []
  frames := []
  counters := zeroCounters

/-- The curtailment decoder after a reset, before it takes the retained level (R167), with the input standing at `pin`. R167 and
R173 give its level, hold and train state at start-up completion; until then level RELEASE, hold STOPPED and train QUIET, also
with the input asserted, are the model's own. DESIGN CHOICE (log entry 48). -/
def resetDecoder (pin : Bool) : Decoder where
  pin := pin
  train := .quiet
  pulses := 0
  spoiled := false
  level := .release
  holdDue := none
  invalidTrains := 0
  lastTrain := none
  pulseStart := none
  gapStart := none
  reached := false

/-- The retained area after a power-on reset (R178). -/
def clearedRetained : Retained where
  level := .release
  holdLeft := 0
  cause := .powerOn

/-- The event list with every mark cleared (R191). -/
def clearedEvents : EventList where
  raised := 0
  undelivered := 0
  offer := none

end Sys2Proof.Machine
end

