-- ==== Sys2Proof/Machine/State.lean ====
section
/-! DEFINITION. The state of the part, the two reason types, and the part right after reset. -/

namespace Sys2Proof.Machine

/-- The reasons a step can stop with a fault. There is none: the manual describes no condition in which the part stops
answering. Its FAULT of a damper channel, its LOCKED of a node and its refusals are states and answers of a running part. -/
inductive Fault where
  deriving DecidableEq, Repr

/-- The reasons a step can have no meaning. -/
inductive Refusal where
  /-- Raised only by an arm of `exec` whose command has no meaning yet. Safe: the run ends. -/
  | notModelled (mnemonic : String)
  deriving DecidableEq, Repr

/-- The whole part: the blocks of the manual's block overview, the moment, and the commands that wait. -/
structure State where
  /-- The present moment, in ticks since the part was first powered. The model's own (log entry 2). -/
  now : Time
  /-- The commands that wait, first in, first out. The model's own (log entry 3). -/
  pending : List Instr
  phase : Phase
  /-- The moment the latest reset was taken (R102, R176). -/
  resetAt : Time
  supply : Supply
  retained : Retained
  /-- The non-volatile store (R179). -/
  store : StoreImage
  storeState : StoreState
  /-- The tables that the SAVE in progress writes (R187). -/
  saving : Option Tables
  /-- The four tables in use. -/
  tables : Tables
  routes : Vector RouteRun 16
  /-- The held result of the service address (R121). -/
  serviceHeld : Option HeldResult
  zones : Vector ZoneRun 8
  arbiter : Arbiter
  command : Command
  computation : Computation
  channels : Vector Channel 8
  /-- The motion queue, head first (R82). -/
  queue : List ChannelId
  /-- The slot limit in force (R85). A written limit that waits is the Profile's own, while the two differ. -/
  slotLimit : Nat
  /-- The homing join of start-up, still to come at this moment (R102). -/
  homingDue : Option Time
  links : PerNode Link
  room : RoomPort
  plant : PlantPort
  relay : Relay
  decoder : Decoder
  events : EventList
  deriving DecidableEq, Repr

/-- Every block at its reset values, for a reset taken at `t`, over the memory that a reset keeps: the retained area, the
store, the inputs as they stand and the commands that wait (R4, R28, R74, R121, R139, R158, R167, R176, R191). Between a reset
and the store load no rule gives the tables (R72) a content nor, until start-up completion, the slot limit in force (R85) a
value: the model holds the default tables and the default limit of 2. DESIGN CHOICE (log entry 44). -/
def State.blank (t : Time) (q : List Instr) (sup : SupplyState) (input : InputState) (curtailPin : Bool) (r : Retained)
    (st : StoreImage) : State where
  now := t
  pending := q
  phase := .held
  resetAt := t
  supply := ⟨sup, input, false, t⟩
  retained := r
  store := st
  storeState := .defaults
  saving := none
  tables := defaultTables
  routes := Vector.replicate 16 resetRouteRun
  serviceHeld := none
  zones := Vector.replicate 8 (resetZoneRun defaultZone)
  arbiter := resetArbiter
  command := resetCommand
  computation := resetComputation
  channels := Vector.replicate 8 (resetChannel t)
  queue := []
  slotLimit := defaultProfile.slots
  homingDue := none
  links := ⟨resetLink, resetLink⟩
  room := resetRoomPort
  plant := resetPlantPort
  relay := resetRelay
  decoder := resetDecoder curtailPin
  events := clearedEvents

/-- The store as the part leaves the factory: no good image. DESIGN CHOICE (log entry 10). -/
def blankStore : StoreImage where
  markGood := false
  checkGood := false
  tables := defaultTables

/-- The part right after its first power-on reset has been taken: held in reset (R176), the retained area cleared (R178), no
image in the store, the supply normal and both inputs at rest (log entries 4 and 10). -/
def State.reset : State :=
  State.blank 0 [] .normal .released false clearedRetained blankStore

end Sys2Proof.Machine
end

