-- ==== Sys2Proof/Machine/Ops.lean ====
section
/-! DEFINITION. The operations shared by every block: time, tables of fixed size, saturating counts, bytes and numbers, and the
named reads and writes of State. -/

namespace Sys2Proof.Machine

/-! ### Time -/

/-- Milliseconds in ticks. -/
def ms (n : Nat) : Time := 48 * n

/-- Seconds in ticks. -/
def sec (n : Nat) : Time := 48000 * n

/-- Whole seconds in a length of time, the rest discarded (R1). -/
def wholeSec (t : Time) : Nat := t / 48000

/-- The time that `n` bytes take on a Cordline, sent back to back: ten bit times each at 19 200 bit/s (R103). -/
def byteTime (n : Nat) : Time := 25 * n

/-- The silence that ends a frame (R103). -/
def frameGap : Time := ms 4

/-- A timer that expires at the moment it holds has expired by `now`. A timer that is stopped does not expire (R1). -/
def due (d : Option Time) (now : Time) : Bool :=
  match d with
  | some t => decide (t ≤ now)
  | none => false

/-- A timer started at the moment it holds is running and its time has reached `len`. -/
def hasRun (start : Option Time) (len now : Time) : Bool :=
  match start with
  | some t => decide (t + len ≤ now)
  | none => false

/-- The part runs: start-up has completed and no reset has been taken since. -/
def State.isRunning (s : State) : Bool := decide (s.phase = .running)

/-- The time left on the hold, in whole seconds, a part of a second counted as a whole one; 0 while the timer is stopped
(R173). A hold that has reached its moment has 1 s left. -/
def Decoder.holdLeft (d : Decoder) (now : Time) : Nat :=
  match d.holdDue with
  | some t => max 1 ((t - now + 47999) / 48000)
  | none => 0

/-- The retained area at a moment: the running decoder keeps its time left there up to date (R173, R178). -/
def State.areaAt (s : State) (now : Time) : Retained :=
  if s.isRunning then { s.retained with holdLeft := s.decoder.holdLeft now } else s.retained

/-- Time passes. -/
def State.elapse (s : State) (dt : Nat) : State := { s with now := s.now + dt, retained := s.areaAt (s.now + dt) }

/-! ### Tables of fixed size -/

/-- The entry at an index. -/
def look {α : Type} {n : Nat} (v : Vector α n) (i : Fin n) : α := v[i.val]

/-- The table with one entry replaced. -/
def put {α : Type} {n : Nat} (v : Vector α n) (i : Fin n) (x : α) : Vector α n := v.set i.val x

/-- The table whose entries are given by index. -/
def tab {α : Type} {n : Nat} (f : Fin n → α) : Vector α n := Vector.ofFn f

/-- Whether some index meets `p`. -/
def anyIx {n : Nat} (p : Fin n → Bool) : Bool := (List.finRange n).any p

/-- How many indices meet `p`. -/
def countIx {n : Nat} (p : Fin n → Bool) : Nat := ((List.finRange n).filter p).length

/-- The sum over all indices, term by term (R1). -/
def sumIx {n : Nat} (f : Fin n → Nat) : Nat := ((List.finRange n).map f).sum

/-- Do something for every index, lowest first. -/
def State.forIx {n : Nat} (f : Fin n → State → State) (s : State) : State :=
  (List.finRange n).foldl (fun a i => f i a) s

/-- The value for a node. -/
def PerNode.get {α : Type} (p : PerNode α) : Node → α
  | .airHandler => p.air
  | .outdoorUnit => p.outdoor

/-- The pair with the value for one node replaced. -/
def PerNode.set {α : Type} (p : PerNode α) (n : Node) (x : α) : PerNode α :=
  match n with
  | .airHandler => { p with air := x }
  | .outdoorUnit => { p with outdoor := x }

/-! ### Counts and numbers -/

/-- A count raised by 1 that saturates at `top` (R1). -/
def satInc (top n : Nat) : Nat := if n < top then n + 1 else n

/-- A value moved into a range. -/
def clampInt (lo hi x : Int) : Int := max lo (min hi x)

/-- A value moved into a range. -/
def clampNat (lo hi x : Nat) : Nat := max lo (min hi x)

/-- The distance between two counts. -/
def dist (a b : Nat) : Nat := if a ≤ b then b - a else a - b

/-- A value that exceeds zero, or zero. -/
def posPart (x : Int) : Nat := x.toNat

/-! ### Bytes (Chapter 12): multi-byte values go high byte first -/

/-- One byte of an unsigned value. -/
def u8 (n : Nat) : Byte := BitVec.ofNat 8 n

/-- A 16-bit value, high byte first. -/
def bytes16 (w : BitVec 16) : List Byte := [w.extractLsb' 8 8, w.extractLsb' 0 8]

/-- An unsigned value in two bytes. -/
def u16 (n : Nat) : List Byte := bytes16 (BitVec.ofNat 16 n)

/-- A signed value in two bytes. -/
def i16 (x : Int) : List Byte := bytes16 (BitVec.ofInt 16 x)

/-- A 32-bit value, high byte first. -/
def bytes32 (w : BitVec 32) : List Byte :=
  [w.extractLsb' 24 8, w.extractLsb' 16 8, w.extractLsb' 8 8, w.extractLsb' 0 8]

/-- An unsigned value in four bytes. -/
def u32 (n : Nat) : List Byte := bytes32 (BitVec.ofNat 32 n)

/-- One byte, or the absent code of a one-byte field (R195). -/
def optU8 (x : Option Nat) : Byte := match x with | some n => u8 n | none => 0xFF

/-- One byte of a value held as an integer, or the absent code (R195). -/
def optI8 (x : Option Int) : Byte := match x with | some n => BitVec.ofInt 8 n | none => 0xFF

/-- An unsigned 16-bit field, or its absent code (R195). -/
def optU16 (x : Option Nat) : List Byte := match x with | some n => u16 n | none => bytes16 0xFFFF

/-- A signed 16-bit field, or its absent code (R195). -/
def optI16 (x : Option Int) : List Byte := match x with | some n => i16 n | none => bytes16 0x8000

/-- The 16-bit value of two bytes, high byte first. -/
def word16 (hi lo : Byte) : BitVec 16 := hi ++ lo

/-- The 32-bit value of four bytes, high byte first. -/
def word32 (a b c d : Byte) : BitVec 32 := a ++ b ++ c ++ d

/-- The signed value of two bytes. -/
def int16 (hi lo : Byte) : Int := (word16 hi lo).toInt

/-- The unsigned value of two bytes. -/
def nat16 (hi lo : Byte) : Nat := (word16 hi lo).toNat

/-- A mark byte from its marks, bit 0 first (Chapter 12). -/
def markByte (marks : List Bool) : Byte :=
  u8 (marks.foldr (fun m acc => m.toNat + 2 * acc) 0)

/-- A set of zones as a byte, bit z for zone z. R185 and R196 name the served set and the spill set and give no encoding of a
set: DESIGN CHOICE (log entry 7). -/
def zoneSetByte (v : Vector Bool 8) : Byte := markByte v.toList

/-- Byte `i` of a payload; 0 past its end. -/
def byteAt (p : List Byte) (i : Nat) : Byte := p.getD i 0

/-! ### Named reads and writes of State -/

/-- The configuration of a route entry. -/
def State.routeCfg (s : State) (i : RouteId) : RouteCfg := look s.tables.routes i
/-- The runtime part of a route entry. -/
def State.routeRun (s : State) (i : RouteId) : RouteRun := look s.routes i
/-- The configuration of a zone. -/
def State.zoneCfg (s : State) (z : ZoneId) : ZoneCfg := look s.tables.zones z
/-- The runtime part of a zone. -/
def State.zone (s : State) (z : ZoneId) : ZoneRun := look s.zones z
/-- The Damper Table entry of a channel. -/
def State.damperCfg (s : State) (c : ChannelId) : DamperCfg := look s.tables.dampers c
/-- The record of a channel. -/
def State.channel (s : State) (c : ChannelId) : Channel := look s.channels c
/-- The Plant Profile. -/
def State.profile (s : State) : Profile := s.tables.profile
/-- The link of a node. -/
def State.link (s : State) (n : Node) : Link := s.links.get n
/-- The house state. -/
def State.house (s : State) : HouseState := s.arbiter.house

/-- Write the runtime part of a route entry. -/
def State.setRoute (s : State) (i : RouteId) (r : RouteRun) : State := { s with routes := put s.routes i r }
/-- Write the runtime part of a zone. -/
def State.setZone (s : State) (z : ZoneId) (r : ZoneRun) : State := { s with zones := put s.zones z r }
/-- Write the record of a channel. -/
def State.setChannel (s : State) (c : ChannelId) (r : Channel) : State := { s with channels := put s.channels c r }
/-- Write the link of a node. -/
def State.setLink (s : State) (n : Node) (l : Link) : State := { s with links := s.links.set n l }
/-- Write the arbiter's own record. -/
def State.setArbiter (s : State) (a : Arbiter) : State := { s with arbiter := a }
/-- Write the room port. -/
def State.setRoom (s : State) (r : RoomPort) : State := { s with room := r }
/-- Write the plant port. -/
def State.setPlant (s : State) (p : PlantPort) : State := { s with plant := p }
/-- Write the decoder. -/
def State.setDecoder (s : State) (d : Decoder) : State := { s with decoder := d }
/-- Write the relay. -/
def State.setRelay (s : State) (r : Relay) : State := { s with relay := r }
/-- Write the computation record. -/
def State.setComputation (s : State) (c : Computation) : State := { s with computation := c }
/-- Write the event list. -/
def State.setEvents (s : State) (e : EventList) : State := { s with events := e }
/-- Write the four tables. -/
def State.setTables (s : State) (t : Tables) : State := { s with tables := t }

/-- The moment `len` from now. -/
def State.after (s : State) (len : Time) : Option Time := some (s.now + len)

end Sys2Proof.Machine
end

