-- ==== Sys2Proof/Machine/Codes.lean ====
section
/-! DEFINITION. The code tables of Chapter 12 (12.1, 12.4), and the unlisted codes of READ STATE. -/

namespace Sys2Proof.Machine

/-! ### Addresses and frame classes (R108, 12.1) -/

/-- The coordinator's address. -/
def coordinatorAddress : Byte := 0x01
/-- The service address. -/
def serviceAddress : Byte := 0x7E
/-- The address of a plant node. -/
def nodeAddress : Node → Byte
  | .airHandler => 0x40
  | .outdoorUnit => 0x48

/-- POLL. -/
def clsPoll : Byte := 0x11
/-- NOTHING. -/
def clsNothing : Byte := 0x20
/-- ROOM REPORT. -/
def clsRoomReport : Byte := 0x21
/-- SETPOINT CHANGE. -/
def clsSetpointChange : Byte := 0x22
/-- PLANT QUERY. -/
def clsPlantQuery : Byte := 0x23
/-- MANAGE REQUEST. -/
def clsManageRequest : Byte := 0x24
/-- MANAGE ANSWER. -/
def clsManageAnswer : Byte := 0x31
/-- WAKE. -/
def clsWake : Byte := 0x41
/-- PLANT COMMAND. -/
def clsPlantCommand : Byte := 0x43
/-- PLANT STATUS. -/
def clsPlantStatus : Byte := 0x44
/-- QUERY. -/
def clsQuery : Byte := 0x45
/-- QUERY ACCEPT. -/
def clsQueryAccept : Byte := 0x46

/-- The classes of 12.1. -/
def knownClasses : List Byte :=
  [clsPoll, clsNothing, clsRoomReport, clsSetpointChange, clsPlantQuery, clsManageRequest, clsManageAnswer, clsWake,
    clsPlantCommand, clsPlantStatus, clsQuery, clsQueryAccept]

/-! ### Codes the part sends (12.4) -/

/-- House state. -/
def HouseState.code : HouseState → Byte
  | .uncommissioned => 0 | .halt => 1 | .idle => 2 | .fan => 3 | .cool => 4 | .heat => 5 | .dry => 6 | .defrost => 7
  | .changeover => 8 | .shed => 9

/-- Zone status. -/
def ZoneStatus.code : ZoneStatus → Byte
  | .disabled => 0 | .noSource => 1 | .off => 2 | .lost => 3 | .satisfied => 4 | .served => 5 | .waiting => 6
  | .drying => 7 | .spill => 8

/-- Call. -/
def Call.code : Call → Nat
  | .none => 0 | .cool => 1 | .heat => 2 | .dry => 3

/-- Link state. -/
def LinkState.code : LinkState → Nat
  | .down => 0 | .binding => 1 | .ready => 2 | .active => 3 | .stopping => 4 | .silent => 5

/-- Node state. -/
def NodeState.code : NodeState → Nat
  | .idle => 0 | .starting => 1 | .running => 2 | .defrost => 3 | .stopping => 4 | .locked => 5

/-- The node state of a code; none for a code that is not one of the six. -/
def nodeStateOf (b : Byte) : Option NodeState :=
  if b = 0 then some .idle else if b = 1 then some .starting else if b = 2 then some .running
  else if b = 3 then some .defrost else if b = 4 then some .stopping else if b = 5 then some .locked else none

/-- Channel state. -/
def ChannelState.code : ChannelState → Byte
  | .unhomed => 0 | .queued => 1 | .moving => 2 | .seeking => 3 | .settling => 4 | .idle => 5 | .fault => 6

/-- Curtail level. -/
def CurtailLevel.code : CurtailLevel → Byte
  | .release => 0 | .level1 => 1 | .level2 => 2 | .level3 => 3

/-- Store state. -/
def StoreState.code : StoreState → Byte
  | .valid => 0 | .defaults => 1 | .saving => 2 | .invalid => 3

/-- Reset cause. -/
def ResetCause.code : ResetCause → Byte
  | .powerOn => 0 | .dropout => 1 | .line => 2

/-- Result. -/
def Result.code : Result → Nat
  | .ok => 0 | .busy => 1 | .range => 2 | .rights => 3 | .index => 4 | .conflict => 5 | .state => 6 | .unknown => 7
  | .unreachable => 8

/-- Event code. -/
def Event.code : Event → Nat
  | .supplySag => 0 | .shutdown => 1 | .damperFault => 2 | .plantLost => 3 | .plantFault => 4 | .zoneLost => 5
  | .restart => 6 | .modeChange => 7 | .curtailChange => 8 | .bindFail => 9 | .queryTimeout => 10 | .spillShort => 11
  | .defrostLong => 12 | .capabilityChange => 13 | .saveDone => 14 | .storeFail => 15

/-- The events in the order of their codes. -/
def allEvents : List Event :=
  [.supplySag, .shutdown, .damperFault, .plantLost, .plantFault, .zoneLost, .restart, .modeChange, .curtailChange,
    .bindFail, .queryTimeout, .spillShort, .defrostLong, .capabilityChange, .saveDone, .storeFail]

/-- The event of a code (R196): none above 0x0F. -/
def eventOf (b : Byte) : Option Event := allEvents[b.toNat]?

/-- Pending target (12.1): 1 COOL, 2 HEAT, 3 DRY, 0xFF absent. -/
def targetByte : Option Target → Byte
  | some .cool => 1 | some .heat => 2 | some .dry => 3 | none => 0xFF

/-- Outdoor mode (12.2). -/
def OutMode.code : OutMode → Byte
  | .off => 0 | .cool => 1 | .heat => 2

/-- Air handler mode (12.2). -/
def AirMode.code : AirMode → Byte
  | .off => 0 | .fan => 1 | .cool => 2 | .heat => 3 | .dry => 4

/-- The target of a query (12.1). -/
def nodeCode : Node → Byte
  | .airHandler => 0 | .outdoorUnit => 1

/-- The node of a target code (R159): none for a code that names neither. -/
def nodeOf (b : Byte) : Option Node :=
  if b = 0 then some .airHandler else if b = 1 then some .outdoorUnit else none

/-- The kind of a held result (12.1). -/
def ReplyKind.code : ReplyKind → Nat
  | .setpoint => 1 | .query => 2

/-- The status byte of a delivered or read query answer (12.1). -/
def AnswerStatus.byte : AnswerStatus → Byte
  | .code c => c | .timeout => 1 | .unreachable => 2

/-! ### Codes of table records (12.3) -/

/-- Role. -/
def Role.code : Role → Byte
  | .panel => 0 | .sensor => 1 | .tool => 2 | .display => 3

/-- The role of a code. -/
def roleOf (b : Byte) : Option Role :=
  if b = 0 then some .panel else if b = 1 then some .sensor else if b = 2 then some .tool
  else if b = 3 then some .display else none

/-- Mode permission. -/
def Permission.code : Permission → Byte
  | .auto => 0 | .heatOnly => 1 | .coolOnly => 2

/-- The mode permission of a code. -/
def permissionOf (b : Byte) : Option Permission :=
  if b = 0 then some .auto else if b = 1 then some .heatOnly else if b = 2 then some .coolOnly else none

/-! ### Codes that READ STATE sends and the manual does not list (log entry 7) -/

/-- The state of a zone's loss timer. -/
def LossTimer.byte : LossTimer → Byte
  | .running _ => Config.unlistedCode .lossTimer 0
  | .expired => Config.unlistedCode .lossTimer 1
  | .stopped => Config.unlistedCode .lossTimer 2

/-- Line state. -/
def LineState.byte : LineState → Byte
  | .answering => Config.unlistedCode .lineState 0
  | .silent => Config.unlistedCode .lineState 1

/-- The kind of an active goal; the absent code for no goal. -/
def goalByte : Option Goal → Byte
  | some (.move _) => Config.unlistedCode .goalKind 0
  | some .seekOpen => Config.unlistedCode .goalKind 1
  | some .seekClosed => Config.unlistedCode .goalKind 2
  | some .home => Config.unlistedCode .goalKind 3
  | none => 0xFF

/-- Train state. -/
def TrainState.byte : TrainState → Byte
  | .quiet => Config.unlistedCode .trainState 0
  | .pulse => Config.unlistedCode .trainState 1
  | .gap => Config.unlistedCode .trainState 2
  | .waitRest => Config.unlistedCode .trainState 3

/-- The outcome of a train: the level it ordered by the codes of section 12.4; INVALID has no code in the manual. -/
def TrainOutcome.byte : TrainOutcome → Byte
  | .valid l => l.code
  | .invalid => Config.unlistedCode .trainOutcome 4

/-- The last run mode, an outdoor mode of 12.2: 1 COOL, 2 HEAT, and the absent code for none. -/
def runModeByte : Option RunMode → Byte
  | some .cool => 1
  | some .heat => 2
  | none => 0xFF

/-- Supply state. -/
def SupplyState.byte : SupplyState → Byte
  | .normal => Config.unlistedCode .supplyState 0
  | .sag => Config.unlistedCode .supplyState 1

/-- Shutdown input state. -/
def InputState.byte : InputState → Byte
  | .asserted => Config.unlistedCode .inputState 0
  | .released => Config.unlistedCode .inputState 1

/-- The state of a Query list entry. POLL gives codes to two of the four (12.1). -/
def QueryState.byte : QueryState → Byte
  | .waiting => Config.unlistedCode .queryState 0
  | .sent => Config.unlistedCode .queryState 1
  | .answered => 1
  | .expired => 2

end Sys2Proof.Machine
end

