-- ==== Sys2Proof/Machine/Flags.lean ====
section
/-! DEFINITION. The flags of the part: the marks of the event list and the conditions of the condition events (sections 11.5
and 11.6), the availability of the plant nodes and the shed condition (section 2.4). -/

namespace Sys2Proof.Machine

/-! ### The marks of the event list -/

/-- The bit of an event in a bitmap of marks. -/
def Event.bit (e : Event) : BitVec 16 := BitVec.twoPow 16 e.code

/-- An event's mark in a bitmap. -/
def marked (m : BitVec 16) (e : Event) : Bool := m.getLsbD e.code

/-- Raise an event (R191, R193). When its raised mark is no, its raised and undelivered marks become yes and it leaves the
outstanding offer. When the raised mark is yes, nothing changes. -/
def State.raise (s : State) (e : Event) : State :=
  if marked s.events.raised e then s
  else s.setEvents
    { raised := s.events.raised ||| e.bit
      undelivered := s.events.undelivered ||| e.bit
      offer := s.events.offer.map (· &&& ~~~e.bit) }

/-- Clear the raised and undelivered marks of an event (R192). -/
def State.unraise (s : State) (e : Event) : State :=
  s.setEvents
    { s.events with
      raised := s.events.raised &&& ~~~e.bit
      undelivered := s.events.undelivered &&& ~~~e.bit }

/-- Notice pending holds (R193). -/
def State.noticePending (s : State) : Bool :=
  decide (s.events.raised &&& s.profile.enable &&& s.events.undelivered ≠ 0)

/-- The list of every raised, enabled event (R193). -/
def State.noticeList (s : State) : BitVec 16 := s.events.raised &&& s.profile.enable

/-- The outstanding offer ends (R194): with NOTICE TAKEN every event still in it has its undelivered mark set to no. -/
def State.endOffer (s : State) (taken : Bool) : State :=
  match s.events.offer with
  | some o =>
    s.setEvents
      { s.events with
        undelivered := if taken then s.events.undelivered &&& ~~~o else s.events.undelivered
        offer := none }
  | none => s

/-! ### Availability of the plant nodes (R33) -/

/-- A node whose latest reported state is LOCKED. -/
def Link.isLocked (l : Link) : Bool := decide (l.nodeState = some .locked)

/-- Startable (R33). -/
def Link.startable (l : Link) : Bool :=
  (decide (l.state = .ready) || decide (l.state = .active)) && l.cap.isSome && !l.isLocked

/-- Available (R33). -/
def Link.available (l : Link) : Bool :=
  (decide (l.state = .ready) || decide (l.state = .active) || decide (l.state = .stopping) || decide (l.state = .silent))
    && l.cap.isSome && !l.isLocked

/-- A link in the set READY and ACTIVE, as the relay asks (R159, R165). -/
def LinkState.reachable (s : LinkState) : Bool := decide (s = .ready) || decide (s = .active)

/-- The bound minimum capacity of the outdoor unit. -/
def State.cmin (s : State) : Option Nat :=
  match (s.link .outdoorUnit).cap with
  | some (.outdoor c _) => some c
  | _ => none

/-- The outdoor capability is bound with heat-pump = no (R35). -/
def State.noHeatPump (s : State) : Bool :=
  match (s.link .outdoorUnit).cap with
  | some (.outdoor _ hp) => !hp
  | _ => false

/-- The bound limits of the air handler: Qmin and Qmax. -/
def State.airLimits (s : State) : Option (Nat × Nat) :=
  match (s.link .airHandler).cap with
  | some (.air lo hi _) => some (lo, hi)
  | _ => none

/-- The air handler's bound capability reports reheat present. -/
def State.reheatPresent (s : State) : Bool :=
  match (s.link .airHandler).cap with
  | some (.air _ _ r) => r
  | _ => false

/-- The curtail cap of a level, percent (R170). -/
def CurtailLevel.cap : CurtailLevel → Nat
  | .release => 100 | .level1 => 70 | .level2 => 40 | .level3 => 0

/-- The curtail cap in force. -/
def State.cap (s : State) : Nat := s.decoder.level.cap

/-- The shed condition (R33): the outdoor unit's Cmin is present and the cap is below it. -/
def State.shedCondition (s : State) : Bool :=
  match s.cmin with
  | some c => decide (s.cap < c)
  | none => false

/-! ### Conditions of the condition events -/

/-- The condition of PLANT FAULT (R149). -/
def State.plantFaultHolds (s : State) : Bool :=
  let bad (l : Link) : Bool := match l.fault with | some c => decide (c ≠ 0) | none => false
  bad (s.link .airHandler) || bad (s.link .outdoorUnit)

/-- The condition of PLANT LOST (R145). -/
def State.plantLostHolds (s : State) : Bool := (s.link .airHandler).lost || (s.link .outdoorUnit).lost

/-- The condition of DAMPER FAULT (R97). -/
def State.damperFaultHolds (s : State) : Bool := anyIx fun c : ChannelId => decide ((s.channel c).state = .fault)

/-- The condition of ZONE LOST (R8): at least one enabled zone is LOST. -/
def State.zoneLostHolds (s : State) : Bool :=
  anyIx fun z : ZoneId => (s.zoneCfg z).enabled && decide ((s.zone z).status = .lost)

/-- Whether an event is a condition event whose condition holds (R191). -/
def State.conditionHolds (s : State) : Event → Bool
  | .supplySag => decide (s.supply.supply = .sag)
  | .shutdown => s.supply.latch
  | .damperFault => s.damperFaultHolds
  | .plantLost => s.plantLostHolds
  | .plantFault => s.plantFaultHolds
  | .zoneLost => s.zoneLostHolds
  | .restart => false
  | .modeChange => false
  | .curtailChange => false
  | .bindFail => false
  | .queryTimeout => false
  | .spillShort => false
  | .defrostLong => false
  | .capabilityChange => false
  | .saveDone => false
  | .storeFail => false

/-- Clear one event (R192): its marks become no, and a condition event whose condition holds is raised again at once. -/
def State.clearEvent (s : State) (e : Event) : State :=
  let s := s.unraise e
  if s.conditionHolds e then s.raise e else s

end Sys2Proof.Machine
end

