-- ==== Sys2Proof/Machine/Operands.lean ====
section
/-! DEFINITION. The operand forms: frames and their check (sections 5.1 and 12.1), the judging of a burst (R112, R117), and the
parts of a payload that every reply of a class carries. -/

namespace Sys2Proof.Machine

/-! ### The check and the envelope -/

/-- One step of the check: the generator is x^16 + x^12 + x^5 + 1 (R105). -/
def crcBit (c : BitVec 16) : BitVec 16 := if c.msb then (c <<< 1) ^^^ 0x1021 else c <<< 1

/-- A byte enters the check most significant bit first (R105). -/
def crcByte (c : BitVec 16) (b : Byte) : BitVec 16 :=
  let c := c ^^^ (b ++ 0x00#8)
  crcBit (crcBit (crcBit (crcBit (crcBit (crcBit (crcBit (crcBit c)))))))

/-- The check over a run of bytes, from all ones (R105). -/
def crc16 (bs : List Byte) : BitVec 16 := bs.foldl crcByte 0xFFFF

/-- A frame of the coordinator: source 0x01, the check high byte first (R104, R105, R108). -/
def frameTo (dest cls : Byte) (payload : List Byte) : List Byte :=
  let body := [dest, coordinatorAddress, cls, u8 payload.length] ++ payload
  body ++ bytes16 (crc16 body)

/-! ### Bursts (R103, R107) -/

/-- A silence of 4 ms or more between the stop bit of a byte and the start bit of the next one (R103). -/
def gapBetween (c d : LineByte) : Bool := decide (d.age + byteTime 1 + frameGap ≤ c.age)

/-- A byte goes in front of the first of some bursts. -/
def joinFirst (c : LineByte) : List (List LineByte) → List (List LineByte)
  | [] => [[c]]
  | p :: ps => (c :: p) :: ps

/-- The bytes that a line has brought, cut into bursts: without the bytes lost, and with a new burst after each of them and
between two bytes that something parts. -/
def cutBursts (lost : LineByte → Bool) (parted : LineByte → LineByte → Bool) : List LineByte → List (List LineByte)
  | [] => []
  | c :: rest =>
    let cut := cutBursts lost parted rest
    if lost c then cut
    else
      match rest with
      | [] => [[c]]
      | d :: _ => if lost d || parted c d then [c] :: cut else joinFirst c cut

/-- A burst is over: its 4 ms of silence have passed (R103). -/
def burstOver (p : List LineByte) : Bool :=
  match p.getLast? with
  | some c => decide (byteTime 1 + frameGap ≤ c.age)
  | none => false

/-- The moment at which the start bit of a byte began. -/
def byteStart (now : Time) (c : LineByte) : Time := now - c.age

/-- The moment at which the stop bit of a byte ended. -/
def byteStop (now : Time) (c : LineByte) : Time := byteStart now c + byteTime 1

/-- The moment at which the last stop bit of a frame of the port ends. -/
def OwnFrame.stop (f : OwnFrame) : Time := f.start + byteTime f.bytes

/-- A byte and a frame of the port are on the line together. -/
def OwnFrame.covers (f : OwnFrame) (now : Time) (c : LineByte) : Bool :=
  decide (byteStart now c < f.stop) && decide (f.start < byteStop now c)

/-- A frame of the port lies between two bytes. -/
def OwnFrame.parts (f : OwnFrame) (now : Time) (c d : LineByte) : Bool :=
  decide (byteStop now c ≤ f.start) && decide (f.stop ≤ byteStart now d)

/-- A byte that a node sends over a frame of the port is lost: while a port sends, its receiver is off (R107). -/
def lostUnder (now : Time) (frames : List OwnFrame) (c : LineByte) : Bool := frames.any fun f => f.covers now c

/-- Two bytes belong to two bursts: 4 ms of silence lie between them (R103), or a frame of the port, which the burst under way
does not outlast as one (R107). DEDUCED (log entry 49) for a frame in whose time no byte is lost. -/
def partedBy (now : Time) (frames : List OwnFrame) (c d : LineByte) : Bool :=
  gapBetween c d || frames.any fun f => f.parts now c d

/-- The bursts that are over and that a port has heard of what a line has brought, in their order (R103, R107), when it has sent
some frames. -/
def heard (b : Burst) (now : Time) (frames : List OwnFrame) : List Burst :=
  ((cutBursts (lostUnder now frames) (partedBy now frames) b.chars).filter burstOver).map fun p => { b with chars := p }

/-- The time a frame with a payload of `n` bytes takes on the line (R104). -/
def frameTime (n : Nat) : Time := byteTime (n + 6)

/-- A burst is sound (R104): its length is N + 6 with N of at most 32, and the check over the whole of it ends at 0. -/
def sound (bs : List Byte) : Bool :=
  decide (6 ≤ bs.length) && decide ((byteAt bs 3).toNat ≤ 32) && decide (bs.length = (byteAt bs 3).toNat + 6)
    && decide (crc16 bs = 0)

/-- The destination of a sound burst. -/
def frameDest (bs : List Byte) : Byte := byteAt bs 0
/-- The source of a sound burst. -/
def frameSource (bs : List Byte) : Byte := byteAt bs 1
/-- The class of a sound burst. -/
def frameClass (bs : List Byte) : Byte := byteAt bs 2
/-- The payload of a sound burst. -/
def framePayload (bs : List Byte) : List Byte := (bs.drop 4).dropLast.dropLast

/-! ### Judging a burst -/

/-- What a burst is to the port that receives it. -/
inductive Verdict where
  /-- The part is held in reset or starting up: its lines are silent and nothing is received. -/
  | unheard
  /-- It falls outside any wait (R107). -/
  | outside (isSound : Bool)
  /-- It decides the wait and is not sound (R106). -/
  | unsound
  /-- It decides the wait, is sound, and its source is not the node addressed (R112). -/
  | impostor
  /-- It decides the wait, is sound, and is a miss for another reason (R112). -/
  | miss
  /-- It decides the wait and is a valid reply. -/
  | valid (cls : Byte) (payload : List Byte)
  deriving DecidableEq, Repr

/-- The tests of R112 on the burst that decides a wait for `source`, in their order. `fits` says whether a class answers the
frame sent and the payload holds the fixed part that the class requires. -/
def judge (source : Byte) (fits : Byte → List Byte → Bool) (bs : List Byte) : Verdict :=
  if !sound bs then .unsound
  else if frameDest bs ≠ coordinatorAddress then .miss
  else if frameSource bs ≠ source then .impostor
  else if frameClass bs ∉ knownClasses then .miss
  else if !fits (frameClass bs) (framePayload bs) then .miss
  else .valid (frameClass bs) (framePayload bs)

/-- The moment at which a burst of an age began. -/
def State.began (s : State) (age : Nat) : Time := s.now - age

/-- The room reply classes and their fixed parts (R109, R195). A ROOM REPORT whose contents byte marks a setpoints part
requires 11 bytes. -/
def roomFits (cls : Byte) (p : List Byte) : Bool :=
  if cls = clsNothing then decide (1 ≤ p.length)
  else if cls = clsRoomReport then
    decide (5 ≤ p.length) && (!(byteAt p 1).getLsbD 2 || decide (11 ≤ p.length))
  else if cls = clsSetpointChange then decide (9 ≤ p.length)
  else if cls = clsPlantQuery then decide (5 ≤ p.length)
  else if cls = clsManageRequest then decide (2 ≤ p.length)
  else false

/-- The class that answers a plant frame, and its fixed part (R109, R117, R195). -/
def plantFits (e : Expects) (cls : Byte) (p : List Byte) : Bool :=
  match e with
  | .status => decide (cls = clsPlantStatus) && decide (8 ≤ p.length)
  | .accept => decide (cls = clsQueryAccept) && decide (1 ≤ p.length)

/-- A burst of an age began within a wait (R107, R111, R117): at or after the end of the frame that opened the wait, and at or
before the end of its timeout. -/
def State.beginsWithin (s : State) (age : Nat) (closes timeout : Time) : Bool :=
  decide (closes ≤ s.began age + timeout) && decide (s.began age ≤ closes)

/-- A wait whose timeout has run ends (R111, R117), unless a burst that began within it is still under way: that burst decides
it when it is over. -/
def State.waitEnds (s : State) (closes timeout : Time) (under : Option Nat) : Bool :=
  decide (closes ≤ s.now) && !under.any fun age => s.beginsWithin age closes timeout

/-- A line lets a frame go that became due at a moment (R107): it has been silent for 4 ms, or it has not fallen silent for 50 ms
since then and is taken to be held by a faulty node. -/
def State.lineLets (s : State) (quiet : Nat) (dueSince : Time) : Bool :=
  decide (frameGap ≤ quiet) || decide (dueSince + ms 50 ≤ s.now)

/-- What a burst on the room line is (R107, R111, R112). The first burst to begin within the timeout decides the wait. A burst is
heard as a whole or not at all, by whether start-up has completed when it is judged, also when it began before that: DESIGN
CHOICE (log entry 50). -/
def State.roomVerdict (s : State) (b : Burst) : Verdict :=
  if !s.isRunning then .unheard
  else
    match s.room.wait with
    | some w =>
      if s.beginsWithin b.age w.closes (ms 30) then judge w.address roomFits b.bytes else .outside (sound b.bytes)
    | none => .outside (sound b.bytes)

/-- What a burst on the plant line is (R107, R117); one that began before start-up completed as on the room line (log entry
50). -/
def State.plantVerdict (s : State) (b : Burst) : Verdict :=
  if !s.isRunning then .unheard
  else
    match s.plant.wait with
    | some w =>
      if s.beginsWithin b.age w.closes (ms 50) then judge (nodeAddress w.node) (plantFits w.expects) b.bytes
      else .outside (sound b.bytes)
    | none => .outside (sound b.bytes)

/-! ### Line counters (R118) -/

/-- One good frame. -/
def Counters.goodFrame (c : Counters) : Counters := { c with good := satInc 65535 c.good }
/-- One check error. -/
def Counters.checkError (c : Counters) : Counters := { c with checkErrors := satInc 65535 c.checkErrors }
/-- One miss. -/
def Counters.miss (c : Counters) : Counters := { c with misses := satInc 65535 c.misses }
/-- One impostor. -/
def Counters.impostor (c : Counters) : Counters := { c with impostors := satInc 65535 c.impostors }

/-- The counts a verdict raises (R106, R112, R118). -/
def Verdict.count (v : Verdict) (c : Counters) : Counters :=
  match v with
  | .unheard => c
  | .outside true => c.goodFrame
  | .outside false => c.checkError
  | .unsound => c.checkError.miss
  | .impostor => c.goodFrame.impostor.miss
  | .miss => c.goodFrame.miss
  | .valid _ _ => c.goodFrame

/-! ### The parts of a room reply (12.1) -/

/-- How a setpoint value is given (12.1). -/
inductive Marking where
  | notGiven | absolute | offset | bad
  deriving DecidableEq, Repr

/-- The marking of two bits. -/
def markingOf (w : BitVec 2) : Marking :=
  if w = 0 then .notGiven else if w = 1 then .absolute else if w = 2 then .offset else .bad

/-- A setpoint value with its marking. -/
structure SetpointValue where
  marking : Marking
  value : Int
  deriving DecidableEq, Repr

/-- A setpoints part: the heat, cool and dry values. -/
structure Setpoints where
  heat : SetpointValue
  cool : SetpointValue
  dry : SetpointValue
  deriving DecidableEq, Repr

/-- The setpoints part that begins at byte `i` of a payload. -/
def setpointsAt (p : List Byte) (i : Nat) : Setpoints where
  heat := ⟨markingOf ((byteAt p i).extractLsb' 0 2), int16 (byteAt p (i + 1)) (byteAt p (i + 2))⟩
  cool := ⟨markingOf ((byteAt p i).extractLsb' 2 2), int16 (byteAt p (i + 3)) (byteAt p (i + 4))⟩
  dry := ⟨markingOf ((byteAt p i).extractLsb' 4 2), (byteAt p (i + 5)).toInt⟩

/-- Every value given is marked absolute or offset (R124, R125). -/
def Setpoints.wellMarked (x : Setpoints) : Bool :=
  decide (x.heat.marking ≠ .bad) && decide (x.cool.marking ≠ .bad) && decide (x.dry.marking ≠ .bad)

/-- The value that a setpoint value forms from the present one, before clamping; none when it is not given (R14, R16). -/
def SetpointValue.form (v : SetpointValue) (current : Int) : Option Int :=
  match v.marking with
  | .absolute => some v.value
  | .offset => some (current + v.value)
  | .notGiven => none
  | .bad => none

/-- A ROOM REPORT (12.1). -/
structure RoomReport where
  temp : Option Int
  hum : Option Int
  setpoints : Option Setpoints
  switchOn : Bool
  fan : Bool
  deriving DecidableEq, Repr

/-- The ROOM REPORT of a payload. -/
def roomReportOf (p : List Byte) : RoomReport :=
  let m := byteAt p 1
  { temp := if m.getLsbD 0 then some (int16 (byteAt p 2) (byteAt p 3)) else none
    hum := if m.getLsbD 1 then some ((byteAt p 4).toNat : Int) else none
    setpoints := if m.getLsbD 2 then some (setpointsAt p 5) else none
    switchOn := m.getLsbD 3
    fan := m.getLsbD 4 }

/-- The scope of a setpoint change (R14); `unknown` for a code that names none of the three. -/
inductive Scope where
  | zone | group | house | unknown
  deriving DecidableEq, Repr

/-- The scope of a code (12.1). -/
def scopeOf (b : Byte) : Scope :=
  if b = 0 then .zone else if b = 1 then .group else if b = 2 then .house else .unknown

/-! ### The answer part and the annex item of a PLANT STATUS (12.2) -/

/-- The answer part of a PLANT STATUS: present when the payload holds 14 bytes or more. -/
structure AnswerPart where
  tag : Nat
  code : Byte
  value : BitVec 32
  deriving DecidableEq, Repr

/-- The answer part of a payload. -/
def answerPartOf (p : List Byte) : Option AnswerPart :=
  if 14 ≤ p.length then
    some ⟨(byteAt p 8).toNat, byteAt p 9, word32 (byteAt p 10) (byteAt p 11) (byteAt p 12) (byteAt p 13)⟩
  else none

/-- A temperature of annex slot 2, absent when it lies outside −400 to 800 (R151). -/
def annexTemp (hi lo : Byte) : Option Int :=
  let x := int16 hi lo
  if -400 ≤ x ∧ x ≤ 800 then some x else none

/-- The capability of a slot 1 datum; none when it is not in range (R151, 12.2). -/
def capabilityOf (n : Node) (a b c : Byte) : Option Capability :=
  match n with
  | .outdoorUnit =>
    if 10 ≤ a.toNat ∧ a.toNat ≤ 60 ∧ b.toNat ≤ 1 then some (.outdoor a.toNat (decide (b = 1))) else none
  | .airHandler =>
    if 10 ≤ a.toNat ∧ a.toNat ≤ 200 ∧ 10 ≤ b.toNat ∧ b.toNat ≤ 250 ∧ a.toNat * 5 < b.toNat * 10 ∧ c.toNat ≤ 1 then
      some (.air (a.toNat * 5) (b.toNat * 10) (decide (c = 1)))
    else none

/-- The value of an annex datum for slot `k`, counted from 0; none for a slot 1 datum that is not in range. -/
def annexValueOf (n : Node) (k : Fin 5) (a b c d : Byte) : Option AnnexValue :=
  match k with
  | 0 => (capabilityOf n a b c).map .capability
  | 1 => some (.temps (annexTemp a b) (annexTemp c d))
  | 2 => some (.faultCode (nat16 c d))
  | 3 => some (.counter (word32 a b c d).toNat)
  | 4 => some (.counter (word32 a b c d).toNat)

/-- The four bytes of a capability (12.2). -/
def Capability.bytes : Capability → List Byte
  | .outdoor cmin hp => [u8 cmin, u8 hp.toNat, 0, 0]
  | .air qmin qmax r => [u8 (qmin / 5), u8 (qmax / 10), u8 r.toNat, 0]

/-- The four bytes of an annex value (12.2). -/
def AnnexValue.bytes : AnnexValue → List Byte
  | .capability c => c.bytes
  | .temps x y => optI16 x ++ optI16 y
  | .faultCode c => [0, 0] ++ u16 c
  | .counter n => u32 n

end Sys2Proof.Machine
end

