-- ==== Sys2Proof/Machine/Relay.lean ====
section
/-! DEFINITION. The query relay (Chapter 8): the Query list, taking a query, acceptance, answers, expiry and removal. -/

namespace Sys2Proof.Machine

/-- An entry that is still in progress (R158). -/
def QueryEntry.inProgress (e : QueryEntry) : Bool := decide (e.state = .waiting) || decide (e.state = .sent)

/-- An entry due for delivery (R164). -/
def QueryEntry.deliverable (e : QueryEntry) : Bool := decide (e.state = .answered) || decide (e.state = .expired)

/-- The lowest tag from 0 to 15 that no entry holds (R159). -/
def freeTag (es : List QueryEntry) : Nat :=
  ((List.range 16).find? fun t => es.all fun e => decide (e.tag ≠ t)).getD 0

/-- A query taken from a room node: its result, with the tag when OK, and the part after (R159). -/
def State.takeQuery (s : State) (requester target item : Byte) (argument : BitVec 16) : HeldResult × State :=
  match nodeOf target with
  | none => (⟨.query, .unreachable, none⟩, s)
  | some n =>
    if !(s.link n).state.reachable then (⟨.query, .unreachable, none⟩, s)
    else if s.relay.entries.any (fun e => decide (e.requester = requester)) then (⟨.query, .busy, none⟩, s)
    else if 4 ≤ s.relay.entries.length then (⟨.query, .busy, none⟩, s)
    else
      let tag := freeTag s.relay.entries
      let e : QueryEntry :=
        { requester, target := n, item, argument, tag, state := .waiting, status := none, value := none,
          sentTime := none, answerDue := none }
      (⟨.query, .ok, some tag⟩, s.setRelay { s.relay with entries := s.relay.entries ++ [e] })

/-- The query on the line is that of an entry. -/
def Relay.onLineIs (r : Relay) (e : QueryEntry) : Bool := decide (r.onLine = some e.tag)

/-- The entry offered to a query slot (R160): the WAITING entry nearest the head whose tag is not the query on the line. -/
def Relay.offered (r : Relay) : Option QueryEntry :=
  r.entries.find? fun e => decide (e.state = .waiting) && !r.onLineIs e

/-- The QUERY of a tag has been sent (R160). -/
def State.queryOnLine (s : State) (tag : Nat) : State := s.setRelay { s.relay with onLine := some tag }

/-- The wait of the query on the line has ended without an acceptance (R160). -/
def State.queryOffLine (s : State) : State := s.setRelay { s.relay with onLine := none }

/-- An entry accepted by its node (R161). -/
def QueryEntry.accepted (e : QueryEntry) (now : Time) : QueryEntry :=
  { e with state := .sent, sentTime := some now, answerDue := some (now + sec 2) }

/-- A valid QUERY ACCEPT of a tag (R161). -/
def State.queryAccepted (s : State) (tag : Nat) : State :=
  match s.relay.onLine with
  | none => s
  | some t =>
    if t = tag then
      s.setRelay
        { s.relay with
          entries := s.relay.entries.map fun e =>
            if e.tag = tag ∧ e.state = .waiting then e.accepted s.now else e
          onLine := none }
    else s.queryOffLine

/-- An entry that an answer part of a node matches (R162). -/
def QueryEntry.matchesAnswer (e : QueryEntry) (n : Node) (tag : Nat) : Bool :=
  decide (e.state = .sent) && decide (e.tag = tag) && decide (e.target = n)

/-- An entry with its answer (R162). -/
def QueryEntry.answered (e : QueryEntry) (a : AnswerPart) : QueryEntry :=
  { e with state := .answered, status := some (.code a.code), value := some a.value, answerDue := none }

/-- An answer part from a node (R162): it answers the entry it matches, or it is late. -/
def State.takeAnswer (s : State) (n : Node) (a : AnswerPart) : State :=
  if s.relay.entries.any (fun e => e.matchesAnswer n a.tag) then
    s.setRelay
      { s.relay with entries := s.relay.entries.map fun e => if e.matchesAnswer n a.tag then e.answered a else e }
  else s.setRelay { s.relay with late := satInc 65535 s.relay.late }

/-- An entry that will take no answer, with the reason (R163, R165). -/
def QueryEntry.expire (e : QueryEntry) (why : AnswerStatus) : QueryEntry :=
  { e with state := .expired, status := some why, answerDue := none }

/-- A SENT entry of the tag whose answer timer has expired. -/
def QueryEntry.timedOut (e : QueryEntry) (tag : Nat) (now : Time) : Bool :=
  decide (e.tag = tag) && decide (e.state = .sent) && due e.answerDue now

/-- The answer timer of the entry with a tag expires (R163). -/
def State.answerTimerExpired (s : State) (tag : Nat) : State :=
  if s.relay.entries.any (fun e => e.timedOut tag s.now) then
    (s.setRelay
      { s.relay with entries := s.relay.entries.map fun e =>
          if e.timedOut tag s.now then e.expire .timeout else e }).raise .queryTimeout
  else s

/-- An entry in progress at a node. -/
def QueryEntry.openAt (e : QueryEntry) (n : Node) : Bool := e.inProgress && decide (e.target = n)

/-- The link of a node leaves the set READY and ACTIVE (R165): its open entries expire, and the query on the line becomes
absent if it belonged to one of them. -/
def State.expireQueries (s : State) (n : Node) : State :=
  s.setRelay
    { s.relay with
      entries := s.relay.entries.map fun e => if e.openAt n then e.expire .unreachable else e
      onLine := if s.relay.entries.any (fun e => s.relay.onLineIs e && e.openAt n) then none else s.relay.onLine }

/-- An address has left the Route Table (R166): its entry is freed, with the query on the line if it belonged to it. -/
def State.freeQueriesOf (s : State) (a : Byte) : State :=
  s.setRelay
    { s.relay with
      entries := s.relay.entries.filter fun e => decide (e.requester ≠ a)
      onLine :=
        if s.relay.entries.any (fun e => s.relay.onLineIs e && decide (e.requester = a)) then none else s.relay.onLine }

/-- The entry due for delivery to an address (R131, R164). -/
def Relay.deliveryFor (r : Relay) (a : Byte) : Option QueryEntry :=
  r.entries.find? fun e => decide (e.requester = a) && e.deliverable

/-- The entry delivered to an address is freed (R164). -/
def State.freeDelivered (s : State) (a : Byte) : State :=
  s.setRelay
    { s.relay with entries := s.relay.entries.filter fun e => !(decide (e.requester = a) && e.deliverable) }

end Sys2Proof.Machine
end

