-- ==== Sys2Proof/Machine/Record.lean ====
section
/-! DEFINITION. Writing the plant command record (R27), with all that follows at the same write: the start and stop of the
compressor (R36), MODE CHANGE (R53) and the stop sequences of the links (R138, R143). -/

namespace Sys2Proof.Machine

/-- Set the state of a link and hand it to the query relay (R157, R165). -/
def State.setLinkState (s : State) (n : Node) (st : LinkState) : State :=
  let old := (s.link n).state
  let s := s.setLink n { s.link n with state := st }
  if old.reachable && !st.reachable then s.expireQueries n else s

/-- Close the stop sequence of a node (R138): its timer stops. -/
def State.closeStop (s : State) (n : Node) : State :=
  s.setLink n { s.link n with stopOpen := false, stopDue := none }

/-- Open the stop sequence of a node (R138): count 0, the timer started with 10 s. -/
def State.openStop (s : State) (n : Node) : State :=
  s.setLink n { s.link n with stopOpen := true, stopCount := 0, stopDue := s.after (sec 10) }

/-- The node's mode has turned from non-OFF to OFF (R138, R143). -/
def State.modeTurnedOff (s : State) (n : Node) : State :=
  match (s.link n).state with
  | .ready => (s.openStop n).setLinkState n .stopping
  | .active => (s.openStop n).setLinkState n .stopping
  | .stopping => (s.openStop n).setLinkState n .stopping
  | .silent => s.openStop n
  | .down => s
  | .binding => s

/-- The node's mode has turned from OFF to non-OFF (R138, R143). -/
def State.modeTurnedOn (s : State) (n : Node) : State :=
  if (s.link n).stopOpen then
    let s := s.closeStop n
    if (s.link n).state = .stopping then s.setLinkState n .ready else s
  else s

/-- A link watches a write of the record: its node's mode was non-OFF or not before it, and is or is not after it (R138). -/
def State.watchMode (s : State) (n : Node) (was is : Bool) : State :=
  if was && !is then s.modeTurnedOff n else if !was && is then s.modeTurnedOn n else s

/-- The outdoor unit is commanded to run. -/
def Command.outOn (c : Command) : Bool := decide (c.outMode ≠ .off)

/-- The air handler is commanded non-OFF. -/
def Command.airOn (c : Command) : Bool := decide (c.airMode ≠ .off)

/-- A node is commanded non-OFF (R137). -/
def State.commandedOn (s : State) : Node → Bool
  | .airHandler => s.command.airOn
  | .outdoorUnit => s.command.outOn

/-- The run mode of an outdoor mode; none for OFF. -/
def OutMode.run : OutMode → Option RunMode
  | .off => none
  | .cool => some .cool
  | .heat => some .heat

/-- The arbiter's timers and marks at a write that takes the outdoor mode from `a` to `b` (R32, R36): a start runs the run
timer, stops the rest timer, sets the last run mode and clears the pending target; a stop does the reverse and clears hold. -/
def Arbiter.atOutMode (x : Arbiter) (now : Time) (a b : OutMode) : Arbiter :=
  if a = .off ∧ b ≠ .off then
    { x with runStart := some now, restStart := none, lastRun := b.run, pendingTarget := none }
  else if a ≠ .off ∧ b = .off then { x with runStart := none, restStart := some now, hold := false }
  else x

/-- Write the plant command record. -/
def State.writeCommand (s : State) (c : Command) : State :=
  let old := s.command
  let s := ({ s with command := c }).setArbiter (s.arbiter.atOutMode s.now old.outMode c.outMode)
  let s := if old.outMode ≠ c.outMode then s.raise .modeChange else s
  let s := s.watchMode .airHandler old.airOn c.airOn
  s.watchMode .outdoorUnit old.outOn c.outOn

/-- The record that commands both nodes OFF (R27). -/
def commandOff : Command := resetCommand

/-- Enter a house state: the hold mark becomes no at every change of house state (R39). -/
def State.enterHouse (s : State) (h : HouseState) : State :=
  s.setArbiter
    { s.arbiter with house := h, hold := if s.arbiter.house = h then s.arbiter.hold else false }

/-- Stop the dwell and defrost timers and clear the remembered airflow, as every rule that leaves CHANGEOVER or DEFROST does
(R43, R45, R46, R48, R50, R51). -/
def State.stopHouseTimers (s : State) : State :=
  s.setArbiter { s.arbiter with dwellStart := none, defrostDue := none, remembered := none }

/-- Set or clear the pending target. -/
def State.setTarget (s : State) (t : Option Target) : State := s.setArbiter { s.arbiter with pendingTarget := t }

end Sys2Proof.Machine
end

