-- ==== Sys2Proof/Machine/Zones.lean ====
section
/-! DEFINITION. Zones and their demand (Chapter 1). -/

namespace Sys2Proof.Machine

/-! ### Sources, switch and fan request -/

/-- A used PANEL or SENSOR entry of a zone (R4). -/
def RouteCfg.isSourceOf (e : RouteCfg) (z : ZoneId) : Bool :=
  e.used && (decide (e.role = .panel) || decide (e.role = .sensor)) && decide (e.zone = some z)

/-- The used PANEL entry of a zone. -/
def RouteCfg.isPanelOf (e : RouteCfg) (z : ZoneId) : Bool :=
  e.used && decide (e.role = .panel) && decide (e.zone = some z)

/-- A zone has a source (R4). -/
def State.hasSource (s : State) (z : ZoneId) : Bool := anyIx fun i : RouteId => (s.routeCfg i).isSourceOf z

/-- The PANEL entry of a zone. -/
def State.panelOf (s : State) (z : ZoneId) : Option RouteId :=
  (List.finRange 16).find? fun i => (s.routeCfg i).isPanelOf z

/-- The loss timer of a zone has expired. -/
def ZoneRun.expired (r : ZoneRun) : Bool := decide (r.loss = .expired)

/-- A zone is lost (R8). -/
def State.isLost (s : State) (z : ZoneId) : Bool := s.hasSource z && (s.zone z).expired

/-- A zone that takes part in the house decision: enabled, with a source, not lost, its switch ON (R17). -/
def State.inPlay (s : State) (z : ZoneId) : Bool :=
  (s.zoneCfg z).enabled && s.hasSource z && !(s.zone z).expired && (s.zone z).switchOn

/-- A fan request counts (R10). -/
def State.fanCounts (s : State) (z : ZoneId) : Bool := (s.zone z).fan && s.inPlay z

/-- At least one counted fan request exists. -/
def State.anyFan (s : State) : Bool := anyIx fun z : ZoneId => s.fanCounts z

/-! ### Zone status (R23) -/

/-- The house blows air without the compressor: FAN, or SHED while the air handler runs its fan. -/
def State.fanRuns (s : State) : Bool :=
  decide (s.house = .fan) || (decide (s.house = .shed) && decide (s.command.airMode = .fan))

/-- Line 7 of the table of R23. -/
def State.isServed (s : State) (z : ZoneId) : Bool :=
  match (s.zone z).call with
  | .cool => decide (s.house = .cool)
  | .heat => decide (s.house = .heat) || decide (s.house = .defrost)
  | .none => s.fanCounts z && s.fanRuns
  | .dry => false

/-- The status of a zone: the first line of the table of R23 whose condition holds. -/
def State.statusOf (s : State) (z : ZoneId) : ZoneStatus :=
  if !(s.zoneCfg z).enabled then .disabled
  else if s.isLost z then .lost
  else if look s.computation.spill z then .spill
  else if !s.hasSource z then .noSource
  else if !(s.zone z).switchOn then .off
  else if (s.zone z).call = .dry ∧ s.house = .dry then .drying
  else if s.isServed z then .served
  else if (s.zone z).call ≠ .none then .waiting
  else .satisfied

/-- Derive a zone's status anew (R23). A zone entering LOST raises ZONE LOST (R8). -/
def State.deriveStatus (s : State) (z : ZoneId) : State :=
  let old := (s.zone z).status
  let new := s.statusOf z
  let s := s.setZone z { s.zone z with status := new }
  if new = .lost ∧ old ≠ .lost then s.raise .zoneLost else s

/-- A zone leaves play between expiries (R24). -/
def State.leavePlay (s : State) (z : ZoneId) : State :=
  (s.setZone z { s.zone z with call := .none, demand := 0, unmet := 0 }).deriveStatus z

/-! ### Readings -/

/-- A reading is fresh for 10 s after its arrival and stale from then on (R5, log entry 12). -/
def Reading.fresh (r : Reading) (now : Time) : Bool := decide (now < r.time + sec 10)

/-- The fresh readings of a quantity over the entries of a zone, each with its entry's weight (R6). -/
def State.freshReadings (s : State) (pick : RouteRun → Option Reading) (z : ZoneId) : List (Nat × Int) :=
  (List.finRange 16).filterMap fun i =>
    if (s.routeCfg i).isSourceOf z then
      match pick (s.routeRun i) with
      | some r => if r.fresh s.now then some ((s.routeCfg i).weight, r.value) else none
      | none => none
    else none

/-- The weighted mean of R6, an exact half rounded upward; absent over no reading. -/
def combine (xs : List (Nat × Int)) : Option Int :=
  let w := (xs.map (·.1)).sum
  if xs.isEmpty then none
  else some (((xs.map fun x => (x.1 : Int) * x.2).sum + ((w / 2 : Nat) : Int)) / (w : Int))

/-- Recompute a zone's T and H (R6). -/
def State.recombine (s : State) (z : ZoneId) : State :=
  s.setZone z
    { s.zone z with t := combine (s.freshReadings (·.temp) z), h := combine (s.freshReadings (·.hum) z) }

/-- A temperature reading that is valid (R5). -/
def validTemp (t : Option Int) : Option Int := t.filter fun x => decide (0 ≤ x) && decide (x ≤ 600)

/-- A humidity reading that is valid (R5). -/
def validHum (h : Option Int) : Option Int := h.filter fun x => decide (0 ≤ x) && decide (x ≤ 100)

/-- A fresh reading of a zone: its last fresh time and its loss timer of 60 s (R5, R8). -/
def State.heardZone (s : State) (z : ZoneId) : State :=
  s.setZone z { s.zone z with lastFresh := some s.now, loss := .running (s.now + sec 60) }

/-- The readings that a PANEL or SENSOR entry of a zone reports (R5, R6, R9). -/
def State.takeReadings (s : State) (i : RouteId) (z : ZoneId) (t h : Option Int) : State :=
  let t := validTemp t
  let h := validHum h
  let wasExpired := (s.zone z).expired
  let r := s.routeRun i
  let s := s.setRoute i
    { r with
      temp := match t with | some x => some ⟨x, s.now⟩ | none => r.temp
      hum := match h with | some x => some ⟨x, s.now⟩ | none => r.hum }
  let heard := t.isSome || h.isSome
  let s := if heard then s.heardZone z else s
  let s := s.recombine z
  if heard && wasExpired then s.deriveStatus z else s

/-- The zone switch and fan request that a PANEL reports (R10, R11). -/
def State.takeSwitch (s : State) (z : ZoneId) (on fan : Bool) : State :=
  let was := (s.zone z).switchOn
  let s := s.setZone z { s.zone z with switchOn := on, fan := fan }
  if (s.zoneCfg z).enabled && s.hasSource z && !(s.zone z).expired then
    if was && !on then s.leavePlay z else if !was && on then s.deriveStatus z else s
  else s

/-- A zone's loss timer expires (R8). -/
def State.loseZone (s : State) (z : ZoneId) : State :=
  let s := s.setZone z { s.zone z with loss := .expired }
  if (s.zoneCfg z).enabled then s.leavePlay z else s

/-- A zone's loss timer is running and has reached its moment. -/
def ZoneRun.lossDue (r : ZoneRun) (now : Time) : Bool :=
  match r.loss with
  | .running t => decide (t ≤ now)
  | .expired => false
  | .stopped => false

/-! ### Setpoints -/

/-- The setpoints of a zone after a change: each value formed, moved into its range, and the pair corrected (R16). -/
def ZoneRun.change (r : ZoneRun) (x : Setpoints) : ZoneRun :=
  let heat := x.heat.form r.sh
  let cool := x.cool.form r.sc
  let sh := match heat with | some v => clampInt 50 300 v | none => r.sh
  let sc := match cool with | some v => clampInt 150 350 v | none => r.sc
  let hd := match x.dry.form r.hd with | some v => clampInt 35 70 v | none => r.hd
  if sc - sh < 10 then
    if heat.isSome then { r with sh := sh, sc := sh + 10, hd := hd }
    else if cool.isSome then { r with sh := sc - 10, sc := sc, hd := hd }
    else { r with sh := sh, sc := sc, hd := hd }
  else { r with sh := sh, sc := sc, hd := hd }

/-- Apply a change to a zone (R16). -/
def State.changeZone (s : State) (x : Setpoints) (z : ZoneId) : State := s.setZone z ((s.zone z).change x)

/-- Apply a change to every enabled zone that meets `p` (R15). -/
def State.changeZones (s : State) (x : Setpoints) (p : ZoneCfg → Bool) : State :=
  s.forIx fun z t => if (t.zoneCfg z).enabled && p (t.zoneCfg z) then t.changeZone x z else t

/-! ### Calls and demand (R17 to R21) -/

/-- The COOL start condition apart from the need for call NONE (R18). -/
def coolStarts (p : Profile) (c : ZoneCfg) (r : ZoneRun) : Bool :=
  match r.t with
  | some t => decide ((p.ton : Int) ≤ t - r.sc) && decide (c.permission ≠ .heatOnly)
  | none => false

/-- A COOL call continues (R18). -/
def coolGoesOn (p : Profile) (c : ZoneCfg) (r : ZoneRun) : Bool :=
  match r.t with
  | some t => decide (-(p.toff : Int) < t - r.sc) && decide (c.permission ≠ .heatOnly)
  | none => false

/-- The HEAT start condition apart from the need for call NONE (R19). -/
def heatStarts (p : Profile) (c : ZoneCfg) (r : ZoneRun) : Bool :=
  match r.t with
  | some t => decide ((p.ton : Int) ≤ r.sh - t) && decide (c.permission ≠ .coolOnly)
  | none => false

/-- A HEAT call continues (R19). -/
def heatGoesOn (p : Profile) (c : ZoneCfg) (r : ZoneRun) : Bool :=
  match r.t with
  | some t => decide (-(p.toff : Int) < r.sh - t) && decide (c.permission ≠ .coolOnly)
  | none => false

/-- The DRY start condition apart from the need for call NONE (R20). -/
def dryStarts (c : ZoneCfg) (r : ZoneRun) : Bool :=
  match r.t, r.h with
  | some t, some h => decide (r.hd + 5 ≤ h) && decide (r.sh + 10 ≤ t) && decide (c.permission ≠ .heatOnly)
  | _, _ => false

/-- A DRY call continues (R20). -/
def dryGoesOn (c : ZoneCfg) (r : ZoneRun) : Bool :=
  match r.t, r.h with
  | some t, some h => decide (r.hd < h) && decide (r.sh + 5 < t) && decide (c.permission ≠ .heatOnly)
  | _, _ => false

/-- Step 1 of R17: the present call is tested for continuation, a DRY call for replacement first. -/
def callKept (p : Profile) (c : ZoneCfg) (r : ZoneRun) : Call :=
  match r.call with
  | .none => .none
  | .cool => if coolGoesOn p c r then .cool else .none
  | .heat => if heatGoesOn p c r then .heat else .none
  | .dry =>
    if coolStarts p c r then .cool else if heatStarts p c r then .heat else if dryGoesOn c r then .dry else .none

/-- Step 2 of R17: the start that a zone with call NONE makes. -/
def callStarted (p : Profile) (c : ZoneCfg) (r : ZoneRun) : Call :=
  if coolStarts p c r then .cool else if heatStarts p c r then .heat else if dryStarts c r then .dry else .none

/-- The call formed at an expiry (R17). -/
def callFormed (p : Profile) (c : ZoneCfg) (r : ZoneRun) : Call :=
  let k := callKept p c r
  if k = .none then callStarted p c r else k

/-- The demand of a call (R21). -/
def demandOf (c : ZoneCfg) (r : ZoneRun) (call : Call) : Nat :=
  match call with
  | .none => 0
  | .cool => match r.t with | some t => min 100 (max 10 (posPart (t - r.sc) * c.kp / 4)) | none => 10
  | .heat => match r.t with | some t => min 100 (max 10 (posPart (r.sh - t) * c.kp / 4)) | none => 10
  | .dry => match r.h with | some h => min 60 (max 10 (posPart (h - r.hd) * 4)) | none => 10

/-- A zone after its evaluation at an expiry (R17). The unmet count is cleared at the moment the call becomes NONE (R22),
also when a new call starts at the same expiry (log entry 13). -/
def ZoneRun.evaluate (p : Profile) (c : ZoneCfg) (playing : Bool) (r : ZoneRun) : ZoneRun :=
  if playing then
    let call := callFormed p c r
    { r with
      call := call
      demand := demandOf c r call
      unmet := if callKept p c r = .none then 0 else r.unmet }
  else { r with call := .none, demand := 0, unmet := 0 }

/-- Step 1 of R34: the calls and demands of every zone. -/
def State.evaluateZones (s : State) : State :=
  { s with zones := tab fun z => (s.zone z).evaluate s.profile (s.zoneCfg z) (s.inPlay z) }

/-- A call is served by a house state (R22). -/
def Call.servedBy (c : Call) (h : HouseState) : Bool :=
  match c with
  | .none => false
  | .cool => decide (h = .cool) || decide (h = .dry)
  | .dry => decide (h = .cool) || decide (h = .dry)
  | .heat => decide (h = .heat) || decide (h = .defrost)

/-- The unmet count of a zone after the decision (R22). -/
def ZoneRun.countUnmet (h : HouseState) (r : ZoneRun) : ZoneRun :=
  { r with unmet := if r.call = .none then 0 else if r.call.servedBy h then 0 else satInc 255 r.unmet }

/-- Step 5 of R34: every zone's unmet count and status, from the state in force after the decision. -/
def State.updateZones (s : State) : State :=
  ({ s with zones := tab fun z => (s.zone z).countUnmet s.house }).forIx fun z t => t.deriveStatus z

/-! ### Configuration -/

/-- A zone record is valid (R2). -/
def ZoneCfg.valid (c : ZoneCfg) : Bool :=
  decide (20 ≤ c.qd ∧ c.qd ≤ 400) && decide (c.pmin ≤ 60) && decide (c.spillRank ≤ 8)
    && decide (10 ≤ c.psp ∧ c.psp ≤ 100) && decide (1 ≤ c.kp ∧ c.kp ≤ 40)
    && decide (50 ≤ c.shSt ∧ c.shSt ≤ 300) && decide (150 ≤ c.scSt ∧ c.scSt ≤ 350)
    && decide (35 ≤ c.hdSt ∧ c.hdSt ≤ 70) && decide (10 ≤ c.scSt - c.shSt)

/-- The effective setpoints once a record `c` has been written over `old` (R3, R12): a stored setpoint that the write changes sets
its effective value too, and one that it leaves as it was has no effect. Where the heat and the cool setpoint would so come
within 1 °C of each other, both take the written values, which are apart. DESIGN CHOICE (log entry 14). -/
def ZoneRun.takeStored (r : ZoneRun) (old c : ZoneCfg) : ZoneRun :=
  let sh := if c.shSt = old.shSt then r.sh else c.shSt
  let sc := if c.scSt = old.scSt then r.sc else c.scSt
  { r with
    sh := if 10 ≤ sc - sh then sh else c.shSt
    sc := if 10 ≤ sc - sh then sc else c.scSt
    hd := if c.hdSt = old.hdSt then r.hd else c.hdSt }

/-- The effects of a zone record written over `old` (R3, R12). -/
def State.zoneWritten (s : State) (z : ZoneId) (old : ZoneCfg) : State :=
  let c := s.zoneCfg z
  let s := s.setZone z ((s.zone z).takeStored old c)
  if old.enabled && !c.enabled then s.leavePlay z
  else if !old.enabled && c.enabled then s.deriveStatus z
  else s

/-- A zone at start-up completion (R4, R8): its reset values, and its loss timer running when it has a source. -/
def State.startZone (s : State) (z : ZoneId) : ZoneRun :=
  { resetZoneRun (s.zoneCfg z) with
    loss := if s.hasSource z then .running (s.now + sec 60) else .stopped }

end Sys2Proof.Machine
end

