-- ==== Sys2Proof/Machine/Capacity.lean ====
section
/-! DEFINITION. Capacity, airflow and damper openings (Chapter 3): the six steps of the computation, on the inputs as they stand when
the expiry is taken (R54). -/

namespace Sys2Proof.Machine

/-- The served set of a computation in a house state (R55). -/
def State.servedSet (s : State) (h : HouseState) : Vector Bool 8 :=
  tab fun z =>
    match h with
    | .cool => decide ((s.zone z).call = .cool)
    | .heat => decide ((s.zone z).call = .heat)
    | .dry => decide ((s.zone z).call = .dry)
    | .fan => s.fanCounts z
    | .shed => s.fanCounts z
    | .uncommissioned => false
    | .halt => false
    | .idle => false
    | .defrost => false
    | .changeover => false

/-- The house states in which the compressor runs on the computation: COOL, HEAT and DRY. -/
def HouseState.conditions (h : HouseState) : Bool := decide (h = .cool) || decide (h = .heat) || decide (h = .dry)

/-- The compressor states (R26). -/
def HouseState.compressor (h : HouseState) : Bool := h.conditions || decide (h = .defrost)

/-- Qall: the sum of Qd over all enabled zones (R55). -/
def State.qAll (s : State) : Nat := sumIx fun z : ZoneId => if (s.zoneCfg z).enabled then (s.zoneCfg z).qd else 0

/-- Step 1: the raw capacity over the served set (R57). The sum is divided once. -/
def State.rawCapacity (s : State) (served : Vector Bool 8) : Nat :=
  (sumIx fun z : ZoneId => if look served z then (s.zone z).demand * (s.zoneCfg z).qd else 0) / s.qAll

/-- Step 2: the capacity raised to Cmin, then lowered to the cap (R58). -/
def fitCapacity (raw cmin cap : Nat) : Nat := min (max raw cmin) cap

/-- A channel is in FAULT. -/
def State.faulted (s : State) (c : ChannelId) : Bool := decide ((s.channel c).state = .fault)

/-- A channel's reported opening (R75): absent while its homed mark is no. -/
def State.reportedOpening (s : State) (c : ChannelId) : Option Nat :=
  if (s.channel c).homed then some ((s.channel c).count * 100 / (s.damperCfg c).stroke) else none

/-- The assumed opening of a faulted channel (R61). -/
def State.assumedOpening (s : State) (c : ChannelId) : Nat := (s.reportedOpening c).getD 100

/-- The served opening of a zone (R60). In FAN and in SHED with fan the demand and the minimum opening used are 100 (R55). -/
def servedOpening (h : HouseState) (pmin demand : Nat) : Nat :=
  if h.conditions then pmin + (100 - pmin) * demand / 100 else 100

/-- Step 3: the openings before any spill (R60, R61). -/
def State.baseOpenings (s : State) (h : HouseState) (served : Vector Bool 8) : Vector Nat 8 :=
  tab fun z =>
    if s.faulted z then s.assumedOpening z
    else if look served z then servedOpening h (s.zoneCfg z).pmin (s.zone z).demand
    else 0

/-- Step 4: the air that the openings pass, term by term (R62). -/
def State.airSum (s : State) (p : Vector Nat 8) : Nat := sumIx fun z : ZoneId => (s.zoneCfg z).qd * look p z / 100

/-- The dry scaling of the airflow sum (R63). -/
def State.dryScaled (s : State) (h : HouseState) (q : Nat) : Nat :=
  if h = .dry then q * s.profile.dryFactor / 100 else q

/-- A zone that the spill order lists (R65). -/
def State.maySpill (s : State) (served : Vector Bool 8) (z : ZoneId) : Bool :=
  decide (1 ≤ (s.zoneCfg z).spillRank ∧ (s.zoneCfg z).spillRank ≤ 8) && !look served z && (s.zoneCfg z).enabled
    && !s.isLost z && !s.faulted z

/-- The spill order: by rank, lowest first, then by zone number (R65). -/
def State.spillOrder (s : State) (served : Vector Bool 8) : List ZoneId :=
  [1, 2, 3, 4, 5, 6, 7, 8].flatMap fun r =>
    (List.finRange 8).filter fun z => decide ((s.zoneCfg z).spillRank = r) && s.maySpill served z

/-- The airflow, openings and spill set as the spill walk goes. -/
structure Walk where
  airflow : Nat
  openings : Vector Nat 8
  spill : Vector Bool 8
  deriving DecidableEq, Repr

/-- The walk takes one zone (R66). -/
def State.spillZone (s : State) (w : Walk) (z : ZoneId) : Walk where
  airflow := w.airflow + (s.zoneCfg z).qd * (s.zoneCfg z).psp / 100
  openings := put w.openings z (s.zoneCfg z).psp
  spill := put w.spill z true

/-- The spill walk over an order, until the airflow reaches Qmin (R66). -/
def State.spillWalk (s : State) (qmin : Nat) : List ZoneId → Walk → Walk
  | [], w => w
  | z :: zs, w => if qmin ≤ w.airflow then w else State.spillWalk s qmin zs (s.spillZone w z)

/-- Step 6: reheat (R68). -/
def State.decideReheat (s : State) (h : HouseState) : Bool :=
  decide (h = .dry) && s.reheatPresent
    && anyIx fun z : ZoneId =>
      decide ((s.zone z).call = .dry) &&
        match (s.zone z).t with | some t => decide (t < (s.zone z).sh + 15) | none => false

/-- What a computation finds: the record of R56 and the reheat of step 6. -/
structure Figures where
  record : Computation
  commanded : Nat
  capacity : Nat
  reheat : Bool
  deriving DecidableEq, Repr

/-- Steps 3 to 6, once the capacity is fitted (R60 to R68). Limits that are absent take no part (R1). -/
def State.figures (s : State) (h : HouseState) (raw : Option Nat) (capacity : Nat) : Figures :=
  let served := s.servedSet h
  let base := s.baseOpenings h served
  let air := s.dryScaled h (s.airSum base)
  let qmin := (s.airLimits.getD (0, air)).1
  let qmax := (s.airLimits.getD (0, air)).2
  let start : Walk := ⟨min air qmax, base, Vector.replicate 8 false⟩
  let w := s.spillWalk qmin (s.spillOrder served) start
  let short := decide (w.airflow < qmin)
  let commanded := if short then qmin else min w.airflow qmax
  { record :=
      { served, raw, capacity := some capacity, airSum := some air, commanded := some commanded, spill := w.spill,
        short, openings := some w.openings }
    commanded, capacity, reheat := s.decideReheat h }

/-- The computation in a house state (R54 to R68): absent when it ends by R59. A limit that is absent takes no part (R1); the
nodes that a computation needs are bound whenever it is made (R64). -/
def State.compute (s : State) (h : HouseState) : Option Figures :=
  if h.conditions then
    let raw := s.rawCapacity (s.servedSet h)
    let cmin := s.cmin.getD 0
    let c := fitCapacity raw cmin s.cap
    if c < cmin then none else some (s.figures h (some raw) c)
  else some (s.figures h none 0)

/-- The outdoor mode of a house state (R26, R69). -/
def HouseState.outMode : HouseState → OutMode
  | .cool => .cool
  | .dry => .cool
  | .heat => .heat
  | .defrost => .heat
  | .uncommissioned => .off
  | .halt => .off
  | .idle => .off
  | .fan => .off
  | .changeover => .off
  | .shed => .off

/-- The air handler mode of a house state that makes a computation (R69). -/
def HouseState.airMode : HouseState → AirMode
  | .cool => .cool
  | .dry => .dry
  | .heat => .heat
  | .defrost => .heat
  | .fan => .fan
  | .shed => .fan
  | .uncommissioned => .off
  | .halt => .off
  | .idle => .off
  | .changeover => .off

/-- The plant command record that a computation writes (R69). -/
def Figures.command (f : Figures) (h : HouseState) : Command where
  outMode := h.outMode
  capacity := f.capacity
  airMode := h.airMode
  airflow := f.commanded
  reheat := f.reheat
  coldBlow := false

/-- The computation record at an expiry that makes no computation (R56). -/
def Computation.unmade (c : Computation) : Computation :=
  { c with spill := Vector.replicate 8 false, short := false }

end Sys2Proof.Machine
end

