-- ==== Sys2Proof/Machine/Dampers.lean ====
section
/-! DEFINITION. Damper drives and the motion queue (Chapter 4). -/

namespace Sys2Proof.Machine

/-! ### Goals (R76) -/

/-- The active goal of a target (R76). -/
def DamperCfg.goalOf (c : DamperCfg) (p : Nat) : Goal :=
  if p = 0 then .seekClosed else if p = 100 then .seekOpen else .move ((p * c.stroke + 50) / 100)

/-- A goal needs motion from a position count (R76). -/
def DamperCfg.needsMotion (c : DamperCfg) (g : Goal) (count : Nat) : Bool :=
  match g with
  | .move n => decide (c.settle < dist n count)
  | .seekOpen => true
  | .seekClosed => true
  | .home => true

/-- The direction of a goal from a position count (R76). -/
def Goal.dirFrom (g : Goal) (count : Nat) : Dir :=
  match g with
  | .move n => if count < n then .opening else .closing
  | .seekOpen => .opening
  | .seekClosed => .closing
  | .home => .closing

/-- A goal is ahead of a channel driving in a direction (R76). -/
def DamperCfg.ahead (c : DamperCfg) (g : Goal) (count : Nat) (d : Dir) : Bool :=
  c.needsMotion g count && decide (g.dirFrom count = d)

/-- A goal is a MOVE to a count. -/
def Goal.isMove : Goal → Bool
  | .move _ => true
  | .seekOpen => false
  | .seekClosed => false
  | .home => false

/-- The drive level toward a goal (R87). -/
def DamperCfg.levelFor (c : DamperCfg) (g : Goal) (count : Nat) : Level :=
  match g with
  | .move n => if dist n count ≤ c.approach then .half else .full
  | .seekOpen => .full
  | .seekClosed => .full
  | .home => .full

/-- A channel drives: it is MOVING or SEEKING and holds a slot (R84). -/
def Channel.driving (r : Channel) : Bool := decide (r.state = .moving) || decide (r.state = .seeking)

/-- The number of channels MOVING or SEEKING (R84). -/
def State.drivingCount (s : State) : Nat := countIx fun c : ChannelId => (s.channel c).driving

/-- The OPEN output of a channel. -/
def State.openOutput (s : State) (c : ChannelId) : Bool := decide ((s.channel c).dir = some .opening)

/-- The CLOSE output of a channel. -/
def State.closeOutput (s : State) (c : ChannelId) : Bool := decide ((s.channel c).dir = some .closing)

/-! ### Joining the queue (R82) -/

/-- The conditions of R82: the latch is clear and the dead time of the last drive-off has run since it. A dead time written
since then is used from the next drive-off (R73). -/
def State.canJoin (s : State) (c : ChannelId) : Bool :=
  !s.supply.latch && decide ((s.channel c).lastOff + ms (s.channel c).restMs ≤ s.now)

/-- A channel of the queue stands behind one that joins now: it joined at the same moment and its number is higher (R82). -/
def State.standsBehind (s : State) (c k : ChannelId) : Bool := decide ((s.channel k).joined = s.now) && decide (c < k)

/-- The queue once a channel has joined at the tail, before those that joined at this same moment with a higher number (R82). -/
def State.queueWith (s : State) (c : ChannelId) : List ChannelId :=
  s.queue.takeWhile (fun k => !s.standsBehind c k) ++ c :: s.queue.dropWhile (fun k => !s.standsBehind c k)

/-- A channel joins the queue with a goal (R82). -/
def State.joinQueue (s : State) (c : ChannelId) (g : Goal) : State :=
  { s.setChannel c { s.channel c with state := .queued, goal := some g, joined := s.now } with queue := s.queueWith c }

/-- An UNHOMED channel joins for HOME if it can (R82), not before the homing join of start-up (R102). -/
def State.joinHome (s : State) (c : ChannelId) : State :=
  if (s.channel c).state = .unhomed ∧ s.canJoin c ∧ s.homingDue = none then s.joinQueue c .home else s

/-- An IDLE channel adopts its pending target (R78). A channel that cannot join stays IDLE with its target not taken. -/
def State.adopt (s : State) (c : ChannelId) : State :=
  let r := s.channel c
  match r.target with
  | none => s
  | some p =>
    let g := (s.damperCfg c).goalOf p
    if (s.damperCfg c).needsMotion g r.count then
      if s.canJoin c then (s.setChannel c { r with taken := true }).joinQueue c g
      else s.setChannel c { r with goal := none, taken := false }
    else s.setChannel c { r with goal := none, taken := true, retry := if g.isMove then false else r.retry }

/-- A channel waits in IDLE with a target that it has not taken. -/
def Channel.idleWaiting (r : Channel) : Bool := decide (r.state = .idle) && r.target.isSome && !r.taken

/-- A channel that waits to join does so if it can (R82, R100). -/
def State.tryJoin (s : State) (c : ChannelId) : State :=
  if (s.channel c).idleWaiting then s.adopt c else s.joinHome c

/-- A QUEUED channel leaves the queue because its goal no longer needs motion (R79, R83). -/
def State.leaveQueue (s : State) (c : ChannelId) : State :=
  { s.setChannel c { s.channel c with state := .idle, goal := none, retry := false } with
    queue := s.queue.filter fun x => decide (x ≠ c) }

/-! ### Grants (R84 to R87) -/

/-- A written limit takes force once the number driving is at or below it (R85). -/
def State.settleLimit (s : State) : State :=
  if s.drivingCount ≤ s.profile.slots then { s with slotLimit := s.profile.slots } else s

/-- The conditions of a grant (R84). -/
def State.mayGrant (s : State) : Bool :=
  decide (s.drivingCount < s.slotLimit) && decide (s.drivingCount < s.profile.slots)
    && decide (s.supply.supply = .normal) && !s.supply.latch

/-- The record of a channel whose stroke a grant starts (R86, R87, R90, R96). A HOME is made from a count set to the
stroke. -/
def Channel.granted (r : Channel) (cfg : DamperCfg) (now : Time) (g : Goal) : Channel :=
  let count := if g = .home then cfg.stroke else r.count
  let d := g.dirFrom count
  { r with
    state := if g.isMove then .moving else .seeking
    count := count
    dir := some d
    lastDir := some d
    level := cfg.levelFor g count
    silenceDue := some (now + ms 600)
    seekDue := if g.isMove then none else some (now + sec cfg.seekS) }

/-- Grant the channel at the head of the queue (R84, R86). -/
def State.grantHead (s : State) : State :=
  match s.queue with
  | [] => s
  | c :: rest =>
    let r := s.channel c
    let s := { s with queue := rest }
    match r.goal with
    | some g => s.setChannel c (r.granted (s.damperCfg c) s.now g)
    | none => s

/-- Grants, head by head, for as long as the conditions hold (R84). -/
def State.grantLoop (s : State) : Nat → State
  | 0 => s
  | k + 1 => if s.mayGrant && !s.queue.isEmpty then State.grantLoop s.grantHead k else s

/-- The slot arbiter looks at its conditions again (R84, R85). -/
def State.serveQueue (s : State) : State :=
  let s := s.settleLimit
  s.grantLoop s.queue.length

/-! ### Coming to join (R82, R92, R100) -/

/-- A SETTLING channel whose dead-time timer has expired (R92). -/
def Channel.settleOver (r : Channel) (now : Time) : Bool := decide (r.state = .settling) && due r.deadDue now

/-- The dead-time timer of a SETTLING channel expires (R92). A channel whose homed mark is no becomes UNHOMED, its target not
taken (log entry 17), and joins for HOME if it can. -/
def State.endSettling (s : State) (c : ChannelId) : State :=
  let r := { s.channel c with deadDue := none }
  if r.homed then
    let s := s.setChannel c { r with state := .idle }
    if r.target.isSome && !r.taken then s.adopt c else s
  else (s.setChannel c { r with state := .unhomed, taken := false }).joinHome c

/-- A channel that waits to join may do so now (R82, R102). -/
def State.joinsNow (s : State) (c : ChannelId) : Bool :=
  s.canJoin c && ((s.channel c).idleWaiting || (decide ((s.channel c).state = .unhomed) && s.homingDue.isNone))

/-- A channel comes to join by the passing of time, if its time has come: at the end of its SETTLING, or when it has waited for
its dead time to run with the latch clear (R82, R92). -/
def State.comeToJoin (s : State) (c : ChannelId) : State :=
  if (s.channel c).settleOver s.now then s.endSettling c else if s.joinsNow c then s.tryJoin c else s

/-- Several channels that come to join at one moment join in order of channel number (R82), so every channel below `c` whose time
has come goes before it (log entry 40). -/
def State.joinBelow (s : State) (c : ChannelId) : State := s.forIx fun k t => if k < c then t.comeToJoin k else t

/-- A channel comes to join by the passing of time, after those below it, and grants follow (R82, R84, R92). -/
def State.joinInOrder (s : State) (c : ChannelId) : State := ((s.joinBelow c).comeToJoin c).serveQueue

/-- An UNHOMED channel joins for HOME if it can, after those below it whose time has come (R82, log entry 40). -/
def State.joinHomeInOrder (s : State) (c : ChannelId) : State := (s.joinBelow c).joinHome c

/-! ### Drive-off (R92) -/

/-- The drive of a channel turns off (R92): the time of last drive-off with the dead time that runs from it (R73), no direction,
the silence and seek timers stopped, the active goal absent. R95 says absent for a second stall; for an overrun seek (R96) no
rule says it, and absent is the model's choice (log entry 43). -/
def Channel.driveOff (r : Channel) (cfg : DamperCfg) (now : Time) : Channel :=
  { r with dir := none, lastOff := now, restMs := cfg.deadMs, silenceDue := none, seekDue := none, goal := none }

/-- The drive turns off and the channel settles for its dead time (R92). -/
def Channel.settleFor (r : Channel) (cfg : DamperCfg) (now : Time) : Channel :=
  { r.driveOff cfg now with state := .settling, deadDue := some (now + ms cfg.deadMs) }

/-- A channel enters FAULT (R95, R96, R97): its zone's damper fault mark becomes yes and DAMPER FAULT is raised. DESIGN CHOICE (log
entry 43): its active goal is absent in FAULT by the seek timer too. -/
def State.enterFault (s : State) (c : ChannelId) (homed : Bool) : State :=
  let s := s.setChannel c { (s.channel c).driveOff (s.damperCfg c) s.now with state := .fault, homed := homed, taken := false }
  let s := s.setZone c { s.zone c with damperFault := true }
  s.raise .damperFault

/-! ### Taking a published target (R77 to R81) -/

/-- A QUEUED, homed channel adopts a new target in place (R79). -/
def State.retargetQueued (s : State) (c : ChannelId) (g : Goal) : State :=
  let r := s.channel c
  let s := s.setChannel c { r with goal := some g, taken := true }
  if (s.damperCfg c).needsMotion g r.count then s else s.leaveQueue c

/-- A driving, homed channel whose new goal is ahead replaces its goal without stopping (R80). -/
def Channel.retargetAhead (r : Channel) (cfg : DamperCfg) (now : Time) (g : Goal) : Channel :=
  { r with
    goal := some g
    taken := true
    state := if g.isMove then .moving else .seeking
    seekDue :=
      if g.isMove then none else if r.state = .moving then some (now + sec cfg.seekS) else r.seekDue
    level := cfg.levelFor g r.count }

/-- A driving, homed channel takes a new target (R80, R81). -/
def State.retargetDriving (s : State) (c : ChannelId) (g : Goal) : State :=
  let r := s.channel c
  let cfg := s.damperCfg c
  match r.dir with
  | some d =>
    if cfg.ahead g r.count d then s.setChannel c (r.retargetAhead cfg s.now g)
    else s.setChannel c { r.settleFor cfg s.now with taken := false }
  | none => s

/-- A channel takes its own value of a published opening set, by the rule of its present state (R77). -/
def State.takeTarget (s : State) (c : ChannelId) (p : Nat) : State :=
  let s := s.setChannel c { s.channel c with target := some p, taken := false }
  let r := s.channel c
  let g := (s.damperCfg c).goalOf p
  if r.homed then
    match r.state with
    | .idle => s.adopt c
    | .queued => s.retargetQueued c g
    | .moving => s.retargetDriving c g
    | .seeking => s.retargetDriving c g
    | .settling => s
    | .fault => s
    | .unhomed => s
  else s

/-- The damper drives take a publication (R70, R77): every channel in order, with it those whose time to join has come, then the
grants that follow (log entries 16 and 40). -/
def State.publish (s : State) (p : Vector Nat 8) : State :=
  (s.forIx fun (c : ChannelId) t => (t.takeTarget c (look p c)).comeToJoin c).serveQueue

/-! ### Feedback (R88 to R91) -/

/-- The position count after a pulse in a direction (R88). -/
def stepCount (stroke count : Nat) : Dir → Nat
  | .opening => if count < stroke then count + 1 else stroke
  | .closing => count - 1

/-- A pulse counted during a drive (R87, R88, R90, R91). -/
def State.drivePulse (s : State) (c : ChannelId) (d : Dir) : State :=
  let cfg := s.damperCfg c
  let r := s.channel c
  let count := stepCount cfg.stroke r.count d
  let r := { r with count := count, silenceDue := s.after (ms cfg.stallMs) }
  match r.goal with
  | some (.move n) =>
    if dist n count ≤ cfg.settle then s.setChannel c { r.settleFor cfg s.now with retry := false }
    else s.setChannel c { r with level := cfg.levelFor (.move n) count }
  | some g => s.setChannel c { r with level := cfg.levelFor g count }
  | none => s.setChannel c r

/-- A QUEUED channel's need for motion is tested again when its count changes (R79). -/
def State.recheckQueued (s : State) (c : ChannelId) : State :=
  let r := s.channel c
  match r.goal with
  | some g => if r.state = .queued ∧ (s.damperCfg c).needsMotion g r.count = false then s.leaveQueue c else s
  | none => s

/-- A coast pulse: counted in the last drive direction (R89). -/
def State.coastPulse (s : State) (c : ChannelId) (d : Dir) : State :=
  let r := s.channel c
  (s.setChannel c { r with count := stepCount (s.damperCfg c).stroke r.count d }).recheckQueued c

/-- The position of a channel is no longer trusted (R89). -/
def State.loseHoming (s : State) (c : ChannelId) : State :=
  let r := { s.channel c with homed := false }
  match r.state with
  | .idle => (s.setChannel c { r with state := .unhomed, goal := none, taken := false }).joinHomeInOrder c
  | .queued => s.setChannel c { r with goal := some .home, taken := false }
  | .settling => s.setChannel c r
  | .fault => s.setChannel c r
  | .unhomed => s.setChannel c r
  | .moving => s.setChannel c r
  | .seeking => s.setChannel c r

/-- A stray pulse (R89). -/
def State.strayPulse (s : State) (c : ChannelId) : State :=
  let r := s.channel c
  let r := { r with stray := satInc 16 r.stray }
  let s := s.setChannel c r
  if 16 ≤ r.stray ∧ r.homed then s.loseHoming c else s

/-- A feedback pulse: counted as travel, as a coast pulse or as a stray pulse (R88, R89). -/
def State.pulse (s : State) (c : ChannelId) : State :=
  let r := s.channel c
  match r.dir with
  | some d => (s.drivePulse c d).serveQueue
  | none =>
    match r.lastDir with
    | some d => if s.now ≤ r.lastOff + ms 500 then (s.coastPulse c d).serveQueue else (s.strayPulse c).serveQueue
    | none => (s.strayPulse c).serveQueue

/-! ### Timers of a channel (R90 to R96) -/

/-- A seek has reached its end stop (R93). -/
def Channel.endStop (r : Channel) (cfg : DamperCfg) (now : Time) : Channel :=
  let count := match r.dir with
    | some .opening => cfg.stroke
    | some .closing => 0
    | none => r.count
  { r.settleFor cfg now with
    count := count, homed := true, stray := 0, retry := if r.goal = some .home then r.retry else false }

/-- A first stall (R94). -/
def Channel.firstStall (r : Channel) (cfg : DamperCfg) (now : Time) : Channel :=
  { r.settleFor cfg now with homed := false, taken := false, retry := true }

/-- The silence timer of a channel expires (R90, R93, R94, R95). -/
def State.silenceExpired (s : State) (c : ChannelId) : State :=
  let r := s.channel c
  let cfg := s.damperCfg c
  match r.state with
  | .seeking => (s.setChannel c (r.endStop cfg s.now)).serveQueue
  | .moving =>
    if r.retry then (s.enterFault c r.homed).serveQueue else (s.setChannel c (r.firstStall cfg s.now)).serveQueue
  | .unhomed => s
  | .queued => s
  | .settling => s
  | .idle => s
  | .fault => s

/-- The seek timer of a channel expires (R96): the channel enters FAULT with its homed mark no. -/
def State.seekExpired (s : State) (c : ChannelId) : State := (s.enterFault c false).serveQueue

/-! ### Release, shutdown, Damper Table writes -/

/-- A channel in FAULT is released (R98). -/
def State.releaseChannel (s : State) (c : ChannelId) : State :=
  let s := s.setChannel c { s.channel c with state := .unhomed, homed := false, retry := false, taken := false }
  let s := s.setZone c { s.zone c with damperFault := false }
  (s.joinHomeInOrder c).serveQueue

/-- What the setting of the latch makes of a channel (R99). -/
def Channel.cutOff (r : Channel) (cfg : DamperCfg) (now : Time) : Channel :=
  match r.state with
  | .moving => { r.settleFor cfg now with taken := false }
  | .seeking => { r.settleFor cfg now with taken := false }
  | .queued => { r with state := if r.homed then .idle else .unhomed, goal := none, taken := false }
  | .unhomed => r
  | .settling => r
  | .idle => r
  | .fault => r

/-- The shutdown latch sets (R99): every drive is off and the queue is empty. -/
def State.cutDrives (s : State) : State :=
  { s with channels := tab fun c => (s.channel c).cutOff (s.damperCfg c) s.now, queue := [] }.settleLimit

/-- The shutdown latch has cleared (R100): in order of channel number, the channels that waited join if they can and those whose
SETTLING is over end it; then grants follow. -/
def State.resumeDrives (s : State) : State :=
  (s.forIx fun (c : ChannelId) t => if (t.channel c).settleOver t.now then t.endSettling c else t.tryJoin c).serveQueue

/-- A Damper Table entry is valid (R72). -/
def DamperCfg.valid (c : DamperCfg) : Bool :=
  decide (200 ≤ c.stroke ∧ c.stroke ≤ 4000) && decide (2 ≤ c.settle ∧ c.settle ≤ 20)
    && decide (8 ≤ c.approach ∧ c.approach ≤ 64) && decide (100 ≤ c.deadMs ∧ c.deadMs ≤ 2000)
    && decide (200 ≤ c.stallMs ∧ c.stallMs ≤ 2000) && decide (30 ≤ c.seekS ∧ c.seekS ≤ 240)

/-- A channel may have its entry written (R73). -/
def Channel.writable (r : Channel) : Bool :=
  decide (r.state = .idle) || decide (r.state = .unhomed) || decide (r.state = .fault)

/-- The effects on a channel of an entry written over `old` (R73). -/
def State.damperWritten (s : State) (c : ChannelId) (old : DamperCfg) : State :=
  if (s.damperCfg c).stroke = old.stroke then s
  else
    let r := s.channel c
    let s := s.setChannel c
      { r with
        homed := false, count := 0, taken := false
        state := if r.state = .idle then .unhomed else r.state }
    s.joinHomeInOrder c

end Sys2Proof.Machine
end

