-- ==== Sys2Proof/Machine/Arbiter.lean ====
section
/-! DEFINITION. House mode arbitration (Chapter 2): the decision at each cycle expiry and the events that override the cycle. -/

namespace Sys2Proof.Machine

/-! ### What the arbiter reads -/

/-- A node is startable (R33). -/
def State.startable (s : State) (n : Node) : Bool := (s.link n).startable

/-- A node is available (R33). -/
def State.available (s : State) (n : Node) : Bool := (s.link n).available

/-- Both plant nodes are startable. -/
def State.bothStartable (s : State) : Bool := s.startable .outdoorUnit && s.startable .airHandler

/-- The sum of D·Qd over the zones with a call (R35). -/
def State.callSum (s : State) (c : Call) : Nat :=
  sumIx fun z : ZoneId => if (s.zone z).call = c then (s.zone z).demand * (s.zoneCfg z).qd else 0

/-- S_C (R35). -/
def State.sumCool (s : State) : Nat := s.callSum .cool
/-- S_H (R35), counted as 0 when the outdoor unit is not a heat pump. -/
def State.sumHeat (s : State) : Nat := if s.noHeatPump then 0 else s.callSum .heat
/-- S_D (R35). -/
def State.sumDry (s : State) : Nat := s.callSum .dry
/-- S_C + S_D: the cooling family. -/
def State.sumCooling (s : State) : Nat := s.sumCool + s.sumDry

/-- At least one sum is above 0. -/
def State.anySum (s : State) : Bool := decide (0 < s.sumCooling + s.sumHeat)

/-- The target chosen from the sums (R35). -/
def State.chooseTarget (s : State) : Target :=
  if s.sumCooling < s.sumHeat then .heat else if 0 < s.sumCool then .cool else .dry

/-- The mode in which a target starts the outdoor unit (R32). -/
def Target.runMode : Target → RunMode
  | .cool => .cool
  | .dry => .cool
  | .heat => .heat

/-- The house state of a target. -/
def Target.house : Target → HouseState
  | .cool => .cool
  | .dry => .dry
  | .heat => .heat

/-- The rest that a start in a mode needs, seconds (R32). -/
def State.restNeeded (s : State) (m : RunMode) : Nat :=
  if s.arbiter.lastRun = some m then s.profile.minRest else max s.profile.minRest s.profile.dwell

/-- The rest requirement for a mode is met (R32). -/
def State.restMet (s : State) (m : RunMode) : Bool := hasRun s.arbiter.restStart (sec (s.restNeeded m)) s.now

/-- The run timer has run the minimum run (R32). -/
def State.ranMinimum (s : State) : Bool := hasRun s.arbiter.runStart (sec s.profile.minRun) s.now

/-- The dwell timer has run the dwell (R32). -/
def State.dwellOver (s : State) : Bool := hasRun s.arbiter.dwellStart (sec s.profile.dwell) s.now

/-- Some zone with one of the calls has an unmet count at or above the starvation limit (R40, R41). -/
def State.starving (s : State) (calls : Call → Bool) : Bool :=
  anyIx fun z : ZoneId => calls (s.zone z).call && decide (s.profile.starvation ≤ (s.zone z).unmet)

/-- A call of the heating family. -/
def Call.heating (c : Call) : Bool := decide (c = .heat)
/-- A call of the cooling family. -/
def Call.cooling (c : Call) : Bool := decide (c = .cool) || decide (c = .dry)

/-- Test 1 of R40: changeover to heating. -/
def State.wantsHeating (s : State) : Bool :=
  decide (0 < s.sumHeat) && s.ranMinimum && (decide (2 * s.sumCooling < s.sumHeat) || s.starving Call.heating)

/-- Test 1 of R41: changeover to cooling. -/
def State.wantsCooling (s : State) : Bool :=
  decide (0 < s.sumCooling) && s.ranMinimum && (decide (2 * s.sumHeat < s.sumCooling) || s.starving Call.cooling)

/-! ### Moves of the house -/

/-- Go to IDLE with both nodes commanded OFF and the pending target absent (R38, R40, R41, R43, R50, R51). -/
def State.goIdle (s : State) : State :=
  (((s.writeCommand commandOff).enterHouse .idle).stopHouseTimers).setTarget none

/-- The air handler keeps its fan at the entry to SHED (R46). -/
def State.keepsFan (s : State) : Bool := s.available .airHandler && s.command.airOn && s.anyFan

/-- An airflow moved into the bound Qmin to Qmax range. -/
def State.clampAirflow (s : State) (q : Nat) : Nat :=
  match s.airLimits with
  | some (lo, hi) => clampNat lo hi q
  | none => q

/-- Enter SHED (R46). -/
def State.enterShed (s : State) : State :=
  let c : Command :=
    if s.keepsFan then { commandOff with airMode := .fan, airflow := s.clampAirflow s.command.airflow } else commandOff
  ((((s.writeCommand c).enterHouse .shed).stopHouseTimers).setTarget none)

/-- A house state that enters SHED when the shed condition comes to hold (R46). -/
def HouseState.sheds (h : HouseState) : Bool :=
  decide (h ≠ .uncommissioned) && decide (h ≠ .halt) && decide (h ≠ .shed)

/-- The shed condition is looked at: SHED is entered when it holds (R46) and left for IDLE when it does not (R47). -/
def State.reviewShed (s : State) : State :=
  if s.shedCondition then (if s.house.sheds then s.enterShed else s)
  else if s.house = .shed then (s.writeCommand commandOff).enterHouse .idle
  else s

/-- The curtail cap has changed (R46, R47). -/
def State.capChanged (s : State) : State :=
  let s := s.reviewShed
  if s.house.compressor && decide (s.cap < s.command.capacity) then
    s.writeCommand { s.command with capacity := s.cap }
  else s

/-- The outdoor unit's Cmin has changed or been bound (R46, R52, R155). -/
def State.cminChanged (s : State) : State :=
  let s := s.reviewShed
  match s.cmin with
  | some c =>
    if s.house.compressor && decide (s.command.capacity < c) then s.writeCommand { s.command with capacity := c } else s
  | none => s

/-- A node has become unavailable (R50, R51). -/
def State.nodeUnavailable (s : State) (n : Node) : State :=
  if s.house.compressor then s.goIdle
  else
    match n with
    | .outdoorUnit => s
    | .airHandler =>
      if s.house = .fan then (s.writeCommand commandOff).enterHouse .idle
      else if s.house = .shed ∧ s.command.airMode = .fan then s.writeCommand commandOff
      else s

/-- Enter DEFROST from HEAT (R44). -/
def State.enterDefrost (s : State) : State :=
  let kept := s.command.airflow
  let q := match s.airLimits with | some (lo, _) => lo | none => kept
  let s := s.writeCommand { s.command with airMode := .heat, airflow := q, reheat := false, coldBlow := true }
  let s := s.enterHouse .defrost
  s.setArbiter { s.arbiter with remembered := some kept, defrostDue := s.after (sec 900) }

/-- Return from DEFROST to HEAT (R45). -/
def State.leaveDefrost (s : State) : State :=
  let q := match s.arbiter.remembered with | some q => s.clampAirflow q | none => s.command.airflow
  let s := s.writeCommand { s.command with airflow := q, coldBlow := false }
  let s := s.enterHouse .heat
  s.setArbiter { s.arbiter with remembered := none, defrostDue := none }

/-- The defrost timer expires (R45): DEFROST LONG is raised, and the house stays in DEFROST until the outdoor unit reports
RUNNING. The timer does not run again. -/
def State.defrostLong (s : State) : State :=
  (s.setArbiter { s.arbiter with defrostDue := none }).raise .defrostLong

/-- The outdoor link hands a node state to the arbiter (R44, R45, R150). -/
def State.outdoorReported (s : State) (st : NodeState) : State :=
  match st with
  | .defrost => if s.house = .heat then s.enterDefrost else s
  | .running => if s.house = .defrost then s.leaveDefrost else s
  | .idle => s
  | .starting => s
  | .stopping => s
  | .locked => s

/-- The air handler's limits have changed (R52): the commanded airflow moves into the new range, and in DEFROST to Qmin. -/
def State.airLimitsChanged (s : State) : State :=
  match s.airLimits with
  | some (lo, hi) =>
    if s.command.airOn then
      s.writeCommand
        { s.command with airflow := if s.house = .defrost then lo else clampNat lo hi s.command.airflow }
    else s
  | none => s

/-- Reheat present has changed to no (R52). -/
def State.reheatLost (s : State) : State := s.writeCommand { s.command with reheat := false }

/-- Heat-pump has changed to no (R52). -/
def State.heatPumpLost (s : State) : State :=
  if s.house = .heat ∨ s.house = .defrost then s.goIdle else s

/-- A bound capability has changed (R52, R156): the arbiter acts according to what changed, in the order of R52. -/
def State.capabilityChanged (s : State) (old new : Capability) : State :=
  match old, new with
  | .outdoor c hp, .outdoor c' hp' =>
    let s := if c ≠ c' then s.cminChanged else s
    if hp && !hp' then s.heatPumpLost else s
  | .air lo hi r, .air lo' hi' r' =>
    let s := if lo ≠ lo' ∨ hi ≠ hi' then s.airLimitsChanged else s
    if r && !r' then s.reheatLost else s
  | .outdoor _ _, .air _ _ _ => s
  | .air _ _ _, .outdoor _ _ => s

/-- The shutdown latch has set (R48). -/
def State.haltHouse (s : State) : State :=
  if s.house = .uncommissioned then s
  else (((s.writeCommand commandOff).enterHouse .halt).stopHouseTimers).setTarget none

/-- The house leaves HALT, or UNCOMMISSIONED with the latch clear, for SHED or IDLE (R48, R49). -/
def State.resumeHouse (s : State) : State :=
  (s.writeCommand commandOff).enterHouse (if s.shedCondition then .shed else .idle)

/-- The shutdown latch has cleared (R48). -/
def State.unhaltHouse (s : State) : State := if s.house = .halt then s.resumeHouse else s

/-- A SAVE has completed successfully (R49). -/
def State.commission (s : State) : State :=
  if s.house = .uncommissioned then
    if s.supply.latch then s.enterHouse .halt else s.resumeHouse
  else s

/-! ### The decision (R34 to R45, R47 to R49) -/

/-- Enter a target (R36): the start itself is made when the computation writes the record (R69). -/
def State.enterTarget (s : State) (t : Target) : State :=
  (s.enterHouse t.house).stopHouseTimers.setTarget none

/-- An expiry in hold (R39). -/
def State.holdOn (s : State) : State :=
  let s := s.writeCommand { s.command with capacity := s.cmin.getD s.command.capacity, reheat := false }
  s.setArbiter { s.arbiter with hold := true }

/-- The hold mark becomes no (R39). -/
def State.endHold (s : State) : State := s.setArbiter { s.arbiter with hold := false }

/-- Enter CHANGEOVER toward a target (R42). -/
def State.enterChangeover (s : State) (t : Target) : State :=
  let s := (s.writeCommand commandOff).enterHouse .changeover
  s.setArbiter { s.arbiter with dwellStart := some s.now, pendingTarget := some t }

/-- The decision in IDLE (R37). The mark says whether the computation is made. -/
def State.decideIdle (s : State) : State × Bool :=
  if s.anySum then
    let t := s.chooseTarget
    let s := s.setTarget (some t)
    if s.bothStartable && s.restMet t.runMode then (s.enterTarget t, true) else (s, false)
  else
    let s := s.setTarget none
    if s.anyFan && s.startable .airHandler then (s.enterHouse .fan, true) else (s, false)

/-- FAN stays while a counted fan request remains, and goes to IDLE otherwise (R38). -/
def State.fanOrIdle (s : State) : State × Bool :=
  if s.anyFan then (s, true) else ((s.writeCommand commandOff).enterHouse .idle, false)

/-- The decision in FAN (R38). -/
def State.decideFan (s : State) : State × Bool :=
  if s.anySum then
    let t := s.chooseTarget
    let s := s.setTarget (some t)
    if s.bothStartable && s.restMet t.runMode then (s.enterTarget t, true) else s.fanOrIdle
  else (s.setTarget none).fanOrIdle

/-- The decision in COOL or DRY (R40). -/
def State.decideCooling (s : State) : State × Bool :=
  if s.wantsHeating then (s.enterChangeover .heat, false)
  else if s.sumCooling = 0 then (if s.ranMinimum then (s.goIdle, false) else (s.holdOn, false))
  else ((s.enterHouse (if 0 < s.sumCool then .cool else .dry)).endHold, true)

/-- The decision in HEAT (R41). -/
def State.decideHeating (s : State) : State × Bool :=
  if s.wantsCooling then (s.enterChangeover (if 0 < s.sumCool then .cool else .dry), false)
  else if s.sumHeat = 0 then (if s.ranMinimum then (s.goIdle, false) else (s.holdOn, false))
  else (s.endHold, true)

/-- The target re-chosen within the pending target's family (R43). -/
def State.rechoose (s : State) : Option Target :=
  match s.arbiter.pendingTarget with
  | some .heat => if 0 < s.sumHeat then some .heat else none
  | some .cool => if 0 < s.sumCool then some .cool else if 0 < s.sumDry then some .dry else none
  | some .dry => if 0 < s.sumCool then some .cool else if 0 < s.sumDry then some .dry else none
  | none => none

/-- The decision in CHANGEOVER (R43). -/
def State.decideChangeover (s : State) : State × Bool :=
  match s.rechoose with
  | none => if s.dwellOver then (s.goIdle, false) else (s, false)
  | some t =>
    if s.dwellOver then
      if !s.bothStartable then (s.goIdle, false)
      else if s.restMet t.runMode then (s.enterTarget t, true)
      else (s.setTarget (some t), false)
    else (s.setTarget (some t), false)

/-- The decision in SHED (R47). -/
def State.decideShed (s : State) : State × Bool :=
  if s.anyFan && (s.startable .airHandler || (s.available .airHandler && decide (s.command.airMode = .fan))) then
    (s, true)
  else (s.writeCommand commandOff, false)

/-- Step 3 of R34: the rule of the present house state. -/
def State.decision (s : State) : State × Bool :=
  match s.house with
  | .uncommissioned => (s, false)
  | .halt => (s, false)
  | .idle => s.decideIdle
  | .fan => s.decideFan
  | .cool => s.decideCooling
  | .dry => s.decideCooling
  | .heat => s.decideHeating
  | .defrost => (s, false)
  | .changeover => s.decideChangeover
  | .shed => s.decideShed

/-- An expiry that makes no computation (R56). -/
def State.noComputation (s : State) : State := s.setComputation s.computation.unmade

/-- The figures of a computation are written and published as one act (R67, R69, R70). -/
def State.publishFigures (s : State) (f : Figures) : State :=
  let s := s.setComputation f.record
  let s := s.writeCommand (f.command s.house)
  let s := if f.record.short then s.raise .spillShort else s
  match f.record.openings with
  | some p => s.publish p
  | none => s

/-- Step 4 of R34. A computation that finds a capacity below Cmin ends in SHED (R59). -/
def State.computeAndPublish (s : State) : State :=
  match s.compute s.house with
  | some f => s.publishFigures f
  | none => s.noComputation.enterShed

/-- The cycle expiry (R34). -/
def State.cycle (s : State) : State :=
  let s := s.evaluateZones
  let d := s.decision
  let s := if d.2 then d.1.computeAndPublish else d.1.noComputation
  let s := s.updateZones
  s.setArbiter { s.arbiter with cycleDue := s.after (sec s.profile.cycle) }

end Sys2Proof.Machine
end

