-- ==== Sys2Proof/Machine/Links.lean ====
section
/-! DEFINITION. The plant links (Chapter 7): what a status report brings, the annex, binding, silence and loss. -/

namespace Sys2Proof.Machine

/-- A PLANT STATUS as its link takes it (12.2). -/
structure Status where
  /-- The node state reported, when it is one that the node can report (R147). -/
  nodeState : Option NodeState
  fault : Nat
  slot : Byte
  d0 : Byte
  d1 : Byte
  d2 : Byte
  d3 : Byte
  deriving DecidableEq, Repr

/-- The node state that a node reports: DEFROST from the air handler is none of its states (R147). -/
def reportedState (n : Node) (b : Byte) : Option NodeState :=
  match n with
  | .outdoorUnit => nodeStateOf b
  | .airHandler => (nodeStateOf b).filter fun x => decide (x ≠ .defrost)

/-- The status of a payload (12.2). -/
def plantReportOf (n : Node) (p : List Byte) : Status where
  nodeState := reportedState n (byteAt p 0)
  fault := nat16 (byteAt p 1) (byteAt p 2)
  slot := byteAt p 3
  d0 := byteAt p 4
  d1 := byteAt p 5
  d2 := byteAt p 6
  d3 := byteAt p 7

/-- The stop sequence of a link closes on an IDLE report: three STOP commands or more have gone out (R138). -/
def Link.stopEndsOn (l : Link) (st : Option NodeState) : Bool :=
  l.stopOpen && decide (3 ≤ l.stopCount) && decide (st = some .idle)

/-- The state to which a SILENT link returns at a valid status (R145). -/
def Link.returnState (l : Link) (st : Option NodeState) (commanded : Bool) : LinkState :=
  if l.stopOpen && !l.stopEndsOn st then .stopping
  else if st = some .running ∧ commanded then .active
  else .ready

/-- Step 1 of R147: the link-state rule for a valid status. -/
def State.statusHeard (s : State) (n : Node) (st : Option NodeState) : State :=
  let l := s.link n
  let restarted := s.setLink n { l with silenceDue := s.after (sec 3) }
  match l.state with
  | .down =>
    (s.setLink n { l with bindDue := s.after (sec 30), stopOpen := false, stopCount := 0, stopDue := none }).setLinkState
      n .binding
  | .binding => s
  | .ready => restarted
  | .active => restarted
  | .stopping => restarted
  | .silent =>
    (s.setLink n { l with silenceDue := s.after (sec 3), lossDue := none }).setLinkState n
      (l.returnState st (s.commandedOn n))

/-- Step 2 of R147: the node state is recorded and handed on (R148, R150). -/
def State.recordNodeState (s : State) (n : Node) (st : NodeState) : State :=
  let was := s.available n
  let s := s.setLink n { s.link n with nodeState := some st }
  let s := if was && !s.available n then s.nodeUnavailable n else s
  match n with
  | .outdoorUnit => s.outdoorReported st
  | .airHandler => s

/-- Step 3 of R147: the fault code is recorded (R149). -/
def State.recordFault (s : State) (n : Node) (code : Nat) : State :=
  let held := s.plantFaultHolds
  let s := s.setLink n { s.link n with fault := some code }
  if !held && s.plantFaultHolds then s.raise .plantFault else s

/-! ### The annex (R152 to R156) -/

/-- The slot number of an annex item, counted from 0; none outside 1 to 5. -/
def annexIndex (b : Byte) : Option (Fin 5) :=
  if b = 1 then some 0 else if b = 2 then some 1 else if b = 3 then some 2 else if b = 4 then some 3
  else if b = 5 then some 4 else none

/-- The slot after a slot: slot 1 after slot 5. -/
def nextSlotOf (k : Fin 5) : Fin 5 := k + 1

/-- An item arrives in order (R152). -/
def Link.inOrder (l : Link) (k : Fin 5) : Bool := decide (l.expected = none) || decide (l.expected = some k)

/-- The annex slots with the ages of all but slot `k` risen by 1, holding at 10 (R152). -/
def agedBut (v : Vector AnnexSlot 5) (k : Fin 5) : Vector AnnexSlot 5 :=
  tab fun j => if j = k then look v j else { look v j with age := satInc 10 (look v j).age }

/-- The run length after an in-range item of slot `k` in BINDING (R153). -/
def runAfter (run : Nat) (k : Fin 5) (ordered : Bool) : Nat :=
  if k.val = 0 then 1 else if ordered && decide (run = k.val) then k.val + 1 else 0

/-- The run length is kept during BINDING only (R153). -/
def Link.withRun (l : Link) (run : Nat) : Link := if l.state = .binding then { l with runLength := run } else l

/-- One annex break (R152). -/
def Link.broken (l : Link) : Link := { l with breaks := satInc 65535 l.breaks }

/-- A link after an annex item whose slot number lies outside 1 to 5 (R152, R153). -/
def Link.annexUnknown (l : Link) : Link := ({ l.broken with expected := some 0 }).withRun 0

/-- A link after a slot 1 datum that is not in range (R156): the slot keeps its value and age, and the item is a break. -/
def Link.annexRefused (l : Link) (k : Fin 5) : Link :=
  ({ l.broken with expected := some 1, annex := agedBut l.annex k }).withRun 0

/-- A link after an annex item of slot `k` with value `v` (R152, R153). -/
def Link.annexTaken (l : Link) (k : Fin 5) (v : AnnexValue) : Link :=
  let ordered := l.inOrder k
  let l' := if ordered then l else l.broken
  ({ l' with
      annex := put (agedBut l.annex k) k ⟨some v, 0⟩
      expected := some (nextSlotOf k) }).withRun (runAfter l.runLength k ordered)

/-- A capability that an annex value carries. -/
def AnnexValue.capability? : AnnexValue → Option Capability
  | .capability c => some c
  | .temps _ _ => none
  | .faultCode _ => none
  | .counter _ => none

/-- A bound capability is compared with a slot 1 value taken (R156). -/
def State.compareCapability (s : State) (n : Node) (v : AnnexValue) : State :=
  match (s.link n).cap, v.capability? with
  | some old, some new =>
    if old = new then s
    else ((s.setLink n { s.link n with cap := some new }).raise .capabilityChange).capabilityChanged old new
  | _, _ => s

/-- Step 4 of R147: the annex item is taken (R152, R156). -/
def State.takeAnnex (s : State) (n : Node) (x : Status) : State :=
  match annexIndex x.slot with
  | none => s.setLink n (s.link n).annexUnknown
  | some k =>
    match annexValueOf n k x.d0 x.d1 x.d2 x.d3 with
    | none => s.setLink n ((s.link n).annexRefused k)
    | some v => (s.setLink n ((s.link n).annexTaken k v)).compareCapability n v

/-- The slot 1 value that a link holds (R153, R155). -/
def Link.slot1 (l : Link) : Option Capability :=
  match (look l.annex 0).value with
  | some v => v.capability?
  | none => none

/-- Binding completes when the run has reached 5 (R141, R153, R155). -/
def State.completeBinding (s : State) (n : Node) : State :=
  let l := s.link n
  if l.state = .binding ∧ l.runLength = 5 then
    let s := s.setLink n
      { l with cap := l.slot1, bindDue := none, lost := false, silenceDue := s.after (sec 3) }
    let s := s.setLinkState n .ready
    match n with
    | .outdoorUnit => s.reviewShed
    | .airHandler => s
  else s

/-- The stop sequence closes on an IDLE report (R138, R143). -/
def State.stopOnIdle (s : State) (n : Node) (st : Option NodeState) : State :=
  if (s.link n).stopEndsOn st then
    let s := s.closeStop n
    if (s.link n).state = .stopping then s.setLinkState n .ready else s
  else s

/-- READY becomes ACTIVE on RUNNING while the node is commanded non-OFF (R142). -/
def State.activate (s : State) (n : Node) (st : Option NodeState) : State :=
  if (s.link n).state = .ready ∧ st = some .running ∧ s.commandedOn n then s.setLinkState n .active else s

/-- A valid PLANT STATUS is taken by its node's link (R147). -/
def State.takeStatus (s : State) (n : Node) (x : Status) : State :=
  let s := s.statusHeard n x.nodeState
  let s := match x.nodeState with | some st => s.recordNodeState n st | none => s
  let s := s.recordFault n x.fault
  let s := s.takeAnnex n x
  let s := s.completeBinding n
  let s := s.activate n x.nodeState
  s.stopOnIdle n x.nodeState

/-! ### Entry to DOWN (R146) and the timers of a link -/

/-- A link that has entered DOWN: the break count and the lost mark are kept (R146). -/
def Link.downed (l : Link) : Link := { resetLink with state := l.state, lost := l.lost, breaks := l.breaks }

/-- The time of last WAKE of a node becomes absent (R116, R146). -/
def State.forgetWake (s : State) (n : Node) : State :=
  s.setPlant { s.plant with lastWake := s.plant.lastWake.set n none }

/-- A link enters DOWN (R146). -/
def State.enterDown (s : State) (n : Node) (lost : Bool) : State :=
  let was := s.available n
  let s := s.setLink n { (s.link n).downed with lost := lost }
  let s := s.setLinkState n .down
  let s := s.forgetWake n
  let s := if was then s.nodeUnavailable n else s
  match n with
  | .outdoorUnit => s.reviewShed
  | .airHandler => s

/-- The binding supervisor expires (R141). -/
def State.bindingFailed (s : State) (n : Node) : State :=
  (s.enterDown n (s.link n).lost).raise .bindFail

/-- The silence timer of a link expires (R144). -/
def State.fallSilent (s : State) (n : Node) : State :=
  (s.setLink n { s.link n with silenceDue := none, lossDue := s.after (sec 60) }).setLinkState n .silent

/-- The loss timer of a SILENT link expires (R145). -/
def State.loseLink (s : State) (n : Node) : State := (s.enterDown n true).raise .plantLost

/-- The stop timer expires (R138, R143). -/
def State.stopTimedOut (s : State) (n : Node) : State :=
  let s := s.closeStop n
  if (s.link n).state = .stopping then s.setLinkState n .ready else s

/-! ### What READ STATE and POLL see of an annex (R154) -/

/-- A slot's value as it is reported: absent before binding completes and while the slot is stale. -/
def Link.reported (l : Link) (k : Fin 5) : Option AnnexValue :=
  if l.cap.isSome ∧ (look l.annex k).age < 10 then (look l.annex k).value else none

/-- The first temperature of slot 2, as it is reported. -/
def Link.firstTemp (l : Link) : Option Int :=
  match l.reported 1 with
  | some (.temps x _) => x
  | _ => none

end Sys2Proof.Machine
end

