-- ==== Sys2Proof/Machine/Validity.lean ====
section
/-! DEFINITION. Which configuration records are valid (R2, R29, R72, R119), and the uniqueness rule of the Route Table (R120). -/

namespace Sys2Proof.Machine

/-- A Route Table record is in range (R119). The types hold the roles, the zone numbers and the rights. -/
def RouteCfg.valid (c : RouteCfg) : Bool :=
  decide (0x10 ≤ c.address.toNat ∧ c.address.toNat ≤ 0x6F) && decide (1 ≤ c.weight ∧ c.weight ≤ 4)
    && (decide (c.role = .tool) || c.zone.isSome)

/-- A Route Table record as it is stored (R119, R120): a TOOL has no zone, and an unused entry holds no right. -/
def RouteCfg.stored (c : RouteCfg) : RouteCfg :=
  { c with
    zone := if c.role = .tool then none else c.zone
    house := c.used && c.house
    notice := c.used && c.notice }

/-- Two entries break the uniqueness rule (R120). -/
def RouteCfg.clashes (a b : RouteCfg) : Bool :=
  (a.used && b.used && decide (a.address = b.address))
    || (a.used && b.used && decide (a.role = .panel) && decide (b.role = .panel) && decide (a.zone = b.zone))
    || (a.notice && b.notice)

/-- A Route Table meets the uniqueness rule (R120). -/
def uniqueRoutes (v : Vector RouteCfg 16) : Bool :=
  !anyIx fun i : RouteId => anyIx fun j : RouteId => decide (i < j) && (look v i).clashes (look v j)

/-- A Plant Profile is valid: every field lies in its range (R29). -/
def Profile.valid (p : Profile) : Bool :=
  decide (10 ≤ p.cycle ∧ p.cycle ≤ 60) && decide (120 ≤ p.minRun ∧ p.minRun ≤ 900)
    && decide (60 ≤ p.minRest ∧ p.minRest ≤ 600) && decide (60 ≤ p.dwell ∧ p.dwell ≤ 600)
    && decide (5 ≤ p.starvation ∧ p.starvation ≤ 255) && decide (3 ≤ p.ton ∧ p.ton ≤ 20) && decide (p.toff ≤ 10)
    && decide (40 ≤ p.dryFactor ∧ p.dryFactor ≤ 80) && decide (1 ≤ p.slots ∧ p.slots ≤ 4)
    && decide (10 ≤ p.holdMin ∧ p.holdMin ≤ 240)

/-- Every record of the four tables is valid, and the Route Table meets the uniqueness rule (R179). -/
def Tables.valid (t : Tables) : Bool :=
  (t.routes.toList.all RouteCfg.valid) && (t.zones.toList.all ZoneCfg.valid) && (t.dampers.toList.all DamperCfg.valid)
    && t.profile.valid && uniqueRoutes t.routes

end Sys2Proof.Machine
end

