-- ==== Sys2Proof/Machine/Curtail.lean ====
section
/-! DEFINITION. The curtailment decoder (Chapter 9), and the retained area that it keeps up to date (R173, R178). -/

namespace Sys2Proof.Machine

/-! ### The retained area (R173, R178) -/

/-- The retained area with the decoder's level and hold as they stand (R173). -/
def State.keptArea (s : State) : Retained :=
  { s.retained with level := s.decoder.level, holdLeft := s.decoder.holdLeft s.now }

/-- The decoder writes the retained area (R173, R178), at each change of the level or of the hold timer; as time passes,
State.elapse keeps the time left up to date. -/
def State.retain (s : State) : State := { s with retained := s.keptArea }

/-! ### Decoding a train (R170 to R172) -/

/-- The outcome of a train (R170). -/
def outcomeOf (spoiled : Bool) (pulses : Nat) : TrainOutcome :=
  if spoiled then .invalid
  else if pulses = 3 then .valid .level1
  else if pulses = 5 then .valid .level2
  else if pulses = 7 then .valid .level3
  else if pulses = 9 then .valid .release
  else .invalid

/-- The curtail level takes a value (R172): a change raises CURTAIL CHANGE and hands the arbiter the new cap. -/
def State.setLevel (s : State) (l : CurtailLevel) : State :=
  if s.decoder.level = l then s
  else ((s.setDecoder { s.decoder with level := l }).raise .curtailChange).capChanged

/-- The hold timer after a valid train (R171). -/
def State.holdAfter (s : State) (l : CurtailLevel) : Option Time :=
  if l = .release then none else s.after (sec (60 * s.profile.holdMin))

/-- A valid train orders a level (R171, R172). -/
def State.orderLevel (s : State) (l : CurtailLevel) : State :=
  ((s.setDecoder { s.decoder with holdDue := s.holdAfter l }).setLevel l).retain

/-- The decoder at the end of a train, before the outcome is acted on (R169, R170). -/
def Decoder.trainEnded (d : Decoder) : Decoder :=
  { d with
    train := .quiet
    pulses := 0
    spoiled := false
    gapStart := none
    lastTrain := some (d.pulses, outcomeOf d.spoiled d.pulses) }

/-- The train ends and is decoded (R169, R170). -/
def State.endTrain (s : State) : State :=
  match outcomeOf s.decoder.spoiled s.decoder.pulses with
  | .valid l => (s.setDecoder s.decoder.trainEnded).orderLevel l
  | .invalid =>
    let d := s.decoder.trainEnded
    s.setDecoder { d with invalidTrains := satInc 65535 d.invalidTrains }

/-- The hold timer expires (R171). -/
def State.holdExpired (s : State) : State :=
  ((s.setDecoder { s.decoder with holdDue := none }).setLevel .release).retain

/-! ### Pulses and gaps (R168, R169) -/

/-- The length of the present assertion. Section 9.2 has it measured to the millisecond and does not say how a length between
two whole milliseconds is taken: here it is judged as it is, in ticks. DESIGN CHOICE (log entry 39). -/
def Decoder.pulseLength (d : Decoder) (now : Time) : Time := now - d.pulseStart.getD now

/-- The gap before the present assertion exceeds 1 s (R169). -/
def Decoder.gapTooLong (d : Decoder) : Bool :=
  match d.gapStart, d.pulseStart with
  | some g, some p => decide (g + sec 1 < p)
  | _, _ => false

/-- The assertion has reached 50 ms and becomes a pulse of the present train (R168, R169). With no gap timer running it begins
a new train. -/
def Decoder.reach (d : Decoder) : Decoder :=
  if d.reached then d
  else if d.gapStart.isNone then { d with pulses := 0, spoiled := false, reached := true }
  else { d with spoiled := d.spoiled || d.gapTooLong, reached := true }

/-- The assertion has passed 500 ms: the present train is spoiled (R168). -/
def Decoder.spoil (d : Decoder) : Decoder := { d.reach with spoiled := true }

/-- The input becomes asserted, as the running decoder takes it (R168, R169). An assertion that begins in GAP 2 s or more after the
last pulse, taken before the TRAIN END of that moment, stays in the train, whose end then waits for it to be judged. DESIGN
CHOICE (log entry 46). -/
def Decoder.assertAt (d : Decoder) (now : Time) : Decoder :=
  match d.train with
  | .quiet => { d with train := .pulse, pulseStart := some now, reached := false }
  | .gap => { d with train := .pulse, pulseStart := some now, reached := false }
  | .pulse => d
  | .waitRest => d

/-- The assertion under way is over. -/
def Decoder.pulseOver (d : Decoder) (t : TrainState) : Decoder :=
  { d with train := t, pulseStart := none, reached := false }

/-- The end of an assertion of 50 ms or more: counted up to 500 ms, spoiled beyond, be it by one tick (log entry 39). Either
way the gap timer starts from 0 (R168). -/
def Decoder.pulseEnd (d : Decoder) (now : Time) : Decoder :=
  let d :=
    if d.pulseLength now ≤ ms 500 then
      let r := d.reach
      { r with pulses := satInc 255 r.pulses }
    else d.spoil
  { d.pulseOver .gap with gapStart := some now }

/-- The gap timer has reached 2 s (R169). -/
def Decoder.quietOver (d : Decoder) (now : Time) : Bool := hasRun d.gapStart (sec 2) now

/-- A glitch ends (R168, R169): the decoder returns to the state it was in. A train whose 2 s passed during the glitch ends
now. -/
def State.glitchEnds (s : State) : State :=
  let back := if s.decoder.gapStart.isSome then TrainState.gap else TrainState.quiet
  let s := s.setDecoder (s.decoder.pulseOver back)
  if s.decoder.quietOver s.now then s.endTrain else s

/-- The input comes to rest, as the running decoder takes it (R168). An assertion short of 50 ms by one tick is a glitch (log
entry 39). -/
def State.restAtInput (s : State) : State :=
  match s.decoder.train with
  | .waitRest => s.setDecoder { s.decoder with train := .quiet }
  | .pulse =>
    if s.decoder.pulseLength s.now < ms 50 then s.glitchEnds else s.setDecoder (s.decoder.pulseEnd s.now)
  | .quiet => s
  | .gap => s

/-- The input is asserted. Before start-up completion only the input itself is followed (R167). -/
def State.curtailAsserted (s : State) : State :=
  if s.decoder.pin then s
  else
    let s := s.setDecoder { s.decoder with pin := true }
    if s.isRunning then s.setDecoder (s.decoder.assertAt s.now) else s

/-- The input comes to rest. -/
def State.curtailAtRest (s : State) : State :=
  if s.decoder.pin then
    let s := s.setDecoder { s.decoder with pin := false }
    if s.isRunning then s.restAtInput else s
  else s

/-- An assertion under way that the decoder times, of at least a length. -/
def Decoder.lasts (d : Decoder) (now len : Time) : Bool := decide (d.train = .pulse) && hasRun d.pulseStart len now

/-- The decoder starts watching at start-up completion (R167, R173). -/
def State.startDecoder (s : State) : State :=
  let r := s.retained
  (s.setDecoder
    { resetDecoder s.decoder.pin with
      train := if s.decoder.pin then .waitRest else .quiet
      level := r.level
      holdDue := if r.level = .release then none else s.after (sec r.holdLeft) }).retain

end Sys2Proof.Machine
end

