-- ==== Sys2Proof/Machine/Plant.lean ====
section
/-! DEFINITION. The plant port (section 5.5): rounds and slots, the frames it sends, and the bursts it takes. -/

namespace Sys2Proof.Machine

/-! ### Slots (R115, R116) -/

/-- The slot of a node. -/
def slotOf : Node → Slot
  | .airHandler => .airHandler
  | .outdoorUnit => .outdoorUnit

/-- A WAKE is due for a node whose link is DOWN (R116): none since the link entered DOWN, or 2 s or more since the last. -/
def State.wakeDue (s : State) (n : Node) : Bool :=
  match s.plant.lastWake.get n with
  | none => true
  | some t => decide (t + sec 2 ≤ s.now)

/-- The port sends a frame in the slot of a node (R115, R116). -/
def State.sendsTo (s : State) (n : Node) : Bool := decide ((s.link n).state ≠ .down) || s.wakeDue n

/-- A slot begins, and its frame becomes due (R107, R115). -/
def State.atSlot (s : State) (x : Slot) : State := s.setPlant { s.plant with slot := x, dueSince := s.now }

/-- The query slot begins: it is skipped when the relay offers nothing (R115, R160). -/
def State.beginQuerySlot (s : State) : State := s.atSlot (if s.relay.offered.isSome then .query else .over)

/-- The outdoor unit slot begins: a slot in which nothing is sent ends at once (R115). -/
def State.beginOutdoorSlot (s : State) : State :=
  if s.sendsTo .outdoorUnit then s.atSlot .outdoorUnit else s.beginQuerySlot

/-- A round begins with the air handler slot (R115). -/
def State.beginRound (s : State) : State :=
  if s.sendsTo .airHandler then s.atSlot .airHandler else s.beginOutdoorSlot

/-- The present slot ends and the next one begins (R115). -/
def State.endSlot (s : State) : State :=
  match s.plant.slot with
  | .airHandler => s.beginOutdoorSlot
  | .outdoorUnit => s.beginQuerySlot
  | .query => s.atSlot .over
  | .over => s.atSlot .over

/-- The round timer starts with 500 ms and a round begins (R115). -/
def State.startRound (s : State) : State :=
  (s.setPlant { s.plant with roundDue := s.after (ms 500) }).beginRound

/-- The plant port is at rest: no wait is open, and the silence after its own last frame has been kept (R107). -/
def State.plantFree (s : State) : Bool := s.isRunning && s.plant.wait.isNone && decide (s.plant.sendAfter ≤ s.now)

/-- The plant port may send the frame of its slot: it is at rest and the line lets the frame go (R107). -/
def State.plantSendsNow (s : State) (quiet : Nat) : Bool := s.plantFree && s.lineLets quiet s.plant.dueSince

/-! ### Sending (R107, R117, R137, R160) -/

/-- The plant port sends a frame to a node and opens the wait for its answer: 50 ms from the end of the last stop bit
(R117). -/
def State.plantSends (s : State) (n : Node) (cls : Byte) (payload : List Byte) (e : Expects) : State :=
  let stop := s.now + frameTime payload.length
  s.setPlant
    { s.plant with
      wait := some ⟨n, e, stop + ms 50⟩
      sendAfter := stop + frameGap
      sent := wire (frameTo (nodeAddress n) cls payload)
      frames := ⟨s.now, payload.length + 6⟩ :: s.plant.frames }

/-- The record as a link passes it on: a link in BINDING commands OFF whatever the record holds (R137). -/
def State.commandFor (s : State) (n : Node) : Command :=
  if (s.link n).state = .binding then commandOff else s.command

/-- The payload of a PLANT COMMAND (R137, 12.2). -/
def State.commandPayload (s : State) (n : Node) : List Byte :=
  let c := s.commandFor n
  let stop := (s.link n).stopOpen
  match n with
  | .outdoorUnit => [c.outMode.code, u8 c.capacity, markByte [stop]]
  | .airHandler => [c.airMode.code] ++ u16 c.airflow ++ [markByte [stop, c.reheat, c.coldBlow]]

/-- Each PLANT COMMAND sent while the stop sequence is open raises its count (R138). -/
def State.countStop (s : State) (n : Node) : State :=
  let l := s.link n
  if l.stopOpen then s.setLink n { l with stopCount := satInc 255 l.stopCount } else s

/-- PLANT COMMAND goes out in a node's slot (R115, R137, R138). -/
def State.sendCommand (s : State) (n : Node) : State :=
  (s.plantSends n clsPlantCommand (s.commandPayload n) .status).countStop n

/-- WAKE goes out in the slot of a node whose link is DOWN (R116). -/
def State.sendWake (s : State) (n : Node) : State :=
  let s := s.plantSends n clsWake [] .status
  s.setPlant { s.plant with lastWake := s.plant.lastWake.set n (some s.now) }

/-- The payload of a QUERY (12.2). -/
def QueryEntry.payload (e : QueryEntry) : List Byte := [u8 e.tag, e.item] ++ bytes16 e.argument

/-- QUERY goes out in the query slot (R160). When the entry that opened the slot has left WAITING meanwhile, the slot ends. -/
def State.sendQuery (s : State) : State :=
  match s.relay.offered with
  | some e => (s.plantSends e.target clsQuery e.payload .accept).queryOnLine e.tag
  | none => s.endSlot

/-! ### Receiving (R107, R117) -/

/-- The wait of the plant port closes. -/
def State.closePlantWait (s : State) : State := s.setPlant { s.plant with wait := none }

/-- What a miss hands on: a miss in the query slot goes to the query relay, a miss in a node's slot to nobody (R117, R160). -/
def State.missAnswered (s : State) (e : Expects) : State :=
  match e with
  | .status => s
  | .accept => s.queryOffLine

/-- The wait of the plant port ends without a valid reply, and its slot ends (R117). -/
def State.plantMissed (s : State) : State :=
  match s.plant.wait with
  | some w => (s.closePlantWait.missAnswered w.expects).endSlot
  | none => s

/-- The answer part of a status goes to the query relay (R117, R162). -/
def State.relayStatus (s : State) (n : Node) (p : List Byte) : State :=
  match answerPartOf p with
  | some a => s.takeAnswer n a
  | none => s

/-- A valid reply is handed on (R117). A status goes to the link of its node, and its answer part to the query relay; neither
waits for the other, so the order is the burst's (log entry 9). -/
def State.plantReply (s : State) (w : PlantWait) (p : List Byte) (relayFirst : Bool) : State :=
  match w.expects with
  | .status =>
    if relayFirst then (s.relayStatus w.node p).takeStatus w.node (plantReportOf w.node p)
    else (s.takeStatus w.node (plantReportOf w.node p)).relayStatus w.node p
  | .accept => s.queryAccepted (byteAt p 0).toNat

/-- A valid reply ends the wait and the slot (R117). -/
def State.plantAnswered (s : State) (p : List Byte) (relayFirst : Bool) : State :=
  match s.plant.wait with
  | some w => (s.closePlantWait.plantReply w p relayFirst).endSlot
  | none => s

/-- The counts that a verdict raises on the plant line (R118). -/
def State.countPlant (s : State) (v : Verdict) : State :=
  s.setPlant { s.plant with counters := v.count s.plant.counters }

/-- The plant port judges a burst (R106, R107, R117). -/
def State.judgePlant (s : State) (b : Burst) : State :=
  let v := s.plantVerdict b
  let s := s.countPlant v
  match v with
  | .unheard => s
  | .outside _ => s
  | .unsound => s.plantMissed
  | .impostor => s.plantMissed
  | .miss => s.plantMissed
  | .valid _ p => s.plantAnswered p b.relayFirst

/-- The plant port receives what its line has brought: the bursts it has heard are judged one after another (R103, R107). -/
def State.receivePlant (s : State) (b : Burst) : State :=
  (heard b s.now s.plant.frames).foldl State.judgePlant s

/-- The reply timeout of the plant port ends its wait (R117). -/
def State.plantTimedOut (s : State) (under : Option Nat) : Bool :=
  s.isRunning && match s.plant.wait with | some w => s.waitEnds w.closes (ms 50) under | none => false

/-- The wait ends at the timeout: one miss (R117, R118). -/
def State.plantTimeout (s : State) : State :=
  (s.setPlant { s.plant with counters := s.plant.counters.miss }).plantMissed

end Sys2Proof.Machine
end

