-- ==== Sys2Proof/Machine/Room.lean ====
section
/-! DEFINITION. The room port and the room service (sections 5.4, 6.2 to 6.5): the round, the composition of a POLL, and the handling
of every reply but a management request. -/

namespace Sys2Proof.Machine

/-! ### Senders (R122, R123) -/

/-- Where a reply comes from: the address polled, and the used Route Table entry that holds it. -/
structure Sender where
  address : Byte
  entry : Option RouteId
  deriving DecidableEq, Repr

/-- The used entry that holds an address. -/
def State.entryOf (s : State) (a : Byte) : Option RouteId :=
  (List.finRange 16).find? fun i => (s.routeCfg i).used && decide ((s.routeCfg i).address = a)

/-- The sender behind an address. -/
def State.senderAt (s : State) (a : Byte) : Sender := ⟨a, s.entryOf a⟩

/-- The role of a sender: the service address counts as a TOOL (R123). Absent for an address that nothing holds. -/
def State.roleOf (s : State) (x : Sender) : Option Role :=
  match x.entry with
  | some i => some (s.routeCfg i).role
  | none => if x.address = serviceAddress then some .tool else none

/-- A sender holds the HOUSE right: the service address always does (R15, R123). -/
def State.hasHouse (s : State) (x : Sender) : Bool :=
  match x.entry with
  | some i => (s.routeCfg i).house
  | none => decide (x.address = serviceAddress)

/-- The zone of a sender's entry. -/
def State.zoneOf (s : State) (x : Sender) : Option ZoneId := x.entry.bind fun i => (s.routeCfg i).zone

/-- A result becomes the sender's held result (R128). -/
def State.hold (s : State) (x : Sender) (r : HeldResult) : State :=
  match x.entry with
  | some i => s.setRoute i { s.routeRun i with held := some r }
  | none => if x.address = serviceAddress then { s with serviceHeld := some r } else s

/-! ### The round (R110) -/

/-- A used, polled entry. -/
def RouteCfg.inRound (c : RouteCfg) : Bool := c.used && c.polled

/-- The used, polled entry with the lowest index that `p` admits. -/
def State.firstInRound (s : State) (p : RouteId → Bool) : Option RouteId :=
  (List.finRange 16).find? fun i => (s.routeCfg i).inRound && p i

/-- The next node of the round: an entry, or the service address (R110). -/
def State.nextPolled (s : State) : Option RouteId :=
  match s.room.pos with
  | .entry k => s.firstInRound fun i => decide (k < i)
  | .service => s.firstInRound fun _ => true

/-! ### Composing a POLL (R129 to R132, 12.1) -/

/-- The plant flags (R129). -/
def State.plantFlags (s : State) : Byte :=
  markByte
    [s.command.outOn, s.command.airOn, s.command.reheat, s.command.coldBlow,
      !s.available .airHandler || !s.available .outdoorUnit, s.plantFaultHolds, s.supply.latch]

/-- The house part (R129). -/
def State.housePart (s : State) : List Byte :=
  [s.house.code, targetByte s.arbiter.pendingTarget, s.decoder.level.code, u8 s.command.capacity, s.plantFlags]
    ++ optI16 (s.link .outdoorUnit).firstTemp ++ optI16 (s.link .airHandler).firstTemp

/-- The zone part (R130). -/
def State.zonePart (s : State) (z : ZoneId) : List Byte :=
  let r := s.zone z
  [u8 z.val, r.status.code, u8 (r.call.code + 4 * r.damperFault.toNat), u8 r.demand] ++ i16 r.sh ++ i16 r.sc
    ++ [BitVec.ofInt 8 r.hd] ++ optI16 r.t ++ [optI8 r.h, optU8 (s.reportedOpening z)]

/-- The bytes of a held result in an answer part (12.1); zeros when there is none. -/
def heldBytes : Option HeldResult → List Byte
  | some r => [u8 (16 * r.kind.code + r.result.code), optU8 r.tag]
  | none => [0, 0]

/-- The bytes of a query answer in an answer part (12.1); zeros when there is none. -/
def answerBytes : Option QueryEntry → List Byte
  | some e =>
    [u8 (e.tag + 16 * (if e.state = .answered then 1 else 2)), (e.status.map AnswerStatus.byte).getD 0]
      ++ bytes32 (e.value.getD 0)
  | none => [0, 0, 0, 0, 0, 0]

/-- The answer part (R131, 12.1). -/
def answerPart (held : Option HeldResult) (e : Option QueryEntry) : List Byte :=
  [markByte [held.isSome, e.isSome]] ++ heldBytes held ++ answerBytes e

/-- The held result of a node: of an entry, or of the service address. -/
def State.heldOf (s : State) (i : Option RouteId) : Option HeldResult :=
  match i with
  | some i => (s.routeRun i).held
  | none => s.serviceHeld

/-- The address of a node of the round. -/
def State.addressOf (s : State) (i : Option RouteId) : Byte :=
  match i with
  | some i => (s.routeCfg i).address
  | none => serviceAddress

/-- An answer part is due for a node (R131). -/
def State.answerDue (s : State) (i : Option RouteId) : Bool :=
  (s.heldOf i).isSome || (s.relay.deliveryFor (s.addressOf i)).isSome

/-- A notice part is due for a node (R132). -/
def State.noticeDue (s : State) (i : Option RouteId) : Bool :=
  match i with
  | some i => (s.routeCfg i).notice && s.noticePending
  | none => false

/-- The last POLL to a node carried an answer part. -/
def State.lastWasAnswer (s : State) (i : Option RouteId) : Bool :=
  match i with
  | some i => decide ((s.routeRun i).lastPart = .answer)
  | none => false

/-- The optional part that a POLL carries (R132). -/
def State.optionalPart (s : State) (i : Option RouteId) : OptionalPart :=
  if s.answerDue i then (if s.noticeDue i && s.lastWasAnswer i then .notice else .answer)
  else if s.noticeDue i then .notice
  else .none

/-- The zone that a POLL shows: that of a PANEL, SENSOR or DISPLAY entry (R130). -/
def State.zoneShown (s : State) (i : Option RouteId) : Option ZoneId :=
  match i with
  | some i => if (s.routeCfg i).role = .tool then none else (s.routeCfg i).zone
  | none => none

/-- The RESYNC flag (R13, R130). -/
def State.resync (s : State) (i : Option RouteId) : Bool :=
  match i with
  | some i =>
    decide ((s.routeCfg i).role = .panel) &&
      match (s.routeCfg i).zone with | some z => !(s.zone z).confirmed | none => false
  | none => false

/-- The optional part of a POLL in bytes. -/
def State.optionalBytes (s : State) (i : Option RouteId) : OptionalPart → List Byte
  | .answer => answerPart (s.heldOf i) (s.relay.deliveryFor (s.addressOf i))
  | .notice => bytes16 s.noticeList
  | .none => []

/-- The payload of a POLL (12.1). -/
def State.pollPayload (s : State) (i : Option RouteId) : List Byte :=
  let o := s.optionalPart i
  let z := s.zoneShown i
  [markByte [s.resync i, z.isSome, decide (o = .answer), decide (o = .notice)]] ++ s.housePart
    ++ (match z with | some z => s.zonePart z | none => []) ++ s.optionalBytes i o

/-! ### Sending a POLL -/

/-- The room port is free to send the next POLL: the exchange has ended, no restart is under way, the silence after its own
last frame has been kept, and the line lets the frame go (R107, R110, R114). -/
def State.roomFree (s : State) (quiet : Nat) : Bool :=
  s.isRunning && s.room.wait.isNone && s.room.restartDue.isNone && decide (s.room.sendAfter ≤ s.now)
    && s.lineLets quiet s.room.dueSince

/-- The last optional part of a node becomes what its POLL carried (R132). -/
def State.notePart (s : State) (i : Option RouteId) (o : OptionalPart) : State :=
  match i with
  | some i => s.setRoute i { s.routeRun i with lastPart := o }
  | none => s

/-- The held result of a node becomes absent (R128, R131). -/
def State.dropHeld (s : State) (i : Option RouteId) : State :=
  match i with
  | some i => s.setRoute i { s.routeRun i with held := none }
  | none => { s with serviceHeld := none }

/-- What sending a POLL with an optional part does: an answer part frees what it carries (R131, R164), a notice part becomes
the outstanding offer (R193). -/
def State.carry (s : State) (i : Option RouteId) (o : OptionalPart) : State :=
  match o with
  | .answer => (s.dropHeld i).freeDelivered (s.addressOf i)
  | .notice => s.setEvents { s.events with offer := some s.noticeList }
  | .none => s

/-- The room port once a frame of `n` payload bytes begins now. -/
def RoomPort.polls (r : RoomPort) (now : Time) (i : Option RouteId) (a : Byte) (payload : List Byte) (notice : Bool) :
    RoomPort :=
  let stop := now + frameTime payload.length
  { r with
    pos := match i with | some i => .entry i | none => .service
    wait := some ⟨a, notice, stop + ms 30⟩
    sendAfter := stop + frameGap
    sent := wire (frameTo a clsPoll payload)
    frames := ⟨now, payload.length + 6⟩ :: r.frames }

/-- A POLL is composed and sent (R110, R111). -/
def State.sendPoll (s : State) : State :=
  let i := s.nextPolled
  let o := s.optionalPart i
  let r := s.room.polls s.now i (s.addressOf i) (s.pollPayload i) (decide (o = .notice))
  (((s.carry i o).notePart i o).setRoom r)

/-! ### The outcome of a poll (R111 to R113) -/

/-- The wait of the room port closes, and the next POLL becomes due (R110, R111). -/
def State.closeRoomWait (s : State) : State := s.setRoom { s.room with wait := none, dueSince := s.now }

/-- A miss of an entry (R113). -/
def RouteRun.missed (r : RouteRun) : RouteRun :=
  let n := satInc 255 r.misses
  { r with misses := n, line := if 5 ≤ n then .silent else r.line }

/-- A valid reply of an entry (R113). -/
def RouteRun.answered (r : RouteRun) : RouteRun := { r with misses := 0, line := .answering }

/-- A miss is applied to the entry that holds the polled address (R113). -/
def State.missEntry (s : State) (a : Byte) : State :=
  match s.entryOf a with
  | some i => s.setRoute i (s.routeRun i).missed
  | none => s

/-- A valid reply is applied to the entry that holds the polled address (R113). -/
def State.creditEntry (s : State) (a : Byte) : State :=
  match s.entryOf a with
  | some i => s.setRoute i (s.routeRun i).answered
  | none => s

/-- The outcome of a POLL that carried a notice part goes to the notice block (R127, R194). -/
def State.noticeOutcome (s : State) (carried taken : Bool) : State := if carried then s.endOffer taken else s

/-- The wait of the room port ends without a valid reply (R111, R112, R113, R127). -/
def State.roomMissed (s : State) : State :=
  match s.room.wait with
  | some w => (s.closeRoomWait.missEntry w.address).noticeOutcome w.notice false
  | none => s

/-! ### ROOM REPORT (R124) -/

/-- The readings of a report: taken from a PANEL or a SENSOR (R124). -/
def State.reportReadings (s : State) (x : Sender) (r : RoomReport) : State :=
  match x.entry, s.roleOf x, s.zoneOf x with
  | some i, some .panel, some z => s.takeReadings i z r.temp r.hum
  | some i, some .sensor, some z => s.takeReadings i z r.temp r.hum
  | _, _, _ => s

/-- The zone switch and fan request of a report: taken from a PANEL (R124). -/
def State.reportSwitch (s : State) (x : Sender) (r : RoomReport) : State :=
  match s.roleOf x, s.zoneOf x with
  | some .panel, some z => s.takeSwitch z r.switchOn r.fan
  | _, _ => s

/-- An accepted setpoints part: the change is applied and the confirmed mark becomes yes (R13, R124). -/
def State.confirmSetpoints (s : State) (z : ZoneId) (p : Setpoints) : State :=
  let s := s.changeZone p z
  s.setZone z { s.zone z with confirmed := true }

/-- The setpoints part of a report (R124). -/
def State.reportSetpoints (s : State) (x : Sender) (p : Setpoints) : State :=
  match s.roleOf x, s.zoneOf x with
  | some .panel, some z =>
    if p.wellMarked then (s.confirmSetpoints z p).hold x ⟨.setpoint, .ok, none⟩ else s.hold x ⟨.setpoint, .range, none⟩
  | _, _ => s.hold x ⟨.setpoint, .rights, none⟩

/-- A ROOM REPORT is taken (R124): its readings, then its zone switch, its fan request and its setpoints. No rule orders the parts,
so a zone that the report recovers has its status derived from the fan request it had before the report. DESIGN CHOICE (log
entry 42). -/
def State.takeReport (s : State) (x : Sender) (r : RoomReport) : State :=
  let s := (s.reportReadings x r).reportSwitch x r
  match r.setpoints with
  | some p => s.reportSetpoints x p
  | none => s

/-! ### SETPOINT CHANGE (R15, R125) -/

/-- The table of R15: a role, with or without HOUSE, may make a change of a scope. For an unknown scope the sender is refused
RIGHTS only where both columns refuse it (log entry 21). -/
def scopeAllowed (role : Option Role) (house : Bool) (sc : Scope) : Bool :=
  match role with
  | some .panel =>
    match sc with
    | .zone => true
    | .group => house
    | .house => house
    | .unknown => true
  | some .tool =>
    match sc with
    | .zone => false
    | .group => house
    | .house => house
    | .unknown => house
  | some .sensor => false
  | some .display => false
  | none => false

/-- The result of a SETPOINT CHANGE: the first check of R125 that fails, or OK. -/
def State.changeResult (s : State) (x : Sender) (sc : Scope) (group : Nat) (p : Setpoints) : Result :=
  if !scopeAllowed (s.roleOf x) (s.hasHouse x) sc then .rights
  else if sc = .unknown ∨ (sc = .group ∧ 3 < group) then .range
  else if !p.wellMarked then .range
  else .ok

/-- An accepted change is applied to the zones that its scope reaches (R15). -/
def State.applyChange (s : State) (x : Sender) (sc : Scope) (group : Nat) (p : Setpoints) : State :=
  match sc with
  | .zone => match s.zoneOf x with | some z => s.changeZone p z | none => s
  | .group => s.changeZones p fun c => c.groups.getLsbD group
  | .house => s.changeZones p fun _ => true
  | .unknown => s

/-- A SETPOINT CHANGE is taken (R125). -/
def State.takeChange (s : State) (x : Sender) (sc : Scope) (group : Nat) (p : Setpoints) : State :=
  let r := s.changeResult x sc group p
  (if r = .ok then s.applyChange x sc group p else s).hold x ⟨.setpoint, r, none⟩

/-! ### PLANT QUERY (R126) -/

/-- A PLANT QUERY is taken (R126, R159). -/
def State.askPlant (s : State) (x : Sender) (target item : Byte) (argument : BitVec 16) : State :=
  if s.roleOf x = some .panel ∨ s.roleOf x = some .tool then
    let q := s.takeQuery x.address target item argument
    q.2.hold x q.1
  else s.hold x ⟨.query, .rights, none⟩

end Sys2Proof.Machine
end

