-- ==== Sys2Proof/Machine/TableRecords.lean ====
section
/-! DEFINITION. Table records as bytes (12.3), and the effects of an accepted write of each table (R3, R30, R73, R133 to R135). -/

namespace Sys2Proof.Machine

/-- The four tables (R186). -/
inductive Table where
  | route | zone | damper | profile
  deriving DecidableEq, Repr

/-- The table of a code (R196). -/
def tableOf (b : Byte) : Option Table :=
  if b = 0 then some .route else if b = 1 then some .zone else if b = 2 then some .damper
  else if b = 3 then some .profile else none

/-- The number of records of a table (R186). -/
def Table.size : Table → Nat
  | .route => 16 | .zone => 8 | .damper => 8 | .profile => 1

/-- The per-request limit of a table (R196). -/
def Table.limit : Table → Nat
  | .route => 5 | .zone => 2 | .damper => 3 | .profile => 1

/-- The length of a table's record in bytes (12.3). -/
def Table.recordLength : Table → Nat
  | .route => 5 | .zone => 13 | .damper => 9 | .profile => 15

/-! ### Records sent (12.3) -/

/-- A Route record. -/
def RouteCfg.bytes (c : RouteCfg) : List Byte :=
  [markByte [c.used, c.polled, c.house, c.notice], c.address, c.role.code, optU8 (c.zone.map (·.val)), u8 c.weight]

/-- A Zone record: groups 0 to 3 stand in bits 4 to 7 of the mark byte. -/
def ZoneCfg.bytes (c : ZoneCfg) : List Byte :=
  [u8 (c.enabled.toNat + 16 * c.groups.toNat), c.permission.code] ++ u16 c.qd
    ++ [u8 c.pmin, u8 c.spillRank, u8 c.psp, u8 c.kp] ++ i16 c.shSt ++ i16 c.scSt ++ [BitVec.ofInt 8 c.hdSt]

/-- A Damper record. -/
def DamperCfg.bytes (c : DamperCfg) : List Byte :=
  u16 c.stroke ++ [u8 c.settle, u8 c.approach] ++ u16 c.deadMs ++ u16 c.stallMs ++ [u8 c.seekS]

/-- The Profile record. -/
def Profile.bytes (p : Profile) : List Byte :=
  [u8 p.cycle] ++ u16 p.minRun ++ u16 p.minRest ++ u16 p.dwell
    ++ [u8 p.starvation, u8 p.ton, u8 p.toff, u8 p.dryFactor, u8 p.slots, u8 p.holdMin] ++ bytes16 p.enable

/-- The bytes of `count` entries of a table from `start` on, in index order. -/
def sliceBytes {α : Type} {n : Nat} (v : Vector α n) (f : α → List Byte) (start count : Nat) : List Byte :=
  (List.finRange n).flatMap fun i => if start ≤ i.val ∧ i.val < start + count then f (look v i) else []

/-- The records of a table (R186). -/
def Tables.slice (t : Tables) (k : Table) (start count : Nat) : List Byte :=
  match k with
  | .route => sliceBytes t.routes RouteCfg.bytes start count
  | .zone => sliceBytes t.zones ZoneCfg.bytes start count
  | .damper => sliceBytes t.dampers DamperCfg.bytes start count
  | .profile => t.profile.bytes

/-! ### Records received (12.3): none for a reserved bit set, a code outside its table, or a field out of range (R195) -/

/-- A value that passes a test. -/
def keepIf {α : Type} (p : α → Bool) (x : α) : Option α := if p x then some x else none

/-- The zone byte of a Route record: 0 to 7, or 0xFF for absent; none for any other value. -/
def zoneByte (b : Byte) : Option (Option ZoneId) :=
  if h : b.toNat < 8 then some (some ⟨b.toNat, h⟩) else if b = 0xFF then some none else none

/-- A Route record in range, as it is stored (R119, R120). A TOOL record may carry any zone byte. -/
def routeRecord (p : List Byte) : Option RouteCfg :=
  let m := byteAt p 0
  if m.extractLsb' 4 4 ≠ 0 then none
  else
    match roleOf (byteAt p 2) with
    | none => none
    | some role =>
      match (if role = .tool then some none else zoneByte (byteAt p 3)) with
      | none => none
      | some zone =>
        (keepIf RouteCfg.valid
          { used := m.getLsbD 0, address := byteAt p 1, role, zone, weight := (byteAt p 4).toNat,
            polled := m.getLsbD 1, house := m.getLsbD 2, notice := m.getLsbD 3 }).map RouteCfg.stored

/-- A valid Zone record (R2). -/
def zoneRecord (p : List Byte) : Option ZoneCfg :=
  let m := byteAt p 0
  if m.extractLsb' 1 3 ≠ 0 then none
  else
    match permissionOf (byteAt p 1) with
    | none => none
    | some permission =>
      keepIf ZoneCfg.valid
        { enabled := m.getLsbD 0, groups := m.extractLsb' 4 4, permission, qd := nat16 (byteAt p 2) (byteAt p 3),
          pmin := (byteAt p 4).toNat, spillRank := (byteAt p 5).toNat, psp := (byteAt p 6).toNat,
          kp := (byteAt p 7).toNat, shSt := int16 (byteAt p 8) (byteAt p 9), scSt := int16 (byteAt p 10) (byteAt p 11),
          hdSt := ((byteAt p 12).toNat : Int) }

/-- A valid Damper record (R72). -/
def damperRecord (p : List Byte) : Option DamperCfg :=
  keepIf DamperCfg.valid
    { stroke := nat16 (byteAt p 0) (byteAt p 1), settle := (byteAt p 2).toNat, approach := (byteAt p 3).toNat,
      deadMs := nat16 (byteAt p 4) (byteAt p 5), stallMs := nat16 (byteAt p 6) (byteAt p 7), seekS := (byteAt p 8).toNat }

/-- A valid Profile record (R29). -/
def profileRecord (p : List Byte) : Option Profile :=
  keepIf Profile.valid
    { cycle := (byteAt p 0).toNat, minRun := nat16 (byteAt p 1) (byteAt p 2), minRest := nat16 (byteAt p 3) (byteAt p 4),
      dwell := nat16 (byteAt p 5) (byteAt p 6), starvation := (byteAt p 7).toNat, ton := (byteAt p 8).toNat,
      toff := (byteAt p 9).toNat, dryFactor := (byteAt p 10).toNat, slots := (byteAt p 11).toNat,
      holdMin := (byteAt p 12).toNat, enable := word16 (byteAt p 13) (byteAt p 14) }

/-- `count` records of `len` bytes each. -/
def chunks (len : Nat) : Nat → List Byte → List (List Byte)
  | 0, _ => []
  | k + 1, p => p.take len :: chunks len k (p.drop len)

/-- Every record decoded, or none when one is refused. -/
def allSome {α : Type} : List (Option α) → Option (List α)
  | [] => some []
  | none :: _ => none
  | some x :: xs => (allSome xs).map (x :: ·)

/-- The records of a write decoded, or none when one is refused. -/
def recordsOf {α : Type} (f : List Byte → Option α) (len count : Nat) (p : List Byte) : Option (List α) :=
  allSome ((chunks len count p).map f)

/-- An index that a write covers. -/
def covers (start count i : Nat) : Bool := decide (start ≤ i ∧ i < start + count)

/-- A table with records written from `start` on. -/
def writeAt {α : Type} {n : Nat} (v : Vector α n) (start : Nat) (xs : List α) : Vector α n :=
  tab fun i => if covers start xs.length i.val then xs.getD (i.val - start) (look v i) else look v i

/-! ### Route Table writes (R133 to R135) -/

/-- The write makes an entry used or unused, or changes the address of a used entry: the first two lines of R133. -/
def RouteCfg.renewed (old new : RouteCfg) : Bool :=
  decide (old.used ≠ new.used) || (old.used && decide (old.address ≠ new.address))

/-- The write changes the role or the zone (R133). -/
def RouteCfg.reassigned (old new : RouteCfg) : Bool := decide (old.role ≠ new.role) || decide (old.zone ≠ new.zone)

/-- The runtime part of an entry brought into line with its new configuration (R133). -/
def RouteRun.aligned (r : RouteRun) (old new : RouteCfg) : RouteRun :=
  if old.renewed new then resetRouteRun
  else if old.reassigned new then { r with temp := none, hum := none }
  else r

/-- A zone's set of sources changed, or an entry that stays in it had its readings cleared (R7, R134). -/
def sourcesChanged (old new : Vector RouteCfg 16) (z : ZoneId) : Bool :=
  anyIx fun i : RouteId =>
    let a := look old i
    let b := look new i
    (a.isSourceOf z != b.isSourceOf z) || (b.isSourceOf z && (a.renewed b || a.reassigned b))

/-- A zone has a source in a Route Table. -/
def sourceIn (v : Vector RouteCfg 16) (z : ZoneId) : Bool := anyIx fun i : RouteId => (look v i).isSourceOf z

/-- The PANEL of a zone in a Route Table, by index and address (R134). -/
def panelIn (v : Vector RouteCfg 16) (z : ZoneId) : Option (RouteId × Byte) :=
  ((List.finRange 16).find? fun i => (look v i).isPanelOf z).map fun i => (i, (look v i).address)

/-- A zone has lost its last source (R7). -/
def State.loseSource (s : State) (z : ZoneId) : State :=
  (s.setZone z { s.zone z with t := none, h := none, lastFresh := none, loss := .stopped }).leavePlay z

/-- A zone has gained a source (R7). -/
def State.gainSource (s : State) (z : ZoneId) : State :=
  (s.setZone z { s.zone z with loss := .running (s.now + sec 60) }).deriveStatus z

/-- The sources of a zone after a write (R7, R134). -/
def State.reviewSources (s : State) (old : Vector RouteCfg 16) (z : ZoneId) : State :=
  if sourcesChanged old s.tables.routes z then
    let had := sourceIn old z
    let s := s.recombine z
    if !s.hasSource z then s.loseSource z else if !had then s.gainSource z else s
  else s

/-- The PANEL of a zone after a write (R10, R13, R134). -/
def State.reviewPanel (s : State) (old : Vector RouteCfg 16) (z : ZoneId) : State :=
  match panelIn old z, panelIn s.tables.routes z with
  | before, some p => if before = some p then s else s.setZone z { s.zone z with confirmed := false }
  | some _, none => s.takeSwitch z true false
  | none, none => s

/-- The query relay after a write: the addresses that left (R135, R166). -/
def State.reviewQueries (s : State) (old : Vector RouteCfg 16) (i : RouteId) : State :=
  let a := look old i
  if a.used && a.renewed (s.routeCfg i) then s.freeQueriesOf a.address else s

/-- The Route Table takes new contents, with every effect of section 6.6. -/
def State.routesWritten (s : State) (v : Vector RouteCfg 16) : State :=
  let old := s.tables.routes
  let s := { s with
    tables := { s.tables with routes := v }
    routes := tab fun i => (s.routeRun i).aligned (look old i) (look v i) }
  let s := s.forIx fun z t => (t.reviewSources old z).reviewPanel old z
  s.forIx fun i t => t.reviewQueries old i

/-! ### The other tables (R3, R30, R73, R85) -/

/-- The Zone Table takes new contents in the entries that a write covers. -/
def State.zonesWritten (s : State) (start : Nat) (xs : List ZoneCfg) : State :=
  let old := s.tables.zones
  let s := s.setTables { s.tables with zones := writeAt old start xs }
  s.forIx fun z t => if covers start xs.length z.val then t.zoneWritten z (look old z) else t

/-- The Damper Table takes new contents in the entries that a write covers; channels that lose their homing may join the
queue (R73, R84). -/
def State.dampersWritten (s : State) (start : Nat) (xs : List DamperCfg) : State :=
  let old := s.tables.dampers
  let s := s.setTables { s.tables with dampers := writeAt old start xs }
  (s.forIx fun c t => if covers start xs.length c.val then t.damperWritten c (look old c) else t).serveQueue

/-- The Profile takes new contents: the slot limit by R85, everything else at its next use (R30). -/
def State.profileWritten (s : State) (p : Profile) : State :=
  (s.setTables { s.tables with profile := p }).serveQueue

/-- Some channel whose entry a write covers may not be written (R73). -/
def State.channelBusy (s : State) (start count : Nat) : Bool :=
  anyIx fun c : ChannelId => covers start count c.val && !(s.channel c).writable

end Sys2Proof.Machine
end

