-- ==== Sys2Proof/Machine/Management.lean ====
section
/-! DEFINITION. Management requests (Chapter 11) and their answers (12.1, R196). -/

namespace Sys2Proof.Machine

/-- The answer to a request: its result, the data that goes with OK, and the part after it. -/
structure Answer where
  result : Result
  data : List Byte
  state : State
  deriving DecidableEq, Repr

/-- A refusal carries no data and changes nothing (R184, R196). -/
def State.refuse (s : State) (r : Result) : Answer := ⟨r, [], s⟩

/-- An answer of OK. -/
def State.grant (s : State) (data : List Byte) : Answer := ⟨.ok, data, s⟩

/-- A sender may manage the part (R184). -/
def State.mayManage (s : State) (x : Sender) : Bool := decide (s.roleOf x = some .tool)

/-! ### IDENTIFY (R185) -/

/-- IDENTIFY. -/
def State.identify (s : State) : Answer :=
  s.grant (bytes16 0x5A08 ++ [Config.revision, s.retained.cause.code, s.storeState.code, s.house.code])

/-! ### READ TABLE and WRITE TABLE (R186) -/

/-- The index check of R186. -/
def indexFits (k : Table) (start count : Nat) : Bool :=
  decide (1 ≤ count) && decide (start + count ≤ k.size) && decide (count ≤ k.limit)

/-- READ TABLE. -/
def State.readTable (s : State) (q : List Byte) : Answer :=
  match tableOf (byteAt q 0) with
  | none => s.refuse .range
  | some k =>
    if q.length < 3 then s.refuse .range
    else
      let start := (byteAt q 1).toNat
      let count := (byteAt q 2).toNat
      if indexFits k start count then s.grant (q.take 3 ++ s.tables.slice k start count) else s.refuse .index

/-- The table's own rule and the write (R2, R29, R73, R120, R186). -/
def State.writeRecords (s : State) (k : Table) (start count : Nat) (head records : List Byte) : Answer :=
  match k with
  | .route =>
    match recordsOf routeRecord k.recordLength count records with
    | none => s.refuse .range
    | some xs =>
      let v := writeAt s.tables.routes start xs
      if uniqueRoutes v then (s.routesWritten v).grant head else s.refuse .conflict
  | .zone =>
    match recordsOf zoneRecord k.recordLength count records with
    | none => s.refuse .range
    | some xs => (s.zonesWritten start xs).grant head
  | .damper =>
    match recordsOf damperRecord k.recordLength count records with
    | none => s.refuse .range
    | some xs => if s.channelBusy start count then s.refuse .state else (s.dampersWritten start xs).grant head
  | .profile =>
    match profileRecord records with
    | none => s.refuse .range
    | some p => (s.profileWritten p).grant head

/-- A SAVE is in progress. -/
def State.isSaving (s : State) : Bool := decide (s.storeState = .saving)

/-- WRITE TABLE: the checks in the order of R186, then the write. -/
def State.writeTable (s : State) (q : List Byte) : Answer :=
  match tableOf (byteAt q 0) with
  | none => s.refuse .range
  | some k =>
    if q.length < 3 then s.refuse .range
    else if s.isSaving then s.refuse .busy
    else
      let start := (byteAt q 1).toNat
      let count := (byteAt q 2).toNat
      if !indexFits k start count then s.refuse .index
      else if q.length ≠ 3 + count * k.recordLength then s.refuse .range
      else s.writeRecords k start count (q.take 3) (q.drop 3)

/-! ### SAVE and RESTART (R187 to R189) -/

/-- SAVE (R187). -/
def State.saveTables (s : State) : Answer :=
  if s.isSaving then s.refuse .busy
  else if s.supply.supply = .sag then s.refuse .state
  else ({ s with storeState := .saving, saving := some s.tables }).grant []

/-- The image after a save that wrote `t` (R187, R188). -/
def savedImage (t : Tables) : StoreImage := ⟨true, true, t⟩

/-- The read-back agrees (R188). -/
def State.saveDone (s : State) (t : Tables) : State :=
  (({ s with store := savedImage t, storeState := .valid, saving := none }).raise .saveDone).commission

/-- The image is no longer good (R187, R188). -/
def StoreImage.spoiled (i : StoreImage) : StoreImage := { i with checkGood := false }

/-- The read-back disagrees (R188). -/
def State.saveFailed (s : State) : State :=
  ({ s with store := s.store.spoiled, storeState := .invalid, saving := none }).raise .storeFail

/-- A save ends with its read-back (R188). -/
def State.endSave (s : State) (agrees : Bool) : State :=
  match s.saving with
  | some t => if agrees then s.saveDone t else s.saveFailed
  | none => s

/-- RESTART is answered before the reset (R189). -/
def State.askRestart (s : State) : Answer := if s.isSaving then s.refuse .busy else s.grant []

/-! ### READ STATE (R185, R196; layouts: log entry 7) -/

/-- Whole seconds in two bytes, saturating (R196). -/
def seconds (t : Time) : List Byte := u16 (min 65534 (wholeSec t))

/-- Seconds elapsed since a moment; 0xFFFF when it is absent. -/
def State.elapsed (s : State) (t : Option Time) : List Byte :=
  match t with
  | some t => seconds (s.now - t)
  | none => bytes16 0xFFFF

/-- Seconds remaining until a moment, rounded down (log entry 7); 0xFFFF when it is absent. -/
def State.remaining (s : State) (t : Option Time) : List Byte :=
  match t with
  | some t => seconds (t - s.now)
  | none => bytes16 0xFFFF

/-- The moment at which a running loss timer expires. An EXPIRED one has none, and READ STATE sends 0xFFFF for its seconds as for
a STOPPED one: R196 gives that code to a stopped or absent timer and R4 keeps EXPIRED apart, so this is a DESIGN CHOICE (log
entry 7). -/
def LossTimer.due? : LossTimer → Option Time
  | .running t => some t
  | .expired => none
  | .stopped => none

/-- The item ZONE. The zone switch, ON or OFF in R4, is a mark here: it stands in bit 1 of the mark byte, after the confirmed mark
and before the fan request and the damper fault mark. DESIGN CHOICE (log entry 7). -/
def State.zoneItem (s : State) (z : ZoneId) : List Byte :=
  let r := s.zone z
  i16 r.sh ++ i16 r.sc ++ [BitVec.ofInt 8 r.hd, markByte [r.confirmed, r.switchOn, r.fan, r.damperFault]] ++ optI16 r.t
    ++ [optI8 r.h] ++ s.elapsed r.lastFresh ++ [r.loss.byte] ++ s.remaining r.loss.due?
    ++ [u8 r.call.code, u8 r.demand, u8 r.unmet, r.status.code]

/-- The item ROUTE. -/
def State.routeItem (s : State) (i : RouteId) : List Byte :=
  let r := s.routeRun i
  optI16 (r.temp.map (·.value)) ++ s.elapsed (r.temp.map (·.time)) ++ [optI8 (r.hum.map (·.value))]
    ++ s.elapsed (r.hum.map (·.time))
    ++ [u8 r.misses, r.line.byte, optU8 (r.held.map (·.kind.code)), optU8 (r.held.map (·.result.code)),
        optU8 (r.held.bind (·.tag))]

/-- The count of a MOVE goal. -/
def Goal.count? : Goal → Option Nat
  | .move n => some n
  | .seekOpen => none
  | .seekClosed => none
  | .home => none

/-- The item CHANNEL. The position in the motion queue is counted from 0 at the head, and a channel that is not in the queue
sends the absent code: R185 gives no base, DESIGN CHOICE (log entry 7). -/
def State.channelItem (s : State) (c : ChannelId) : List Byte :=
  let r := s.channel c
  [r.state.code] ++ u16 r.count ++ [markByte [r.homed, r.taken, r.retry], goalByte r.goal]
    ++ optU16 (r.goal.bind Goal.count?)
    ++ [optU8 r.target, u8 r.stray, optU8 (s.reportedOpening c), optU8 (s.queue.findIdx? (· = c)), u8 s.slotLimit]

/-- The item ARBITER. The reheat and cold-blow marks of the plant command record, which it ends with (R27), stand in bits 1 and 2
of the mark byte at the hold mark's place, and the record sends no mark byte of its own: DESIGN CHOICE (log entry 7). -/
def State.arbiterItem (s : State) : List Byte :=
  let a := s.arbiter
  let c := s.command
  [a.house.code, targetByte a.pendingTarget, markByte [a.hold, c.reheat, c.coldBlow]] ++ s.elapsed a.runStart
    ++ s.elapsed a.restStart ++ s.elapsed a.dwellStart
    ++ [runModeByte a.lastRun, c.outMode.code, u8 c.capacity, c.airMode.code] ++ u16 c.airflow

/-- The item COMPUTATION. -/
def State.computationItem (s : State) : List Byte :=
  let c := s.computation
  [zoneSetByte c.served, optU8 c.raw, optU8 c.capacity] ++ optU16 c.airSum ++ optU16 c.commanded
    ++ [zoneSetByte c.spill, markByte [c.short]]
    ++ (match c.openings with | some v => v.toList.map u8 | none => List.replicate 8 0xFF)

/-- Four bytes of an absent value. -/
def absentLong : List Byte := [Config.absentLong 0, Config.absentLong 1, Config.absentLong 2, Config.absentLong 3]

/-- The data of an annex slot as the LINK item shows it; slot 1 shows the bound capability (R196). -/
def Link.annexShown (l : Link) (k : Fin 5) : Option AnnexValue :=
  if k.val = 0 then l.cap.map .capability else l.reported k

/-- The four bytes of an absent slot: the absent code of each field that 12.2 lays out and 0 in its reserved bytes (R195). The
32-bit counts of slots 4 and 5 have no absent code (log entry 7). -/
def annexAbsent (n : Node) (k : Fin 5) : List Byte :=
  if k.val = 0 then
    match n with
    | .outdoorUnit => [0xFF, 0xFF, 0, 0]
    | .airHandler => [0xFF, 0xFF, 0xFF, 0]
  else if k.val = 1 then optI16 none ++ optI16 none
  else if k.val = 2 then [0, 0] ++ optU16 none
  else absentLong

/-- A slot of the LINK item of a node. -/
def Link.annexBytes (l : Link) (n : Node) (k : Fin 5) : List Byte :=
  match l.annexShown k with
  | some v => v.bytes
  | none => annexAbsent n k

/-- A slot is present: it is not absent or stale (R154). -/
def Link.slotPresent (l : Link) (k : Fin 5) : Bool := (l.reported k).isSome

/-- The item LINK (R196). In the mark byte slot 1 stands in bit 0 and slot 5 in bit 4: R196 says bits 4 to 0 and not which
is which, DESIGN CHOICE (log entry 7). -/
def State.linkItem (s : State) (n : Node) : List Byte :=
  let l := s.link n
  let state := match l.nodeState with | some x => x.code | none => 0xF
  [u8 (l.state.code + 8 * l.lost.toNat + 16 * state),
    markByte ((List.finRange 5).map l.slotPresent ++ [l.cap.isSome])]
    ++ optU16 l.fault ++ (List.finRange 5).flatMap (l.annexBytes n) ++ u16 l.breaks ++ [u8 l.stopCount]

/-- The status byte of an entry; the absent code in WAITING and SENT. -/
def QueryEntry.statusByte (e : QueryEntry) : Byte :=
  match e.status with
  | some a => a.byte
  | none => 0xFF

/-- The fields of an entry in the QUERY item. -/
def State.entryBytes (s : State) (e : QueryEntry) : List Byte :=
  [e.requester, nodeCode e.target, e.item] ++ bytes16 e.argument ++ [u8 e.tag, e.state.byte, e.statusByte]
    ++ (match e.value with | some v => bytes32 v | none => absentLong) ++ s.elapsed e.sentTime

/-- The item QUERY: a mark says whether an entry stands at the position. -/
def State.queryItem (s : State) (i : Nat) : List Byte :=
  (match s.relay.entries[i]? with
    | some e => [0x01] ++ s.entryBytes e
    | none => [0x00])
    ++ [optU8 s.relay.onLine] ++ u16 s.relay.late

/-- The item CURTAIL. The hold timer of R167 and the time left on the hold are one field of two bytes, the seconds left: its
code 0xFFFF says that the timer is STOPPED. DESIGN CHOICE (log entry 7). -/
def State.curtailItem (s : State) : List Byte :=
  let d := s.decoder
  [d.train.byte, u8 d.pulses, markByte [d.spoiled], d.level.code, u8 s.cap] ++ s.remaining d.holdDue
    ++ u16 d.invalidTrains
    ++ [optU8 (d.lastTrain.map (·.1)), match d.lastTrain with | some x => x.2.byte | none => 0xFF]

/-- The item COUNTERS. -/
def Counters.item (c : Counters) : List Byte := u16 c.good ++ u16 c.checkErrors ++ u16 c.misses ++ u16 c.impostors

/-- The counters of a line. -/
def State.countersOf (s : State) : Line → Counters
  | .room => s.room.counters
  | .plant => s.plant.counters

/-- The item SUPPLY. The latch is a mark (00_scope.md), so it goes in a mark byte (R196). -/
def State.supplyItem (s : State) : List Byte :=
  [s.supply.supply.byte, s.retained.cause.code, s.supply.input.byte, markByte [s.supply.latch]]

/-- The marks of an event in one byte: raised, enabled, undelivered (R185, R191, R196). -/
def State.eventMarks (s : State) (e : Event) : Byte :=
  markByte [marked s.events.raised e, marked s.profile.enable e, marked s.events.undelivered e]

/-- The item EVENTS: the marks of every event in the order of the codes, then one byte with notice pending in bit 0 and whether an
offer is outstanding in bit 1. DESIGN CHOICE (log entry 7). -/
def State.eventsItem (s : State) : List Byte :=
  allEvents.map s.eventMarks ++ [markByte [s.noticePending, s.events.offer.isSome]]

/-- The largest index of each item (R185); none for an item code outside the list (R196). -/
def itemTop (b : Byte) : Option Nat :=
  ([7, 15, 7, 0, 0, 1, 3, 0, 1, 0, 0] : List Nat)[b.toNat]?

/-- An index within 0 to n − 1, when it is one. -/
def ix? (n : Nat) (i : Nat) : Option (Fin n) := if h : i < n then some ⟨i, h⟩ else none

/-- The contents of an item. -/
def State.itemBytes (s : State) (item index : Nat) : List Byte :=
  match item with
  | 0 => match ix? 8 index with | some z => s.zoneItem z | none => []
  | 1 => match ix? 16 index with | some i => s.routeItem i | none => []
  | 2 => match ix? 8 index with | some c => s.channelItem c | none => []
  | 3 => s.arbiterItem
  | 4 => s.computationItem
  | 5 => s.linkItem (if index = 0 then .airHandler else .outdoorUnit)
  | 6 => s.queryItem index
  | 7 => s.curtailItem
  | 8 => (s.countersOf (if index = 0 then .room else .plant)).item
  | 9 => s.supplyItem
  | 10 => s.eventsItem
  | _ => []

/-- READ STATE. -/
def State.readState (s : State) (q : List Byte) : Answer :=
  if q.length < 2 then s.refuse .range
  else
    match itemTop (byteAt q 0) with
    | none => s.refuse .range
    | some top =>
      if top < (byteAt q 1).toNat then s.refuse .index
      else s.grant (s.itemBytes (byteAt q 0).toNat (byteAt q 1).toNat)

/-! ### CLEAR EVENTS, CLEAR SHUTDOWN, RELEASE DAMPER, CLEAR COUNTERS -/

/-- CLEAR EVENTS (R192, R196). A code named twice is cleared once. -/
def State.clearEvents (s : State) (q : List Byte) : Answer :=
  let n := (byteAt q 0).toNat
  let codes := (q.drop 1).take n
  if q.isEmpty ∨ 16 < n ∨ codes.length < n then s.refuse .range
  else
    match allSome (codes.map eventOf) with
    | none => s.refuse .range
    | some es =>
      let s := es.eraseDups.foldl State.clearEvent s
      s.grant (bytes16 s.events.raised)

/-- The latch becomes CLEAR, and the house arbiter and the damper drives are told (R183). -/
def State.clearLatch (s : State) : State :=
  (({ s with supply := { s.supply with latch := false } }).unhaltHouse).resumeDrives

/-- CLEAR SHUTDOWN (R183). -/
def State.clearShutdown (s : State) : Answer :=
  if s.supply.input = .asserted then s.refuse .state
  else if s.supply.latch then s.clearLatch.grant []
  else s.grant []

/-- RELEASE DAMPER (R98). -/
def State.releaseDamper (s : State) (q : List Byte) : Answer :=
  if q.isEmpty then s.refuse .range
  else
    match ix? 8 (byteAt q 0).toNat with
    | none => s.refuse .range
    | some c => if s.faulted c then (s.releaseChannel c).grant [] else s.refuse .state

/-- A link with its break count at 0. -/
def Link.noBreaks (l : Link) : Link := { l with breaks := 0 }

/-- CLEAR COUNTERS (R190): every counter of the part, and nothing else. -/
def State.clearCounters (s : State) : Answer :=
  ({ s with
      room := { s.room with counters := zeroCounters }
      plant := { s.plant with counters := zeroCounters }
      links := ⟨s.links.air.noBreaks, s.links.outdoor.noBreaks⟩
      relay := { s.relay with late := 0 }
      decoder := { s.decoder with invalidTrains := 0 } }).grant []

/-! ### Taking a request (R184, R196) -/

/-- The ten requests (R196). -/
inductive Request where
  | identify | readTable | writeTable | save | restart | readState | clearEvents | clearShutdown | releaseDamper
  | clearCounters
  deriving DecidableEq, Repr

/-- The request of a code (R196). -/
def requestOf (b : Byte) : Option Request :=
  if b = 0x01 then some .identify else if b = 0x02 then some .readTable else if b = 0x03 then some .writeTable
  else if b = 0x04 then some .save else if b = 0x05 then some .restart else if b = 0x06 then some .readState
  else if b = 0x07 then some .clearEvents else if b = 0x08 then some .clearShutdown
  else if b = 0x09 then some .releaseDamper else if b = 0x0A then some .clearCounters else none

/-- A request that its sender may make, with its parameters. -/
def State.perform (s : State) (r : Request) (q : List Byte) : Answer :=
  match r with
  | .identify => s.identify
  | .readTable => s.readTable q
  | .writeTable => s.writeTable q
  | .save => s.saveTables
  | .restart => s.askRestart
  | .readState => s.readState q
  | .clearEvents => s.clearEvents q
  | .clearShutdown => s.clearShutdown
  | .releaseDamper => s.releaseDamper q
  | .clearCounters => s.clearCounters

/-- A MANAGE REQUEST is executed: the sender, then the request code, then the request (R184). -/
def State.manage (s : State) (x : Sender) (code : Byte) (q : List Byte) : Answer :=
  if !s.mayManage x then s.refuse .rights
  else
    match requestOf code with
    | none => s.refuse .unknown
    | some r => s.perform r q

/-- The room port sends the MANAGE ANSWER, in the silence after the reply and before the next POLL (R107, R114). A RESTART
answered OK sets the moment of its line reset: the end of the answer's last byte (R189). -/
def State.sendAnswer (s : State) (a : Byte) (code : Byte) (r : Result) (data : List Byte) : State :=
  let payload := [code, u8 r.code] ++ data
  let start := max s.now s.room.sendAfter
  let stop := start + frameTime payload.length
  s.setRoom
    { s.room with
      sendAfter := stop + frameGap
      dueSince := stop + frameGap
      sent := wire (frameTo a clsManageAnswer payload)
      frames := ⟨start, payload.length + 6⟩ :: s.room.frames
      restartDue := if requestOf code = some .restart ∧ r = .ok then some stop else s.room.restartDue }

/-- A MANAGE REQUEST is taken and answered (R114, R184). -/
def State.takeRequest (s : State) (x : Sender) (code : Byte) (q : List Byte) : State :=
  let a := s.manage x code q
  a.state.sendAnswer x.address code a.result a.data

/-! ### Every valid reply (R114, R122, R127) -/

/-- The room service acts on a valid reply by its class (R122). -/
def State.takeReply (s : State) (x : Sender) (cls : Byte) (p : List Byte) : State :=
  if cls = clsRoomReport then s.takeReport x (roomReportOf p)
  else if cls = clsSetpointChange then s.takeChange x (scopeOf (byteAt p 1)) (byteAt p 2).toNat (setpointsAt p 3)
  else if cls = clsPlantQuery then
    s.askPlant x (byteAt p 1) (byteAt p 2) (word16 (byteAt p 3) (byteAt p 4))
  else if cls = clsManageRequest then s.takeRequest x (byteAt p 1) (p.drop 2)
  else s

/-- The NOTICE TAKEN flag of a reply's flags byte (12.1). -/
def noticeTaken (p : List Byte) : Bool := (byteAt p 0).getLsbD 0

/-- A valid reply: the wait closes, the entry is credited, the notice is decided, and the room service acts (R113, R114, R122,
R127). The sender is classified before the reply acts (R123). -/
def State.roomAnswered (s : State) (cls : Byte) (p : List Byte) : State :=
  match s.room.wait with
  | some w =>
    let x := s.senderAt w.address
    let s := (s.closeRoomWait.creditEntry w.address).noticeOutcome w.notice (noticeTaken p)
    s.takeReply x cls p
  | none => s

/-- The counts that a verdict raises on the room line (R118). -/
def State.countRoom (s : State) (v : Verdict) : State :=
  s.setRoom { s.room with counters := v.count s.room.counters }

/-- The room port judges a burst (R106, R107, R112). -/
def State.judgeRoom (s : State) (b : Burst) : State :=
  let v := s.roomVerdict b
  let s := s.countRoom v
  match v with
  | .unheard => s
  | .outside _ => s
  | .unsound => s.roomMissed
  | .impostor => s.roomMissed
  | .miss => s.roomMissed
  | .valid cls p => s.roomAnswered cls p

/-- The room port receives what its line has brought: the bursts it has heard are judged one after another (R103, R107). -/
def State.receiveRoom (s : State) (b : Burst) : State :=
  (heard b s.now s.room.frames).foldl State.judgeRoom s

/-- The reply timeout of the room port ends its wait (R111). -/
def State.roomTimedOut (s : State) (under : Option Nat) : Bool :=
  s.isRunning && match s.room.wait with | some w => s.waitEnds w.closes (ms 30) under | none => false

/-- The wait ends at the timeout: one miss (R111, R118). -/
def State.roomTimeout (s : State) : State :=
  (s.setRoom { s.room with counters := s.room.counters.miss }).roomMissed

end Sys2Proof.Machine
end

