-- ==== Sys2Proof/Machine/Supply.lean ====
section
/-! DEFINITION. Supply, resets, start-up and the shutdown latch (Chapter 10). -/

namespace Sys2Proof.Machine

/-! ### The supply monitor (R174, R175) -/

/-- The monitor finds a supply state: until `t` the supply has not stood above the start level without a break (R174, R176). -/
def State.setSupply (s : State) (x : SupplyState) (t : Time) : State :=
  { s with supply := { s.supply with supply := x, holdFrom := max s.supply.holdFrom t } }

/-- The supply state becomes SAG (R174, R175). -/
def State.enterSag (s : State) : State :=
  if s.supply.supply = .sag then s
  else
    let s := s.setSupply .sag s.now
    if s.isRunning then s.raise .supplySag else s

/-- The supply state becomes NORMAL (R174, R175): the supply has stood above the level of sag exit and start for 200 µs, 9.6
ticks (log entry 28). -/
def State.leaveSag (s : State) : State :=
  if s.supply.supply = .normal then s
  else
    let s := s.setSupply .normal (s.now - 9)
    if s.isRunning then s.serveQueue else s

/-! ### Resets (R176, R177) -/

/-- The retained area as a reset leaves it: the decoder's level and hold as they stand, and the reset cause (R173, R177). The
manual does not say what the area holds when a dropout reset follows in the hold of a power-on reset: here a power-on reset
keeps what the area held until START UP clears it, so a dropout reset in its hold leaves the old level and time left to a
check found good. DESIGN CHOICE (log entry 41). -/
def State.areaAtReset (s : State) (cause : ResetCause) : Retained :=
  let r := if s.isRunning then s.keptArea else s.retained
  { r with cause := cause }

/-- The store as a reset leaves it: a reset taken during a SAVE leaves the image invalid (R188). -/
def State.storeAtReset (s : State) : StoreImage := if s.isSaving then s.store.spoiled else s.store

/-- A reset is taken (R176). -/
def State.takeReset (s : State) (cause : ResetCause) : State :=
  State.blank s.now s.pending s.supply.supply s.supply.input s.decoder.pin (s.areaAtReset cause) s.storeAtReset

/-- The line reset that a RESTART has brought is to be taken (R114, R176): at the last byte of its answer, also while the plant
port is in the middle of a frame, which the reset cuts short. DESIGN CHOICE (log entry 45): R176 never takes a line reset in the
middle of a frame, and fixes its moment by the room line alone. -/
def State.lineResetDue (s : State) : Bool := s.isRunning && due s.room.restartDue s.now

/-! ### Start-up (R176 to R179) -/

/-- The hold in reset is over (R174, R176): after a line reset 100 ms after it, above the start level; after a dropout or
power-on reset once the supply has stood above that level for 100 ms without a break, as START UP brings it and as far as
the monitor's findings allow. -/
def State.holdOver (s : State) (above : Nat) : Bool :=
  decide (s.phase = .held) && decide (s.resetAt + ms 100 ≤ s.now) && decide (s.supply.supply = .normal)
    && (if s.retained.cause = .line then decide (0 < above)
        else decide (ms 100 ≤ above) && decide (s.supply.holdFrom + ms 100 ≤ s.now))

/-- The retained area is cleared: its check fails, or the reset is a power-on reset (R178). -/
def State.areaLost (s : State) (good : Bool) : Bool := !good || decide (s.retained.cause = .powerOn)

/-- The image in the store passes every test of R179. -/
def StoreImage.good (i : StoreImage) : Bool := i.markGood && i.checkGood && i.tables.valid

/-- The store load (R179). -/
def State.loadStore (s : State) : State :=
  if s.store.good then { s with tables := s.store.tables, storeState := .valid }
  else { s with tables := defaultTables, storeState := .defaults }

/-- Start-up begins: the retained area is tested and the store is loaded (R176 to R179). -/
def State.beginStart (s : State) (retainedGood : Bool) : State :=
  let s := { s with retained := if s.areaLost retainedGood then clearedRetained else s.retained, phase := .loading }
  s.loadStore

/-! ### Start-up completion (R180) -/

/-- The house state at start-up completion (R28). -/
def State.firstHouse (s : State) : HouseState :=
  if s.storeState = .valid then (if s.supply.latch then .halt else .idle) else .uncommissioned

/-- The arbiter at start-up completion (R28, R31, R32): the cycle timer and the rest timer start. -/
def State.firstArbiter (s : State) : Arbiter :=
  { resetArbiter with house := s.firstHouse, cycleDue := s.after (sec s.profile.cycle), restStart := some s.now }

/-- The moment at which the channels join for HOME: at start-up completion, or 2 s after the reset when that is later
(R102). -/
def State.homingTime (s : State) : Time := max s.now (s.resetAt + sec 2)

/-- The events of start-up completion (R180, R191). -/
def State.firstEvents (s : State) : State :=
  let s := (s.setEvents clearedEvents).raise .restart
  let s := if s.supply.latch then s.raise .shutdown else s
  if s.supply.supply = .sag then s.raise .supplySag else s

/-- The homing join that start-up completion sets: none while the latch is set, when the channels join at its clearing
instead (R102, R182). -/
def State.homingJoin (s : State) : Option Time := if s.supply.latch then none else some s.homingTime

/-- Every block starts from the tables as loaded (R4, R23, R28, R73, R85, R102, R110, R167, R180, R182). -/
def State.startBlocks (s : State) : State :=
  let s := { s with
    phase := .running
    supply := { s.supply with latch := decide (s.supply.input = InputState.asserted) } }
  let s := { s with
    arbiter := s.firstArbiter
    zones := tab s.startZone
    slotLimit := s.profile.slots
    channels := tab fun c => { s.channel c with restMs := (s.damperCfg c).deadMs }
    room := { s.room with dueSince := s.now }
    homingDue := s.homingJoin }
  (s.forIx fun z t => t.deriveStatus z).startDecoder

/-- Start-up completion (R180): the blocks start, the first plant round begins (R115), and RESTART is raised. -/
def State.completeStart (s : State) : State := s.startBlocks.firstEvents.startRound

/-- The channels join for HOME in order of channel number, unless the latch has set meanwhile (R102). -/
def State.startHoming (s : State) : State :=
  (({ s with homingDue := none }).forIx fun c t => t.comeToJoin c).serveQueue

/-! ### The shutdown latch (R181) -/

/-- The filtered input takes a state. -/
def State.setInput (s : State) (x : InputState) : State := { s with supply := { s.supply with input := x } }

/-- The latch becomes SET: SHUTDOWN is raised, and the house arbiter and the damper drives are told (R48, R99, R181). -/
def State.setLatch (s : State) : State :=
  ((({ s with supply := { s.supply with latch := true } }).raise .shutdown).haltHouse).cutDrives

/-- The input state becomes ASSERTED (R181). While the part is held in reset or starting up the latch is not yet set (R182). -/
def State.inputAsserted (s : State) : State :=
  let s := s.setInput .asserted
  if s.isRunning && !s.supply.latch then s.setLatch else s

end Sys2Proof.Machine
end

