-- ==== Sys2Proof/Machine/RoomCommands.lean ====
section
/-! DEFINITION. The commands of the room line: POLL, the replies, the ten management requests, and what ends a wait without a reply.
A burst is judged by what it is, whichever of these commands brings it (log entry 6). -/

namespace Sys2Proof.Machine

open Host (Outcome)

/-- POLL (R107, R110, R111): the next POLL of the round goes out when the exchange before it has ended and the line lets it go. -/
def execPoll (o : Sending) (s : State) : Outcome State Fault Refusal :=
  let s := s.elapse o.dt
  .next (if s.roomFree o.quiet then s.sendPoll else s)

/-- NOTHING (R122): a sign of life, and its flags byte (R127). -/
def execNothing (dt : Nat) (b : Burst) (s : State) : Outcome State Fault Refusal :=
  .next ((s.elapse dt).receiveRoom b)

/-- ROOM_REPORT (R124). -/
def execRoomReport (dt : Nat) (b : Burst) (s : State) : Outcome State Fault Refusal :=
  .next ((s.elapse dt).receiveRoom b)

/-- SETPOINT_CHANGE (R125). -/
def execSetpointChange (dt : Nat) (b : Burst) (s : State) : Outcome State Fault Refusal :=
  .next ((s.elapse dt).receiveRoom b)

/-- PLANT_QUERY (R126, R159). -/
def execPlantQuery (dt : Nat) (b : Burst) (s : State) : Outcome State Fault Refusal :=
  .next ((s.elapse dt).receiveRoom b)

/-- IDENTIFY (R185). -/
def execIdentify (dt : Nat) (b : Burst) (s : State) : Outcome State Fault Refusal :=
  .next ((s.elapse dt).receiveRoom b)

/-- READ_TABLE (R186). -/
def execReadTable (dt : Nat) (b : Burst) (s : State) : Outcome State Fault Refusal :=
  .next ((s.elapse dt).receiveRoom b)

/-- WRITE_TABLE (R186, and R3, R30, R73, R133 to R135 for its effects). -/
def execWriteTable (dt : Nat) (b : Burst) (s : State) : Outcome State Fault Refusal :=
  .next ((s.elapse dt).receiveRoom b)

/-- SAVE (R187). -/
def execSave (dt : Nat) (b : Burst) (s : State) : Outcome State Fault Refusal :=
  .next ((s.elapse dt).receiveRoom b)

/-- RESTART (R189): answered first; the reset follows as LINE_RESET. -/
def execRestart (dt : Nat) (b : Burst) (s : State) : Outcome State Fault Refusal :=
  .next ((s.elapse dt).receiveRoom b)

/-- READ_STATE (R185). -/
def execReadState (dt : Nat) (b : Burst) (s : State) : Outcome State Fault Refusal :=
  .next ((s.elapse dt).receiveRoom b)

/-- CLEAR_EVENTS (R192). -/
def execClearEvents (dt : Nat) (b : Burst) (s : State) : Outcome State Fault Refusal :=
  .next ((s.elapse dt).receiveRoom b)

/-- CLEAR_SHUTDOWN (R183). -/
def execClearShutdown (dt : Nat) (b : Burst) (s : State) : Outcome State Fault Refusal :=
  .next ((s.elapse dt).receiveRoom b)

/-- RELEASE_DAMPER (R98). -/
def execReleaseDamper (dt : Nat) (b : Burst) (s : State) : Outcome State Fault Refusal :=
  .next ((s.elapse dt).receiveRoom b)

/-- CLEAR_COUNTERS (R190). -/
def execClearCounters (dt : Nat) (b : Burst) (s : State) : Outcome State Fault Refusal :=
  .next ((s.elapse dt).receiveRoom b)

/-- UNKNOWN_REQUEST_CODE (R184): refused with UNKNOWN. -/
def execUnknownRequestCode (dt : Nat) (b : Burst) (s : State) : Outcome State Fault Refusal :=
  .next ((s.elapse dt).receiveRoom b)

/-- DECIDING_BURST_MISS (R112, R117): the burst ends the wait of its line as a miss. -/
def execDecidingBurstMiss (dt : Nat) (l : Line) (b : Burst) (s : State) : Outcome State Fault Refusal :=
  match l with
  | .room => .next ((s.elapse dt).receiveRoom b)
  | .plant => .next ((s.elapse dt).receivePlant b)

/-- BURST_OUTSIDE_WAIT (R107): counted and discarded. -/
def execBurstOutsideWait (dt : Nat) (l : Line) (b : Burst) (s : State) : Outcome State Fault Refusal :=
  match l with
  | .room => .next ((s.elapse dt).receiveRoom b)
  | .plant => .next ((s.elapse dt).receivePlant b)

/-- ROOM_REPLY_TIMEOUT (R111). -/
def execRoomReplyTimeout (o : Timeout) (s : State) : Outcome State Fault Refusal :=
  let s := s.elapse o.dt
  .next (if s.roomTimedOut o.under then s.roomTimeout else s)

end Sys2Proof.Machine
end

