-- ==== Sys2Proof/Machine/PlantCommands.lean ====
section
/-! DEFINITION. The commands of the plant line and of the plant links and the query relay. -/

namespace Sys2Proof.Machine

open Host (Outcome)

/-- PLANT_ROUND (R115): the round timer expires, and a round begins once the last one has ended. A slot that a burst running on
(R104, R117) holds open past the expiry delays the round, and the timer starts its 500 ms when the delayed round begins, not at
that expiry. DESIGN CHOICE (log entry 47). -/
def execPlantRound (dt : Nat) (s : State) : Outcome State Fault Refusal :=
  let s := s.elapse dt
  .next (if s.plantFree && due s.plant.roundDue s.now && decide (s.plant.slot = .over) then s.startRound else s)

/-- PLANT_COMMAND (R115, R137, R138): in its slot, to a node whose link is not DOWN. -/
def execPlantCommand (o : Sending) (n : Node) (s : State) : Outcome State Fault Refusal :=
  let s := s.elapse o.dt
  .next
    (if s.plantSendsNow o.quiet && decide (s.plant.slot = slotOf n) && decide ((s.link n).state ≠ .down) then s.sendCommand n
     else s)

/-- WAKE (R116): in its slot, to a node whose link is DOWN, at least 2 s after the last. -/
def execWake (o : Sending) (n : Node) (s : State) : Outcome State Fault Refusal :=
  let s := s.elapse o.dt
  .next
    (if s.plantSendsNow o.quiet && decide (s.plant.slot = slotOf n) && decide ((s.link n).state = .down) && s.wakeDue n then
      s.sendWake n
     else s)

/-- QUERY (R160): in the query slot. -/
def execQuery (o : Sending) (s : State) : Outcome State Fault Refusal :=
  let s := s.elapse o.dt
  .next (if s.plantSendsNow o.quiet && decide (s.plant.slot = .query) then s.sendQuery else s)

/-- PLANT_STATUS (R117, R147, R162). -/
def execPlantStatus (dt : Nat) (b : Burst) (s : State) : Outcome State Fault Refusal :=
  .next ((s.elapse dt).receivePlant b)

/-- QUERY_ACCEPT (R117, R161). -/
def execQueryAccept (dt : Nat) (b : Burst) (s : State) : Outcome State Fault Refusal :=
  .next ((s.elapse dt).receivePlant b)

/-- PLANT_REPLY_TIMEOUT (R111, R117, R160). -/
def execPlantReplyTimeout (o : Timeout) (s : State) : Outcome State Fault Refusal :=
  let s := s.elapse o.dt
  .next (if s.plantTimedOut o.under then s.plantTimeout else s)

/-- BINDING_SUPERVISOR_EXPIRY (R141). -/
def execBindingSupervisorExpiry (dt : Nat) (n : Node) (s : State) : Outcome State Fault Refusal :=
  let s := s.elapse dt
  .next (if s.isRunning && due (s.link n).bindDue s.now then s.bindingFailed n else s)

/-- LINK_SILENCE_TIMER_EXPIRY (R144). -/
def execLinkSilenceTimerExpiry (dt : Nat) (n : Node) (s : State) : Outcome State Fault Refusal :=
  let s := s.elapse dt
  .next (if s.isRunning && due (s.link n).silenceDue s.now then s.fallSilent n else s)

/-- LINK_LOSS_TIMER_EXPIRY (R145). -/
def execLinkLossTimerExpiry (dt : Nat) (n : Node) (s : State) : Outcome State Fault Refusal :=
  let s := s.elapse dt
  .next (if s.isRunning && due (s.link n).lossDue s.now then s.loseLink n else s)

/-- STOP_TIMER_EXPIRY (R138, R143). -/
def execStopTimerExpiry (dt : Nat) (n : Node) (s : State) : Outcome State Fault Refusal :=
  let s := s.elapse dt
  .next (if s.isRunning && due (s.link n).stopDue s.now then s.stopTimedOut n else s)

/-- ANSWER_TIMER_EXPIRY (R163). -/
def execAnswerTimerExpiry (dt : Nat) (tag : Nat) (s : State) : Outcome State Fault Refusal :=
  let s := s.elapse dt
  .next (if s.isRunning then s.answerTimerExpired tag else s)

end Sys2Proof.Machine
end

