-- ==== Sys2Proof/Machine/HouseCommands.lean ====
section
/-! DEFINITION. The commands of the house arbiter, the zones and the damper drives. -/

namespace Sys2Proof.Machine

open Host (Outcome)

/-- CYCLE_EXPIRY (R31, R34). -/
def execCycleExpiry (dt : Nat) (s : State) : Outcome State Fault Refusal :=
  let s := s.elapse dt
  .next (if s.isRunning && due s.arbiter.cycleDue s.now then s.cycle else s)

/-- DEFROST_TIMER_EXPIRY (R45): DEFROST LONG is raised and the house stays in DEFROST. -/
def execDefrostTimerExpiry (dt : Nat) (s : State) : Outcome State Fault Refusal :=
  let s := s.elapse dt
  .next (if s.isRunning && due s.arbiter.defrostDue s.now then s.defrostLong else s)

/-- ZONE_LOSS_TIMER_EXPIRY (R8, R24). -/
def execZoneLossTimerExpiry (dt : Nat) (z : ZoneId) (s : State) : Outcome State Fault Refusal :=
  let s := s.elapse dt
  .next (if s.isRunning && (s.zone z).lossDue s.now then s.loseZone z else s)

/-- FEEDBACK_PULSE (R88, R89, R91). -/
def execFeedbackPulse (dt : Nat) (c : ChannelId) (s : State) : Outcome State Fault Refusal :=
  let s := s.elapse dt
  .next (if s.isRunning then s.pulse c else s)

/-- CHANNEL_SILENCE_TIMER_EXPIRY (R90, R93 to R95). -/
def execChannelSilenceTimerExpiry (dt : Nat) (c : ChannelId) (s : State) : Outcome State Fault Refusal :=
  let s := s.elapse dt
  .next (if s.isRunning && due (s.channel c).silenceDue s.now then s.silenceExpired c else s)

/-- SEEK_TIMER_EXPIRY (R96). -/
def execSeekTimerExpiry (dt : Nat) (c : ChannelId) (s : State) : Outcome State Fault Refusal :=
  let s := s.elapse dt
  .next (if s.isRunning && due (s.channel c).seekDue s.now then s.seekExpired c else s)

/-- SETTLE_END (R92). -/
def execSettleEnd (dt : Nat) (c : ChannelId) (s : State) : Outcome State Fault Refusal :=
  let s := s.elapse dt
  .next (if s.isRunning && (s.channel c).settleOver s.now then s.joinInOrder c else s)

/-- DEAD_TIME_ELAPSED (R82): a channel that waits to join does so when both conditions hold. -/
def execDeadTimeElapsed (dt : Nat) (c : ChannelId) (s : State) : Outcome State Fault Refusal :=
  let s := s.elapse dt
  .next (if s.isRunning && s.joinsNow c then s.joinInOrder c else s)

/-- START_UP_HOMING_JOIN (R102). -/
def execStartUpHomingJoin (dt : Nat) (s : State) : Outcome State Fault Refusal :=
  let s := s.elapse dt
  .next (if s.isRunning && due s.homingDue s.now then s.startHoming else s)

end Sys2Proof.Machine
end

