-- ==== Sys2Proof/Machine/SupplyCommands.lean ====
section
/-! DEFINITION. The commands of the curtailment input, the supply, the resets, the shutdown input and the store. -/

namespace Sys2Proof.Machine

open Host (Outcome)

/-- CURTAIL_INPUT_ASSERTED (R168). -/
def execCurtailInputAsserted (dt : Nat) (s : State) : Outcome State Fault Refusal :=
  .next (s.elapse dt).curtailAsserted

/-- CURTAIL_INPUT_AT_REST (R168, R169). -/
def execCurtailInputAtRest (dt : Nat) (s : State) : Outcome State Fault Refusal :=
  .next (s.elapse dt).curtailAtRest

/-- COUNTED_PULSE (R168, R169): the assertion under way reaches 50 ms. -/
def execCountedPulse (dt : Nat) (s : State) : Outcome State Fault Refusal :=
  let s := s.elapse dt
  .next (if s.isRunning && s.decoder.lasts s.now (ms 50) then s.setDecoder s.decoder.reach else s)

/-- PULSE_SPOILED (R168): the assertion under way passes 500 ms, be it by one tick. DESIGN CHOICE (log entry 39). -/
def execPulseSpoiled (dt : Nat) (s : State) : Outcome State Fault Refusal :=
  let s := s.elapse dt
  .next (if s.isRunning && s.decoder.lasts s.now (ms 500 + 1) then s.setDecoder s.decoder.spoil else s)

/-- TRAIN_END (R169, R170). -/
def execTrainEnd (dt : Nat) (s : State) : Outcome State Fault Refusal :=
  let s := s.elapse dt
  .next (if s.isRunning && decide (s.decoder.train = .gap) && s.decoder.quietOver s.now then s.endTrain else s)

/-- HOLD_TIMER_EXPIRY (R171). -/
def execHoldTimerExpiry (dt : Nat) (s : State) : Outcome State Fault Refusal :=
  let s := s.elapse dt
  .next (if s.isRunning && due s.decoder.holdDue s.now then s.holdExpired else s)

/-- SAG_ENTRY (R174, R175). -/
def execSagEntry (dt : Nat) (s : State) : Outcome State Fault Refusal :=
  .next (s.elapse dt).enterSag

/-- SAG_EXIT (R174, R175). -/
def execSagExit (dt : Nat) (s : State) : Outcome State Fault Refusal :=
  .next (s.elapse dt).leaveSag

/-- DROPOUT_RESET (R174, R176). -/
def execDropoutReset (dt : Nat) (s : State) : Outcome State Fault Refusal :=
  .next ((s.elapse dt).takeReset .dropout)

/-- POWER_ON_RESET (R176). -/
def execPowerOnReset (dt : Nat) (s : State) : Outcome State Fault Refusal :=
  .next ((s.elapse dt).takeReset .powerOn)

/-- LINE_RESET (R176, R189): after the last byte of the answer to RESTART. -/
def execLineReset (dt : Nat) (s : State) : Outcome State Fault Refusal :=
  let s := s.elapse dt
  .next (if s.lineResetDue then s.takeReset .line else s)

/-- START_UP (R174, R176 to R179): when the hold in reset is over. -/
def execStartUp (o : Powered) (retainedGood : Bool) (s : State) : Outcome State Fault Refusal :=
  let s := s.elapse o.dt
  .next (if s.holdOver o.above then s.beginStart retainedGood else s)

/-- START_UP_COMPLETION (R180): when the store load ends. -/
def execStartUpCompletion (dt : Nat) (s : State) : Outcome State Fault Refusal :=
  let s := s.elapse dt
  .next (if s.phase = .loading then s.completeStart else s)

/-- SHUTDOWN_INPUT_ASSERTED (R181). -/
def execShutdownInputAsserted (dt : Nat) (s : State) : Outcome State Fault Refusal :=
  .next (s.elapse dt).inputAsserted

/-- SHUTDOWN_INPUT_RELEASED (R181): the latch stays as it is. -/
def execShutdownInputReleased (dt : Nat) (s : State) : Outcome State Fault Refusal :=
  .next ((s.elapse dt).setInput .released)

/-- SAVE_END (R188). -/
def execSaveEnd (dt : Nat) (agrees : Bool) (s : State) : Outcome State Fault Refusal :=
  let s := s.elapse dt
  .next (if s.isRunning && s.isSaving then s.endSave agrees else s)

end Sys2Proof.Machine
end

