-- ==== Sys2Proof/Machine/Dispatch.lean ====
section
/-! DEFINITION. The dispatch: one arm for each command, each one direct call of its meaning. -/

namespace Sys2Proof.Machine

def exec (i : Instr) (s : State) : Host.Outcome State Fault Refusal :=
  match i with
  | .poll o => Sys2Proof.Machine.execPoll o s
  | .nothing dt b => Sys2Proof.Machine.execNothing dt b s
  | .roomReport dt b => Sys2Proof.Machine.execRoomReport dt b s
  | .setpointChange dt b => Sys2Proof.Machine.execSetpointChange dt b s
  | .plantQuery dt b => Sys2Proof.Machine.execPlantQuery dt b s
  | .identify dt b => Sys2Proof.Machine.execIdentify dt b s
  | .readTable dt b => Sys2Proof.Machine.execReadTable dt b s
  | .writeTable dt b => Sys2Proof.Machine.execWriteTable dt b s
  | .save dt b => Sys2Proof.Machine.execSave dt b s
  | .restart dt b => Sys2Proof.Machine.execRestart dt b s
  | .readState dt b => Sys2Proof.Machine.execReadState dt b s
  | .clearEvents dt b => Sys2Proof.Machine.execClearEvents dt b s
  | .clearShutdown dt b => Sys2Proof.Machine.execClearShutdown dt b s
  | .releaseDamper dt b => Sys2Proof.Machine.execReleaseDamper dt b s
  | .clearCounters dt b => Sys2Proof.Machine.execClearCounters dt b s
  | .decidingBurstMiss dt l b => Sys2Proof.Machine.execDecidingBurstMiss dt l b s
  | .burstOutsideWait dt l b => Sys2Proof.Machine.execBurstOutsideWait dt l b s
  | .roomReplyTimeout o => Sys2Proof.Machine.execRoomReplyTimeout o s
  | .plantRound dt => Sys2Proof.Machine.execPlantRound dt s
  | .plantCommand o n => Sys2Proof.Machine.execPlantCommand o n s
  | .wake o n => Sys2Proof.Machine.execWake o n s
  | .query o => Sys2Proof.Machine.execQuery o s
  | .plantStatus dt b => Sys2Proof.Machine.execPlantStatus dt b s
  | .queryAccept dt b => Sys2Proof.Machine.execQueryAccept dt b s
  | .plantReplyTimeout o => Sys2Proof.Machine.execPlantReplyTimeout o s
  | .bindingSupervisorExpiry dt n => Sys2Proof.Machine.execBindingSupervisorExpiry dt n s
  | .linkSilenceTimerExpiry dt n => Sys2Proof.Machine.execLinkSilenceTimerExpiry dt n s
  | .linkLossTimerExpiry dt n => Sys2Proof.Machine.execLinkLossTimerExpiry dt n s
  | .stopTimerExpiry dt n => Sys2Proof.Machine.execStopTimerExpiry dt n s
  | .answerTimerExpiry dt tag => Sys2Proof.Machine.execAnswerTimerExpiry dt tag s
  | .cycleExpiry dt => Sys2Proof.Machine.execCycleExpiry dt s
  | .defrostTimerExpiry dt => Sys2Proof.Machine.execDefrostTimerExpiry dt s
  | .zoneLossTimerExpiry dt z => Sys2Proof.Machine.execZoneLossTimerExpiry dt z s
  | .feedbackPulse dt c => Sys2Proof.Machine.execFeedbackPulse dt c s
  | .channelSilenceTimerExpiry dt c => Sys2Proof.Machine.execChannelSilenceTimerExpiry dt c s
  | .seekTimerExpiry dt c => Sys2Proof.Machine.execSeekTimerExpiry dt c s
  | .settleEnd dt c => Sys2Proof.Machine.execSettleEnd dt c s
  | .deadTimeElapsed dt c => Sys2Proof.Machine.execDeadTimeElapsed dt c s
  | .startUpHomingJoin dt => Sys2Proof.Machine.execStartUpHomingJoin dt s
  | .curtailInputAsserted dt => Sys2Proof.Machine.execCurtailInputAsserted dt s
  | .curtailInputAtRest dt => Sys2Proof.Machine.execCurtailInputAtRest dt s
  | .countedPulse dt => Sys2Proof.Machine.execCountedPulse dt s
  | .pulseSpoiled dt => Sys2Proof.Machine.execPulseSpoiled dt s
  | .trainEnd dt => Sys2Proof.Machine.execTrainEnd dt s
  | .holdTimerExpiry dt => Sys2Proof.Machine.execHoldTimerExpiry dt s
  | .sagEntry dt => Sys2Proof.Machine.execSagEntry dt s
  | .sagExit dt => Sys2Proof.Machine.execSagExit dt s
  | .dropoutReset dt => Sys2Proof.Machine.execDropoutReset dt s
  | .powerOnReset dt => Sys2Proof.Machine.execPowerOnReset dt s
  | .lineReset dt => Sys2Proof.Machine.execLineReset dt s
  | .startUp o retainedGood => Sys2Proof.Machine.execStartUp o retainedGood s
  | .startUpCompletion dt => Sys2Proof.Machine.execStartUpCompletion dt s
  | .shutdownInputAsserted dt => Sys2Proof.Machine.execShutdownInputAsserted dt s
  | .shutdownInputReleased dt => Sys2Proof.Machine.execShutdownInputReleased dt s
  | .saveEnd dt agrees => Sys2Proof.Machine.execSaveEnd dt agrees s
  | .unknownRequestCode dt b => Sys2Proof.Machine.execUnknownRequestCode dt b s

end Sys2Proof.Machine
end

