-- ==== Sys2Proof/WellFormed.lean ====
section
/-! DEFINITION. Which commands can be made at all: what the manual says of a burst on a line and of a tag. The machine runs
every command, well-formed or not; the check says which ones the outside world can send. -/

namespace Sys2Proof

/-- The bytes of one burst do not overlap, and each gap between the stop bit of one and the start bit of the next is shorter
than 4 ms, 192 ticks (R103). -/
def gapsFit : List LineByte → Bool
  | [] => true
  | [_] => true
  | c :: d :: rest => decide (d.age + 25 ≤ c.age ∧ c.age < d.age + 25 + 192) && gapsFit (d :: rest)

/-- A byte has its start bit and its stop bit (R103). -/
def LineByte.framed (c : LineByte) : Bool := !c.bits.getLsbD 0 && c.bits.getLsbD 9

/-- A burst as a command brings it: at least one byte, each with its start and stop bits, no gap of 4 ms between them, and
4 ms of silence after the stop bit of the last (R103). -/
def Burst.wf (b : Burst) : Bool :=
  b.chars.all LineByte.framed && gapsFit b.chars
    && match b.chars.getLast? with | some c => decide (25 + 192 ≤ c.age) | none => false

/-- A command is well-formed when the burst it carries is one that a line can bring, and the tag it names is one of R158. -/
def Instr.wf : Instr → Bool
  | .poll _ => true
  | .nothing _ b => b.wf
  | .roomReport _ b => b.wf
  | .setpointChange _ b => b.wf
  | .plantQuery _ b => b.wf
  | .identify _ b => b.wf
  | .readTable _ b => b.wf
  | .writeTable _ b => b.wf
  | .save _ b => b.wf
  | .restart _ b => b.wf
  | .readState _ b => b.wf
  | .clearEvents _ b => b.wf
  | .clearShutdown _ b => b.wf
  | .releaseDamper _ b => b.wf
  | .clearCounters _ b => b.wf
  | .decidingBurstMiss _ _ b => b.wf
  | .burstOutsideWait _ _ b => b.wf
  | .roomReplyTimeout _ => true
  | .plantRound _ => true
  | .plantCommand _ _ => true
  | .wake _ _ => true
  | .query _ => true
  | .plantStatus _ b => b.wf
  | .queryAccept _ b => b.wf
  | .plantReplyTimeout _ => true
  | .bindingSupervisorExpiry _ _ => true
  | .linkSilenceTimerExpiry _ _ => true
  | .linkLossTimerExpiry _ _ => true
  | .stopTimerExpiry _ _ => true
  | .answerTimerExpiry _ tag => decide (tag ≤ 15)
  | .cycleExpiry _ => true
  | .defrostTimerExpiry _ => true
  | .zoneLossTimerExpiry _ _ => true
  | .feedbackPulse _ _ => true
  | .channelSilenceTimerExpiry _ _ => true
  | .seekTimerExpiry _ _ => true
  | .settleEnd _ _ => true
  | .deadTimeElapsed _ _ => true
  | .startUpHomingJoin _ => true
  | .curtailInputAsserted _ => true
  | .curtailInputAtRest _ => true
  | .countedPulse _ => true
  | .pulseSpoiled _ => true
  | .trainEnd _ => true
  | .holdTimerExpiry _ => true
  | .sagEntry _ => true
  | .sagExit _ => true
  | .dropoutReset _ => true
  | .powerOnReset _ => true
  | .lineReset _ => true
  | .startUp _ _ => true
  | .startUpCompletion _ => true
  | .shutdownInputAsserted _ => true
  | .shutdownInputReleased _ => true
  | .saveEnd _ _ => true
  | .unknownRequestCode _ b => b.wf

/-- The ticks that have passed since the command before it. -/
def Instr.dt : Instr → Nat
  | .poll o => o.dt
  | .nothing dt _ => dt
  | .roomReport dt _ => dt
  | .setpointChange dt _ => dt
  | .plantQuery dt _ => dt
  | .identify dt _ => dt
  | .readTable dt _ => dt
  | .writeTable dt _ => dt
  | .save dt _ => dt
  | .restart dt _ => dt
  | .readState dt _ => dt
  | .clearEvents dt _ => dt
  | .clearShutdown dt _ => dt
  | .releaseDamper dt _ => dt
  | .clearCounters dt _ => dt
  | .decidingBurstMiss dt _ _ => dt
  | .burstOutsideWait dt _ _ => dt
  | .roomReplyTimeout o => o.dt
  | .plantRound dt => dt
  | .plantCommand o _ => o.dt
  | .wake o _ => o.dt
  | .query o => o.dt
  | .plantStatus dt _ => dt
  | .queryAccept dt _ => dt
  | .plantReplyTimeout o => o.dt
  | .bindingSupervisorExpiry dt _ => dt
  | .linkSilenceTimerExpiry dt _ => dt
  | .linkLossTimerExpiry dt _ => dt
  | .stopTimerExpiry dt _ => dt
  | .answerTimerExpiry dt _ => dt
  | .cycleExpiry dt => dt
  | .defrostTimerExpiry dt => dt
  | .zoneLossTimerExpiry dt _ => dt
  | .feedbackPulse dt _ => dt
  | .channelSilenceTimerExpiry dt _ => dt
  | .seekTimerExpiry dt _ => dt
  | .settleEnd dt _ => dt
  | .deadTimeElapsed dt _ => dt
  | .startUpHomingJoin dt => dt
  | .curtailInputAsserted dt => dt
  | .curtailInputAtRest dt => dt
  | .countedPulse dt => dt
  | .pulseSpoiled dt => dt
  | .trainEnd dt => dt
  | .holdTimerExpiry dt => dt
  | .sagEntry dt => dt
  | .sagExit dt => dt
  | .dropoutReset dt => dt
  | .powerOnReset dt => dt
  | .lineReset dt => dt
  | .startUp o _ => o.dt
  | .startUpCompletion dt => dt
  | .shutdownInputAsserted dt => dt
  | .shutdownInputReleased dt => dt
  | .saveEnd dt _ => dt
  | .unknownRequestCode dt _ => dt

end Sys2Proof
end

