-- ==== Sys2Proof/Safety.lean ====
section
/-! DEFINITION. What a safe part is: the conditions that the manual states of the part as a whole, block by block. Each one holds at
State.reset and is meant to hold at every state that a step reaches from one where it holds. -/

namespace Sys2Proof.Machine

/-- The tables in use hold no record that is not valid, and the Route Table is free of clashes (R2, R72, R120). -/
def TablesHold (s : State) : Prop := s.tables.valid = true

/-- An undelivered event is a raised event (R191). -/
def EventsHold (s : State) : Prop := s.events.undelivered &&& ~~~s.events.raised = 0

/-- The effective setpoints of every zone lie in their ranges, at least 1 °C apart (R12). -/
def SetpointsHold (s : State) : Prop :=
  ∀ z : ZoneId,
    (50 ≤ (s.zone z).sh ∧ (s.zone z).sh ≤ 300) ∧ (150 ≤ (s.zone z).sc ∧ (s.zone z).sc ≤ 350)
      ∧ 10 ≤ (s.zone z).sc - (s.zone z).sh ∧ (35 ≤ (s.zone z).hd ∧ (s.zone z).hd ≤ 70)

/-- A zone without a call demands nothing and has waited for nothing; demand and unmet count stay in their ranges (R4, R17,
R22). -/
def CallsHold (s : State) : Prop :=
  ∀ z : ZoneId,
    ((s.zone z).call = .none → (s.zone z).demand = 0 ∧ (s.zone z).unmet = 0)
      ∧ (s.zone z).demand ≤ 100 ∧ (s.zone z).unmet ≤ 255

/-- A call stands in a zone that takes part in the house decision, and in no other (R17, R24). Before start-up completes no
zone calls. -/
structure CallsInPlay (s : State) : Prop where
  plays : ∀ z : ZoneId, (s.zone z).call ≠ .none → s.inPlay z = true
  silentBefore : s.phase ≠ .running → ∀ z : ZoneId, (s.zone z).call = .none

/-- Every damper position count lies between 0 and the channel's stroke (R88). Before start-up completes it is 0 (R74). -/
structure PositionsHold (s : State) : Prop where
  counts : ∀ c : ChannelId, (s.channel c).count ≤ (s.damperCfg c).stroke
  zeroBefore : s.phase ≠ .running → ∀ c : ChannelId, (s.channel c).count = 0

/-- The air handler mode of a house state: SHED runs with the fan or without it (R26, R46, R69, R71). -/
def airModeFits (h : HouseState) (m : AirMode) : Prop := m = h.airMode ∨ (h = .shed ∧ m = .off)

/-- The plant command record follows the house state, an OFF node is commanded nothing, and the shutdown latch holds the house
in HALT or UNCOMMISSIONED (R27, R48, R71, R181). The compressor timers follow the outdoor mode, and the timers of CHANGEOVER
and DEFROST run in those states alone (R32, R45). Before start-up completes nothing is commanded. -/
structure HouseHolds (s : State) : Prop where
  outMode : s.command.outMode = s.house.outMode
  airMode : airModeFits s.house s.command.airMode
  outOff : s.command.outMode = .off → s.command.capacity = 0
  airOff : s.command.airMode = .off → s.command.airflow = 0 ∧ s.command.reheat = false ∧ s.command.coldBlow = false
  latched : s.supply.latch = true → s.house = .halt ∨ s.house = .uncommissioned
  runTimer : s.arbiter.runStart.isSome = s.command.outOn
  restTimer : s.phase = .running → s.arbiter.restStart.isSome = !s.command.outOn
  dwellTimer : s.arbiter.dwellStart.isSome = decide (s.house = .changeover)
  defrostFlow : s.arbiter.remembered.isSome = decide (s.house = .defrost)
  silentBefore : s.phase ≠ .running → s.house = .uncommissioned ∧ s.supply.latch = false

/-- What R75 and R84 say of one channel: its state, its homed mark, its goal and its drive agree. -/
structure ChannelHolds (r : Channel) : Prop where
  drives : r.dir.isSome = r.driving
  idleHomed : r.state = .idle → r.homed = true
  unhomed : r.state = .unhomed → r.homed = false
  queuedGoal : r.state = .queued → r.goal.isSome = true ∧ (r.homed = false ↔ r.goal = some .home)
  movingGoal : r.state = .moving → r.homed = true ∧ ∃ n, r.goal = some (.move n)
  seekingGoal : r.state = .seeking → ∃ g, r.goal = some g ∧ g.isMove = false

/-- The damper drives as a whole: each channel by R75, the queue by R82, the slots by R84, the fault marks by R25; and under
the shutdown latch nothing drives and nothing waits (R99). Before start-up completes every channel is UNHOMED (R102). -/
structure DrivesHold (s : State) : Prop where
  channels : ∀ c : ChannelId, ChannelHolds (s.channel c)
  queueOnce : s.queue.Nodup
  queueStates : ∀ c : ChannelId, c ∈ s.queue ↔ (s.channel c).state = .queued
  slots : s.drivingCount ≤ s.slotLimit
  latched : s.supply.latch = true → s.drivingCount = 0 ∧ s.queue = []
  faultMarks : ∀ c : ChannelId, (s.zone c).damperFault = decide ((s.channel c).state = .fault)
  silentBefore : s.phase ≠ .running → s.supply.latch = false ∧ ∀ c : ChannelId, (s.channel c).state = .unhomed

/-- The Query list holds at most four entries, one for each requester, no two with one tag, and every tag lies from 0 to 15
(R158). -/
structure QueriesHold (s : State) : Prop where
  length : s.relay.entries.length ≤ 4
  requesters : (s.relay.entries.map (·.requester)).Nodup
  tags : (s.relay.entries.map (·.tag)).Nodup
  tagRange : ∀ e ∈ s.relay.entries, e.tag ≤ 15

/-- A link in READY, ACTIVE, STOPPING or SILENT (R33). -/
def LinkState.bound (x : LinkState) : Bool :=
  x.reachable || decide (x = .stopping) || decide (x = .silent)

/-- What sections 7.2 to 7.4 say of one link: its capability is bound in the four bound states and in no other, each timer
runs in its states alone, and the stop sequence is open in STOPPING (R138, R141, R143 to R146, R155). -/
structure LinkHolds (l : Link) : Prop where
  capability : l.cap.isSome = l.state.bound
  binding : l.bindDue.isSome = decide (l.state = .binding)
  silence : l.silenceDue.isSome = (l.state.reachable || decide (l.state = .stopping))
  loss : l.lossDue.isSome = decide (l.state = .silent)
  stopTimer : l.stopDue.isSome = l.stopOpen
  stopping : l.state = .stopping → l.stopOpen = true
  stopBound : l.stopOpen = true → l.state.bound = true
  downRun : l.state = .down → l.runLength = 0
  runSlot : l.state = .binding → 1 ≤ l.runLength → l.slot1.isSome = true

/-- Both links. -/
def LinksHold (s : State) : Prop := ∀ n : Node, LinkHolds (s.link n)

/-- The curtailment decoder: the hold runs while a level stands and is stopped under RELEASE (R171), the pulse timer runs in
PULSE, and the gap timer is stopped in QUIET and WAIT REST (R167). The running decoder's level and the time
left on its hold are the retained ones (R173). -/
structure DecoderHolds (s : State) : Prop where
  hold : s.decoder.holdDue.isSome = decide (s.decoder.level ≠ .release)
  pulseTimer : s.decoder.pulseStart.isSome = decide (s.decoder.train = .pulse)
  gapTimer : s.decoder.train = .gap → s.decoder.gapStart.isSome = true
  restTimer : s.decoder.train = .quiet ∨ s.decoder.train = .waitRest → s.decoder.gapStart = none
  retained : s.phase = .running →
    s.retained.level = s.decoder.level ∧ s.retained.holdLeft = s.decoder.holdLeft s.now

/-- Every entry's miss count lies from 0 to 255, and the entry is SILENT from the fifth miss on (R113). -/
def MissesHold (s : State) : Prop :=
  ∀ i : RouteId, (s.routeRun i).misses ≤ 255 ∧ ((s.routeRun i).line = .silent ↔ 5 ≤ (s.routeRun i).misses)

/-! ### What the statements say of replies: which burst is a valid reply, and what every valid reply and every miss does before
its contents are acted on -/

/-- A burst arrives on a line at a moment (R103, R107): it is one burst, its bytes sent as R103 says, and it began when the
port's own frames so far had ended. -/
structure Arrives (b : Burst) (at' : Time) (frames : List OwnFrame) : Prop where
  oneBurst : b.wf = true
  afterOwn : ∀ f ∈ frames, f.stop ≤ at' - b.age

/-- A burst of an age that has begun within a wait of length `timeout` (R111, R117). -/
def BeganWithin (s : State) (dt age : Nat) (closes timeout : Time) : Prop :=
  closes ≤ s.now + dt - age + timeout ∧ s.now + dt - age ≤ closes

/-- A burst that passes every test of R112: sound, to the coordinator, from the node polled, of a room reply class, with the
fixed part that its class requires. -/
structure IsReply (bytes : List Byte) (source : Byte) (fits : Byte → List Byte → Bool) (cls : Byte) (p : List Byte) :
    Prop where
  sound : sound bytes = true
  toUs : frameDest bytes = coordinatorAddress
  fromNode : frameSource bytes = source
  isClass : frameClass bytes = cls
  payload : framePayload bytes = p
  fits : fits cls p = true

/-- The burst is the valid reply of class `cls` with payload `p` to the open POLL `w` (R111, R112). -/
structure Hears (s : State) (dt : Nat) (b : Burst) (w : RoomWait) (cls : Byte) (p : List Byte) : Prop where
  running : s.phase = .running
  waiting : s.room.wait = some w
  arrives : Arrives b (s.now + dt) s.room.frames
  inTime : BeganWithin s dt b.age w.closes (ms 30)
  reply : IsReply b.bytes w.address roomFits cls p

/-- The burst is the valid answer with payload `p` to the frame that opened the wait `w` of the plant port (R117). -/
structure HearsPlant (s : State) (dt : Nat) (b : Burst) (w : PlantWait) (cls : Byte) (p : List Byte) : Prop where
  running : s.phase = .running
  waiting : s.plant.wait = some w
  arrives : Arrives b (s.now + dt) s.plant.frames
  inTime : BeganWithin s dt b.age w.closes (ms 50)
  reply : IsReply b.bytes (nodeAddress w.node) (plantFits w.expects) cls p

/-- The burst decides the open POLL `w` and is no valid reply (R112). -/
structure HearsMiss (s : State) (dt : Nat) (b : Burst) (w : RoomWait) : Prop where
  running : s.phase = .running
  waiting : s.room.wait = some w
  arrives : Arrives b (s.now + dt) s.room.frames
  inTime : BeganWithin s dt b.age w.closes (ms 30)
  noReply : ∀ cls p, ¬IsReply b.bytes w.address roomFits cls p

/-- The burst decides the open wait `w` of the plant port and is no valid answer (R117). -/
structure HearsPlantMiss (s : State) (dt : Nat) (b : Burst) (w : PlantWait) : Prop where
  running : s.phase = .running
  waiting : s.plant.wait = some w
  arrives : Arrives b (s.now + dt) s.plant.frames
  inTime : BeganWithin s dt b.age w.closes (ms 50)
  noReply : ∀ cls p, ¬IsReply b.bytes (nodeAddress w.node) (plantFits w.expects) cls p

/-- One good frame more (R118). -/
def oneGood (c : Counters) : Counters := { c with good := satInc 65535 c.good }

/-- The counts that the table of R112 gives a deciding burst that is no valid reply. -/
def missCounts (c : Counters) (bytes : List Byte) (source : Byte) : Counters :=
  let c' := { c with misses := satInc 65535 c.misses }
  if sound bytes = false then { c' with checkErrors := satInc 65535 c.checkErrors }
  else if frameDest bytes = coordinatorAddress ∧ frameSource bytes ≠ source then
    { c' with good := satInc 65535 c.good, impostors := satInc 65535 c.impostors }
  else { c' with good := satInc 65535 c.good }

/-- The Route Table's runtime parts once the entry that holds an address has been credited with a valid reply (R113). -/
def creditedRoutes (s : State) (a : Byte) : Vector RouteRun 16 :=
  match s.entryOf a with
  | some i => put s.routes i { s.routeRun i with misses := 0, line := .answering }
  | none => s.routes

/-- The Route Table's runtime parts once the entry that holds an address has missed a poll (R113). -/
def missedRoutes (s : State) (a : Byte) : Vector RouteRun 16 :=
  match s.entryOf a with
  | some i =>
    let r := s.routeRun i
    put s.routes i
      { r with misses := satInc 255 r.misses, line := if 4 ≤ r.misses then .silent else r.line }
  | none => s.routes

/-- The event list once a POLL has its outcome (R127, R194): only a POLL that carried a notice part ends the offer, and only
NOTICE TAKEN delivers it. -/
def endedOffer (e : EventList) (carried taken : Bool) : EventList :=
  match carried, e.offer with
  | true, some o => { e with undelivered := if taken then e.undelivered &&& ~~~o else e.undelivered, offer := none }
  | true, none => e
  | false, _ => e

/-- The event list once an event has been raised (R191, R193): a raised event stays as it is; another becomes raised and
undelivered and leaves the outstanding offer. -/
def afterRaise (x : EventList) (e : Event) : EventList :=
  if marked x.raised e then x
  else ⟨x.raised ||| e.bit, x.undelivered ||| e.bit, x.offer.map (· &&& ~~~e.bit)⟩

/-- The plant port once a wait has ended at a moment with the counters it leaves; the slot is the one that follows, and its frame
becomes due. -/
def plantAfter (p : PlantPort) (now : Time) (c : Counters) (x : Slot) : PlantPort :=
  { p with wait := none, counters := c, slot := x, dueSince := now }

/-- The slot that follows a slot (R115): the next one of the round, or a later one when it sends nothing. -/
def follows : Slot → Slot → Prop
  | .airHandler, y => y ≠ .airHandler
  | .outdoorUnit, y => y = .query ∨ y = .over
  | .query, y => y = .over
  | .over, y => y = .over

/-- The part once a valid reply to the POLL `w` has been judged, before its contents are acted on. -/
def afterReply (s : State) (dt : Nat) (w : RoomWait) (p : List Byte) : State :=
  { s.elapse dt with
    room := { s.room with wait := none, dueSince := s.now + dt, counters := oneGood s.room.counters }
    routes := creditedRoutes s w.address
    events := endedOffer s.events w.notice (noticeTaken p) }

/-- The part once the POLL `w` has ended as a miss, with the counters it leaves. -/
def afterMiss (s : State) (dt : Nat) (w : RoomWait) (c : Counters) : State :=
  { s.elapse dt with
    room := { s.room with wait := none, dueSince := s.now + dt, counters := c }
    routes := missedRoutes s w.address
    events := endedOffer s.events w.notice false }

/-- The end of a MANAGE ANSWER with `n` bytes of data that begins as soon as the line allows (R107, R114). -/
def answerEnd (t : State) (n : Nat) : Time := max t.now t.room.sendAfter + frameTime (2 + n)

/-- The part once a MANAGE ANSWER has been sent to an address: request code, result, data (R114, R196). -/
def answeredWith (t : State) (a code : Byte) (r : Result) (data : List Byte) : State :=
  { t with
    room :=
      { t.room with
        sendAfter := answerEnd t data.length + ms 4
        dueSince := answerEnd t data.length + ms 4
        sent := wire (frameTo a clsManageAnswer ([code, u8 r.code] ++ data))
        frames := ⟨max t.now t.room.sendAfter, data.length + 8⟩ :: t.room.frames } }

/-- What a ROOM REPORT from a SENSOR or PANEL entry of a zone does with its readings, its zone switch and its fan request (R5, R6,
R8 to R11, R124): all of it but the setpoints, the confirmed mark and the held result. -/
def TakesReport (s t : State) (dt : Nat) (i : RouteId) (z : ZoneId) (r : RoomReport) : Prop :=
  let now := s.now + dt
  let temp := r.temp.filter fun x => decide (0 ≤ x ∧ x ≤ 600)
  let hum := r.hum.filter fun x => decide (0 ≤ x ∧ x ≤ 100)
  let heard := temp.isSome || hum.isSome
  let wasLost := decide ((s.zone z).loss = .expired)
  let panel := decide ((s.routeCfg i).role = .panel)
  let plays := panel && (s.zoneCfg z).enabled && !(wasLost && !heard)
  let leaves := plays && (s.zone z).switchOn && !r.switchOn
  let returns := plays && !(s.zone z).switchOn && r.switchOn
  t.routeRun i =
      { s.routeRun i with
        temp := match temp with | some x => some ⟨x, now⟩ | none => (s.routeRun i).temp
        hum := match hum with | some x => some ⟨x, now⟩ | none => (s.routeRun i).hum
        misses := 0, line := .answering, held := (t.routeRun i).held }
    ∧ (∀ j, j ≠ i → t.routeRun j = s.routeRun j)
    ∧ t.zone z =
      { s.zone z with
        t := combine (t.freshReadings (·.temp) z)
        h := combine (t.freshReadings (·.hum) z)
        lastFresh := if heard then some now else (s.zone z).lastFresh
        loss := if heard then .running (now + sec 60) else (s.zone z).loss
        switchOn := if panel then r.switchOn else (s.zone z).switchOn
        fan := if panel then r.fan else (s.zone z).fan
        call := if leaves then .none else (s.zone z).call
        demand := if leaves then 0 else (s.zone z).demand
        unmet := if leaves then 0 else (s.zone z).unmet
        status := (t.zone z).status
        sh := (t.zone z).sh, sc := (t.zone z).sc, hd := (t.zone z).hd, confirmed := (t.zone z).confirmed }
    ∧ (leaves || returns → (t.zone z).status = t.statusOf z)
    ∧ (heard && wasLost → (t.zone z).fan = (s.zone z).fan → (t.zone z).status = t.statusOf z)
    ∧ (!(heard && wasLost) && !leaves && !returns → (t.zone z).status = (s.zone z).status)
    ∧ ∀ z', z' ≠ z → t.zone z' = s.zone z'

/-- The rest that R32 asks before a start in a mode has run: the minimum rest, or after a run in the other mode the longer of it
and the changeover dwell. -/
def Rested (s : State) (now : Time) (m : RunMode) : Prop :=
  ∃ r, s.arbiter.restStart = some r
    ∧ r + sec (if s.arbiter.lastRun = some m then s.profile.minRest else max s.profile.minRest s.profile.dwell) ≤ now

/-- The air handler keeps its fan at the entry to SHED (R46): it is available, it runs, and a fan request counts (R10). -/
def FanKept (s : State) : Prop :=
  s.available .airHandler = true ∧ s.command.airMode ≠ .off ∧ ∃ z : ZoneId, (s.zone z).fan = true ∧ s.inPlay z = true

/-- The house has entered SHED at a moment (R36, R46, R53): the dwell and defrost timers, the pending target, the hold mark and
the remembered airflow are cleared, the outdoor unit is commanded OFF, a compressor that ran has stopped, and the air handler
runs its fan at the airflow it had, moved into Qmin to Qmax, or is commanded OFF. -/
structure EntersShed (s t : State) (now : Time) : Prop where
  house : t.house = .shed
  cleared : t.arbiter.pendingTarget = none ∧ t.arbiter.hold = false ∧ t.arbiter.dwellStart = none
    ∧ t.arbiter.remembered = none ∧ t.arbiter.defrostDue = none
  lastRun : t.arbiter.lastRun = s.arbiter.lastRun
  stopped : s.command.outMode ≠ .off → t.arbiter.runStart = none ∧ t.arbiter.restStart = some now
    ∧ marked t.events.raised .modeChange = true
  rested : s.command.outMode = .off → t.arbiter.runStart = s.arbiter.runStart ∧ t.arbiter.restStart = s.arbiter.restStart
  fan : FanKept s → t.command = { commandOff with airMode := .fan, airflow := t.command.airflow }
    ∧ ∀ lo hi, s.airLimits = some (lo, hi) → t.command.airflow = max lo (min hi s.command.airflow)
  off : ¬FanKept s → t.command = commandOff

/-- A cycle expiry has published no opening set, and its computation record is that of no computation (R56, R59). -/
def PublishesNothing (s t : State) : Prop :=
  t.channels = s.channels ∧ t.queue = s.queue
    ∧ t.computation = { s.computation with spill := Vector.replicate 8 false, short := false }

/-- A channel comes to join the motion queue at a moment (R82, R92): it has settled, or with the latch clear and its dead time run
it waits UNHOMED, after the homing join of start-up, or IDLE with a target that it has not taken. -/
def ComesToJoin (s : State) (now : Time) (c : ChannelId) : Prop :=
  (s.supply.latch = false ∧ (s.channel c).lastOff + ms (s.channel c).restMs ≤ now
    ∧ (((s.channel c).state = .unhomed ∧ s.homingDue = none)
      ∨ ((s.channel c).state = .idle ∧ (s.channel c).target.isSome = true ∧ (s.channel c).taken = false)))
    ∨ ((s.channel c).state = .settling ∧ ∃ d, (s.channel c).deadDue = some d ∧ d ≤ now)

/-- The active goal that a target gives on a channel (R76). -/
def goalFor (cfg : DamperCfg) (p : Nat) : Goal :=
  if p = 0 then .seekClosed else if p = 100 then .seekOpen else .move ((p * cfg.stroke + 50) / 100)

/-- A target's goal needs motion from a position count (R76). -/
def TargetMoves (cfg : DamperCfg) (p count : Nat) : Prop :=
  p = 0 ∨ p = 100 ∨ (cfg.settle : Int) < |((p * cfg.stroke + 50) / 100 : Nat) - (count : Int)|

/-- A channel has joined the queue with a goal, or has been granted its stroke already (R82, R86). -/
def JoinedFor (u : Channel) (g : Goal) : Prop :=
  u.goal = some g ∧ (u.state = .queued ∨ u.state = if g.isMove then .moving else .seeking)

/-- What a channel `r` at rest and homed has become once it has adopted a target (R78, R82): IDLE with the goal reached when none is
needed, IDLE with its target not taken when it cannot join, and otherwise in the queue or granted. -/
def AdoptsTarget (latch : Bool) (now : Time) (cfg : DamperCfg) (p : Nat) (r u : Channel) : Prop :=
  (¬TargetMoves cfg p r.count →
      u = { r with state := .idle, goal := none, target := some p, taken := true, retry := false })
    ∧ (TargetMoves cfg p r.count → latch = true ∨ now < r.lastOff + ms r.restMs →
      u = { r with state := .idle, goal := none, target := some p, taken := false })
    ∧ (TargetMoves cfg p r.count → latch = false → r.lastOff + ms r.restMs ≤ now →
      JoinedFor u (goalFor cfg p) ∧ u.target = some p ∧ u.taken = true ∧ u.homed = r.homed ∧ u.count = r.count
        ∧ u.retry = r.retry)

/-- The frames that the port of a line has sent since the reset. -/
def lineFrames (s : State) : Line → List OwnFrame
  | .room => s.room.frames
  | .plant => s.plant.frames

/-- A byte on a line ends before a frame of the port begins, or begins after it has ended (R107). -/
def Clear (f : OwnFrame) (now : Time) (x : LineByte) : Prop := now - x.age + 25 ≤ f.start ∨ f.stop ≤ now - x.age

/-- Two bytes of a record as an unsigned number, high byte first. -/
def fieldAt (r : List Byte) (k : Nat) : Nat := 256 * (byteAt r k).toNat + (byteAt r (k + 1)).toNat

/-- The bytes of a table record hold no field out of range (R2, R29, R72, R119, section 12.3). -/
def RecordFits (k : Table) (r : List Byte) : Prop :=
  let x : Nat → Nat := fun i => (byteAt r i).toNat
  let f := fieldAt r
  match k with
  | .route => (byteAt r 0).extractLsb' 4 4 = 0 ∧ (0x10 ≤ x 1 ∧ x 1 ≤ 0x6F) ∧ x 2 ≤ 3 ∧ (x 2 = 2 ∨ x 3 ≤ 7)
      ∧ (1 ≤ x 4 ∧ x 4 ≤ 4)
  | .zone => (byteAt r 0).extractLsb' 1 3 = 0 ∧ x 1 ≤ 2 ∧ (20 ≤ f 2 ∧ f 2 ≤ 400) ∧ x 4 ≤ 60 ∧ x 5 ≤ 8
      ∧ (10 ≤ x 6 ∧ x 6 ≤ 100) ∧ (1 ≤ x 7 ∧ x 7 ≤ 40) ∧ (50 ≤ f 8 ∧ f 8 ≤ 300) ∧ (150 ≤ f 10 ∧ f 10 ≤ 350)
      ∧ f 8 + 10 ≤ f 10 ∧ (35 ≤ x 12 ∧ x 12 ≤ 70)
  | .damper => (200 ≤ f 0 ∧ f 0 ≤ 4000) ∧ (2 ≤ x 2 ∧ x 2 ≤ 20) ∧ (8 ≤ x 3 ∧ x 3 ≤ 64) ∧ (100 ≤ f 4 ∧ f 4 ≤ 2000)
      ∧ (200 ≤ f 6 ∧ f 6 ≤ 2000) ∧ (30 ≤ x 8 ∧ x 8 ≤ 240)
  | .profile => (10 ≤ x 0 ∧ x 0 ≤ 60) ∧ (120 ≤ f 1 ∧ f 1 ≤ 900) ∧ (60 ≤ f 3 ∧ f 3 ≤ 600) ∧ (60 ≤ f 5 ∧ f 5 ≤ 600)
      ∧ (5 ≤ x 7) ∧ (3 ≤ x 8 ∧ x 8 ≤ 20) ∧ x 9 ≤ 10 ∧ (40 ≤ x 10 ∧ x 10 ≤ 80) ∧ (1 ≤ x 11 ∧ x 11 ≤ 4)
      ∧ (10 ≤ x 12 ∧ x 12 ≤ 240)

/-- The reply comes from the service address or from a used entry of role TOOL (R184). -/
def FromTool (s : State) (w : RoomWait) : Prop := s.roleOf (s.senderAt w.address) = some .tool

/-- The burst is a MANAGE REQUEST with a code and parameters `q` from a sender that may manage the part (R184). -/
structure Requests (s : State) (dt : Nat) (b : Burst) (w : RoomWait) (code : Byte) (q : List Byte) (p : List Byte) :
    Prop where
  hears : Hears s dt b w clsManageRequest p
  tool : FromTool s w
  hasCode : byteAt p 1 = code
  hasParams : p.drop 2 = q

end Sys2Proof.Machine
end

