-- ==== Sys2Proof/Certificates/Slice0/Obligations.lean ====
section
/-! DEFINITION. The statements about the part, for the provers. Each docstring names the rules of the manual that its statement rests on. -/

open Sys2Proof Sys2Proof.Machine

/-! ### The step -/

/-- A step runs the command at the front of the queue, with the rest of the queue behind it; on an empty queue the part idles
(the model's own, log entry 3). -/
def Obligations.StepRunsTheFrontCommand : Prop :=
  (∀ (c : Instr) (rest : List Instr) (s : State), s.pending = c :: rest → step s = exec c { s with pending := rest })
    ∧ ∀ s : State, s.pending = [] → step s = .next s

/-- Every command, in every state, is answered by a next state; its time passes and the commands that wait stay as they are. -/
def Obligations.EveryCommandPassesItsTime : Prop :=
  ∀ (i : Instr) (s : State), ∃ t, exec i s = .next t ∧ t.pending = s.pending ∧ t.now = s.now + i.dt

/-! ### What every step keeps -/

/-- Every invariant below holds right after reset. -/
def Obligations.ResetIsSafe : Prop :=
  TablesHold State.reset ∧ SetpointsHold State.reset ∧ CallsHold State.reset ∧ CallsInPlay State.reset
    ∧ PositionsHold State.reset ∧ HouseHolds State.reset ∧ DrivesHold State.reset ∧ QueriesHold State.reset
    ∧ LinksHold State.reset ∧ DecoderHolds State.reset ∧ EventsHold State.reset ∧ MissesHold State.reset

/-- The tables in use stay valid and free of clashes, and every effective setpoint stays in its range, the pair at least 1 °C
apart (R2, R12, R29, R72, R119, R120). -/
def Obligations.StepKeepsTablesAndSetpoints : Prop :=
  ∀ s t : State, TablesHold s → SetpointsHold s → step s = .next t → TablesHold t ∧ SetpointsHold t

/-- Five invariants that every step keeps on their own: demand and unmet count in their ranges and 0 without a call (R21,
R22), every position count between 0 and its channel's stroke (R88), at most four queries with one for each requester and no
tag held twice (R158, R159), no undelivered event that is not raised (R191), and an entry SILENT exactly from its fifth miss
on (R113). -/
def Obligations.StepKeepsCountsAndLists : Prop :=
  ((∀ s t : State, CallsHold s → step s = .next t → CallsHold t)
      ∧ ∀ s t : State, PositionsHold s → step s = .next t → PositionsHold t)
  ∧ (∀ s t : State, QueriesHold s → step s = .next t → QueriesHold t)
  ∧ ((∀ s t : State, EventsHold s → step s = .next t → EventsHold t)
      ∧ ∀ s t : State, MissesHold s → step s = .next t → MissesHold t)

/-- Only a zone that is enabled, has a source, is not lost and is switched ON ever calls (R17, R24). -/
def Obligations.StepKeepsCallsInPlay : Prop :=
  ∀ s t : State, CallsInPlay s → step s = .next t → CallsInPlay t

/-- The plant command record and the compressor timers stay in agreement with the house state, and the shutdown latch keeps
the house in HALT or UNCOMMISSIONED (R26, R27, R32, R48, R69, R71, R181). -/
def Obligations.StepKeepsHouse : Prop :=
  ∀ s t : State, HouseHolds s → step s = .next t → HouseHolds t

/-- The channels, the motion queue, the slots and the damper fault marks stay in agreement; nothing drives under the shutdown
latch (R25, R75, R82, R84, R99). -/
def Obligations.StepKeepsDrives : Prop :=
  ∀ s t : State, DrivesHold s → step s = .next t → DrivesHold t

/-- Each plant link's capability, timers and stop sequence stay in agreement with its state (R138, R141, R143 to R146,
R153, R155). -/
def Obligations.StepKeepsLinks : Prop :=
  ∀ s t : State, LinksHold s → step s = .next t → LinksHold t

/-- The hold runs exactly while a level stands, the pulse and gap timers follow the train, and the retained level and time left
are the decoder's, as they stand at every moment (R167, R169, R171, R173). -/
def Obligations.StepKeepsDecoder : Prop :=
  ∀ s t : State, DecoderHolds s → step s = .next t → DecoderHolds t

/-- Whatever command changes the outdoor mode of the plant command record, MODE CHANGE is raised after it; a reset apart,
which clears the record with everything else (R53). -/
def Obligations.ModeChangeIsRaised : Prop :=
  ∀ s t : State, step s = .next t → t.phase = .running → s.command.outMode ≠ t.command.outMode →
    marked t.events.raised .modeChange = true

/-- While the shutdown input stands asserted, nothing but a reset clears the latch: both nodes stay commanded OFF and no
drive output comes on (R99, R181, R183). -/
def Obligations.LatchStandsWhileAsserted : Prop :=
  ∀ s t : State, HouseHolds s → DrivesHold s → step s = .next t → s.phase = .running → t.phase = .running →
    s.supply.latch = true → s.supply.input = .asserted →
      t.supply.latch = true ∧ t.command.outMode = .off ∧ t.command.airMode = .off
        ∧ ∀ c : ChannelId, t.openOutput c = false ∧ t.closeOutput c = false

/-! ### Frames and records -/

/-- Every frame that the part composes is sound, and a receiver reads from it the destination, source, class and payload
that went in (R104, R105, R108); each byte goes over the line with its start bit, its eight data bits from the least
significant on, and its stop bit (R103); and the payload of every POLL fits a frame, whatever zone, answer and notice
parts it carries (R129 to R132). -/
def Obligations.SentFramesAreSound : Prop :=
  (∀ (dest cls : Byte) (p : List Byte), p.length ≤ 32 →
      sound (frameTo dest cls p) = true ∧ frameDest (frameTo dest cls p) = dest
        ∧ frameSource (frameTo dest cls p) = coordinatorAddress ∧ frameClass (frameTo dest cls p) = cls
        ∧ framePayload (frameTo dest cls p) = p)
  ∧ (∀ bs : List Byte, (wire bs).map dataBits = bs
      ∧ ∀ c ∈ wire bs, c.getLsbD 0 = false ∧ c.getLsbD 9 = true ∧ ∀ k < 8, c.getLsbD (k + 1) = (dataBits c).getLsbD k)
  ∧ (∀ (s : State) (i : Option RouteId), (s.pollPayload i).length ≤ 32
      ∧ ((s.optionalPart i = .answer ∨ s.optionalPart i = .notice) → 12 ≤ (s.pollPayload i).length))

/-- A valid record of any table, sent by READ TABLE and written back by WRITE TABLE, is the record it was (R186, section
12.3); a valid Route record that is not in the form it is stored in is read in that form (R119). -/
def Obligations.TableRecordsReadBack : Prop :=
  (∀ c : RouteCfg, c.valid = true → routeRecord c.bytes = some c.stored)
    ∧ (∀ c : ZoneCfg, c.valid = true → zoneRecord c.bytes = some c)
    ∧ (∀ c : DamperCfg, c.valid = true → damperRecord c.bytes = some c)
    ∧ ∀ c : Profile, c.valid = true → profileRecord c.bytes = some c

/-! ### The room line -/

/-- The next node of the round (R110): the used, polled entry with the lowest index above the round position, the service
address when there is none, and after it the lowest used, polled entry. -/
def Obligations.RoundVisitsInOrder : Prop :=
  ∀ s : State,
    (∀ k : RouteId, s.room.pos = .entry k →
      (∀ i, s.nextPolled = some i ↔
        k < i ∧ (s.routeCfg i).inRound = true ∧ ∀ j, k < j → j < i → (s.routeCfg j).inRound = false)
      ∧ (s.nextPolled = none ↔ ∀ j, k < j → (s.routeCfg j).inRound = false))
    ∧ (s.room.pos = .service →
      (∀ i, s.nextPolled = some i ↔ (s.routeCfg i).inRound = true ∧ ∀ j, j < i → (s.routeCfg j).inRound = false)
      ∧ (s.nextPolled = none ↔ ∀ j, (s.routeCfg j).inRound = false))

/-- POLL goes out when the exchange before it has ended (R107, R110, R111, R131, R132, R193), to a line that has been silent
for 4 ms or has not fallen silent within 50 ms: the frame, the wait of 30 ms from its end, the round position, and what its
optional part carries away. On a line that is not silent it waits until then. -/
def Obligations.PollGoesOut : Prop :=
  ∀ (s : State) (dt quiet : Nat), s.phase = .running → s.room.wait = none → s.room.restartDue = none →
    s.room.sendAfter ≤ s.now + dt →
    let u := s.elapse dt
    let i := u.nextPolled
    let a := (i.map fun k => (s.routeCfg k).address).getD serviceAddress
    let o := u.optionalPart i
    let stop := u.now + frameTime (u.pollPayload i).length
    let lets := ms 4 ≤ quiet ∨ s.room.dueSince + ms 50 ≤ s.now + dt
    (¬lets → exec (.poll ⟨dt, quiet⟩) s = .next u)
    ∧ (lets → ∃ t, exec (.poll ⟨dt, quiet⟩) s = .next t
      ∧ t = { u with room := t.room, routes := t.routes, serviceHeld := t.serviceHeld, relay := t.relay,
                     events := t.events }
      ∧ t.room =
        { s.room with
          pos := match i with | some k => .entry k | none => .service
          wait := some ⟨a, decide (o = .notice), stop + ms 30⟩
          sendAfter := stop + ms 4
          sent := wire (frameTo a 0x11 (u.pollPayload i))
          frames := ⟨u.now, (u.pollPayload i).length + 6⟩ :: s.room.frames }
      ∧ (∀ k : RouteId, t.routeRun k =
          if i = some k then
            { s.routeRun k with held := if o = .answer then none else (s.routeRun k).held, lastPart := o }
          else s.routeRun k)
      ∧ t.serviceHeld = (if i = none ∧ o = .answer then none else s.serviceHeld)
      ∧ t.relay = { s.relay with
          entries := if o = .answer then
              s.relay.entries.filter fun e =>
                !(decide (e.requester = a) && (decide (e.state = .answered) || decide (e.state = .expired)))
            else s.relay.entries }
      ∧ t.events = (if o = .notice then { s.events with offer := some (s.events.raised &&& s.profile.enable) }
          else s.events))

/-- What a POLL carries (R129 to R132, section 12.1). The optional part: the one that is due, and of two due the notice part
exactly when the last POLL to the entry carried an answer part. The payload: the marks, the house part, the zone part of
a PANEL, SENSOR or DISPLAY entry, and the optional part, each field as its owner holds it. -/
def Obligations.PollCarriesWhatIsDue : Prop :=
  ∀ (s : State) (i : Option RouteId), QueriesHold s →
    let a := (i.map fun k => (s.routeCfg k).address).getD serviceAddress
    let held := match i with | some k => (s.routeRun k).held | none => s.serviceHeld
    let ended := fun e : QueryEntry => e.requester = a ∧ (e.state = .answered ∨ e.state = .expired)
    let answerDue := held.isSome = true ∨ ∃ e ∈ s.relay.entries, ended e
    let noticeDue := ∃ k, i = some k ∧ (s.routeCfg k).notice = true ∧ s.noticePending = true
    let lastAnswer := ∃ k, i = some k ∧ (s.routeRun k).lastPart = .answer
    let o := s.optionalPart i
    let zone := i.bind fun k => if (s.routeCfg k).role = .tool then none else (s.routeCfg k).zone
    let p := s.pollPayload i
    let tail := p.drop (if zone.isSome then 23 else 10)
    (answerDue → ¬(noticeDue ∧ lastAnswer) → o = .answer) ∧ (answerDue → noticeDue → lastAnswer → o = .notice)
      ∧ (¬answerDue → noticeDue → o = .notice) ∧ (¬answerDue → ¬noticeDue → o = .none)
      ∧ ((byteAt p 0).getLsbD 0 = true ↔ ∃ k z, i = some k ∧ (s.routeCfg k).role = .panel
          ∧ (s.routeCfg k).zone = some z ∧ (s.zone z).confirmed = false)
      ∧ (byteAt p 0).getLsbD 1 = zone.isSome ∧ (byteAt p 0).getLsbD 2 = decide (o = .answer)
      ∧ (byteAt p 0).getLsbD 3 = decide (o = .notice) ∧ (byteAt p 0).extractLsb' 4 4 = 0
      ∧ (p.drop 1).take 9 =
        [s.house.code, targetByte s.arbiter.pendingTarget, s.decoder.level.code, u8 s.command.capacity, byteAt p 5]
          ++ optI16 (s.link .outdoorUnit).firstTemp ++ optI16 (s.link .airHandler).firstTemp
      ∧ (byteAt p 5).getLsbD 0 = decide (s.command.outMode ≠ .off)
      ∧ (byteAt p 5).getLsbD 1 = decide (s.command.airMode ≠ .off)
      ∧ (byteAt p 5).getLsbD 2 = s.command.reheat ∧ (byteAt p 5).getLsbD 3 = s.command.coldBlow
      ∧ (byteAt p 5).getLsbD 4 = (!s.available .airHandler || !s.available .outdoorUnit)
      ∧ (byteAt p 5).getLsbD 5 = s.plantFaultHolds ∧ (byteAt p 5).getLsbD 6 = s.supply.latch
      ∧ (byteAt p 5).getLsbD 7 = false
      ∧ (∀ z, zone = some z → (p.drop 10).take 13 =
          [u8 z.val, (s.zone z).status.code, u8 ((s.zone z).call.code + if (s.zone z).damperFault then 4 else 0),
            u8 (s.zone z).demand]
            ++ i16 (s.zone z).sh ++ i16 (s.zone z).sc ++ [BitVec.ofInt 8 (s.zone z).hd] ++ optI16 (s.zone z).t
            ++ [optI8 (s.zone z).h, optU8 (s.reportedOpening z)])
      ∧ (o = .none → tail = []) ∧ (o = .notice → tail = bytes16 (s.events.raised &&& s.profile.enable))
      ∧ (o = .answer → tail.length = 9 ∧ (byteAt tail 0).getLsbD 0 = held.isSome
          ∧ ((byteAt tail 0).getLsbD 1 = true ↔ ∃ e ∈ s.relay.entries, ended e)
          ∧ (byteAt tail 0).extractLsb' 2 6 = 0
          ∧ (∀ h, held = some h → (tail.drop 1).take 2 = [u8 (16 * h.kind.code + h.result.code), optU8 h.tag])
          ∧ (held = none → (tail.drop 1).take 2 = [0, 0])
          ∧ (∀ e ∈ s.relay.entries, ended e → tail.drop 3 =
              [u8 (e.tag + if e.state = .answered then 16 else 32), (e.status.map AnswerStatus.byte).getD 0]
                ++ bytes32 (e.value.getD 0))
          ∧ ((∀ e ∈ s.relay.entries, ¬ended e) → tail.drop 3 = [0, 0, 0, 0, 0, 0]))

/-- NOTHING, DECIDING BURST MISS on the room line and ROOM REPLY TIMEOUT (R106, R111 to R113, R118, R122, R127). A valid
reply of NOTHING ends the wait, credits the entry, decides the notice and does nothing else; a deciding burst that is no
valid reply raises the counts of the table of R112, a timeout the misses count alone, and either is one miss for the node
polled and ends the outstanding offer. At the timeout a burst that began within it and is still under way keeps the wait
open. -/
def Obligations.PollsHaveOneOutcome : Prop :=
  (∀ (s : State) (dt : Nat) (b : Burst) (w : RoomWait) (p : List Byte), Hears s dt b w 0x20 p →
      exec (.nothing dt b) s = .next (afterReply s dt w p))
  ∧ (∀ (s : State) (dt : Nat) (b : Burst) (w : RoomWait), HearsMiss s dt b w →
      exec (.decidingBurstMiss dt .room b) s = .next (afterMiss s dt w (missCounts s.room.counters b.bytes w.address)))
  ∧ (∀ (s : State) (dt : Nat) (under : Option Nat) (w : RoomWait), s.phase = .running → s.room.wait = some w →
      ((∀ age, under = some age → ¬BeganWithin s dt age w.closes (ms 30)) → w.closes ≤ s.now + dt →
        exec (.roomReplyTimeout ⟨dt, under⟩) s =
          .next (afterMiss s dt w { s.room.counters with misses := satInc 65535 s.room.counters.misses }))
      ∧ (∀ age, under = some age → BeganWithin s dt age w.closes (ms 30) →
        exec (.roomReplyTimeout ⟨dt, under⟩) s = .next (s.elapse dt)))

/-- ROOM REPORT without a setpoints part (R5, R6, R8 to R11, R124). From a SENSOR or a PANEL entry: each valid reading is
recorded with its arrival time and one that is not valid is not taken, a valid one restarts the zone's loss timer and
recovers a lost zone, and the zone's temperature and humidity are combined anew; a PANEL's report also carries the zone
switch and the fan request. No setpoint and no held result changes for it. From any other sender it reaches no zone. -/
def Obligations.ReportedReadingsAreTaken : Prop :=
  ∀ (s : State) (dt : Nat) (b : Burst) (w : RoomWait) (p : List Byte), Hears s dt b w 0x21 p →
    (roomReportOf p).setpoints = none →
    (∀ (i : RouteId) (z : ZoneId), s.entryOf w.address = some i → (s.routeCfg i).zone = some z →
      (s.routeCfg i).role = .sensor ∨ (s.routeCfg i).role = .panel →
      ∃ t, exec (.roomReport dt b) s = .next t ∧ TakesReport s t dt i z (roomReportOf p)
        ∧ t = { afterReply s dt w p with routes := t.routes, zones := t.zones }
        ∧ (t.zone z).sh = (s.zone z).sh ∧ (t.zone z).sc = (s.zone z).sc ∧ (t.zone z).hd = (s.zone z).hd
        ∧ (t.zone z).confirmed = (s.zone z).confirmed ∧ (t.routeRun i).held = (s.routeRun i).held)
    ∧ ((∀ i, s.entryOf w.address = some i → (s.routeCfg i).role = .tool ∨ (s.routeCfg i).role = .display) →
      exec (.roomReport dt b) s = .next (afterReply s dt w p))

/-- ROOM REPORT with a setpoints part (R13, R16, R124, R128). From a PANEL the readings and the switch are taken as without it,
and the change is applied to its zone and confirms the setpoints, or is refused with RANGE for an undefined marking. From
any other sender the part is refused with RIGHTS and no setpoint and no confirmed mark changes. -/
def Obligations.PanelConfirmsSetpoints : Prop :=
  ∀ (s : State) (dt : Nat) (b : Burst) (w : RoomWait) (p : List Byte) (x : Setpoints), Hears s dt b w 0x21 p →
    (roomReportOf p).setpoints = some x →
    (∀ (i : RouteId) (z : ZoneId), s.entryOf w.address = some i → (s.routeCfg i).role = .panel →
      (s.routeCfg i).zone = some z →
      ∃ t, exec (.roomReport dt b) s = .next t ∧ TakesReport s t dt i z (roomReportOf p)
        ∧ t = { afterReply s dt w p with routes := t.routes, zones := t.zones }
        ∧ (t.zone z).sh = (if x.wellMarked then ((s.zone z).change x).sh else (s.zone z).sh)
        ∧ (t.zone z).sc = (if x.wellMarked then ((s.zone z).change x).sc else (s.zone z).sc)
        ∧ (t.zone z).hd = (if x.wellMarked then ((s.zone z).change x).hd else (s.zone z).hd)
        ∧ (t.zone z).confirmed = (if x.wellMarked then true else (s.zone z).confirmed)
        ∧ (t.routeRun i).held = some ⟨.setpoint, if x.wellMarked then .ok else .range, none⟩)
    ∧ (∀ (i : RouteId) (z : ZoneId), s.entryOf w.address = some i → (s.routeCfg i).role = .sensor →
      (s.routeCfg i).zone = some z →
      ∃ t, exec (.roomReport dt b) s = .next t ∧ TakesReport s t dt i z (roomReportOf p)
        ∧ t = { afterReply s dt w p with routes := t.routes, zones := t.zones }
        ∧ (t.zone z).sh = (s.zone z).sh ∧ (t.zone z).sc = (s.zone z).sc ∧ (t.zone z).hd = (s.zone z).hd
        ∧ (t.zone z).confirmed = (s.zone z).confirmed ∧ (t.routeRun i).held = some ⟨.setpoint, .rights, none⟩)
    ∧ (∀ i : RouteId, s.entryOf w.address = some i → (s.routeCfg i).role = .tool ∨ (s.routeCfg i).role = .display →
      exec (.roomReport dt b) s = .next
        { afterReply s dt w p with
          routes := put s.routes i
            { s.routeRun i with misses := 0, line := .answering, held := some ⟨.setpoint, .rights, none⟩ } })
    ∧ (s.entryOf w.address = none → w.address = serviceAddress →
      exec (.roomReport dt b) s = .next
        { afterReply s dt w p with serviceHeld := some ⟨.setpoint, .rights, none⟩ })

/-- A setpoint change of one zone (R14, R16): a heat value takes its range and lifts the cool setpoint to 1 °C above it, a
cool value alone takes its range and lowers the heat setpoint to 1 °C below it, a dry value takes its range, and a value
not given leaves its setpoint as it is. -/
def Obligations.SetpointsAreClamped : Prop :=
  ∀ (r : ZoneRun) (x : Setpoints), 50 ≤ r.sh → r.sh ≤ 300 → 150 ≤ r.sc → r.sc ≤ 350 → 10 ≤ r.sc - r.sh →
    35 ≤ r.hd → r.hd ≤ 70 →
    let n := r.change x
    let sc := ((x.cool.form r.sc).map (clampInt 150 350)).getD r.sc
    (∀ v, x.heat.form r.sh = some v → n.sh = clampInt 50 300 v ∧ n.sc = max sc (n.sh + 10))
      ∧ (x.heat.form r.sh = none → n.sc = sc ∧ n.sh = min r.sh (n.sc - 10))
      ∧ n.hd = ((x.dry.form r.hd).map (clampInt 35 70)).getD r.hd
      ∧ (50 ≤ n.sh ∧ n.sh ≤ 300) ∧ (150 ≤ n.sc ∧ n.sc ≤ 350) ∧ 10 ≤ n.sc - n.sh ∧ (35 ≤ n.hd ∧ n.hd ≤ 70)
      ∧ n = { r with sh := n.sh, sc := n.sc, hd := n.hd }

/-- SETPOINT CHANGE of a known scope (R15, R16, R125, R128): the sender's rights decide first, then the group and the
markings; an accepted change reaches every zone of its scope and no other, a refused one reaches none, and the result is
held for the sender. -/
def Obligations.SetpointChangeReachesItsScope : Prop :=
  ∀ (s : State) (dt : Nat) (b : Burst) (w : RoomWait) (p : List Byte), Hears s dt b w 0x22 p →
    scopeOf (byteAt p 1) ≠ .unknown →
    let x := s.senderAt w.address
    let sc := scopeOf (byteAt p 1)
    let g := (byteAt p 2).toNat
    let v := setpointsAt p 3
    let may := (s.roleOf x = some .panel ∧ (sc = .zone ∨ s.hasHouse x = true))
      ∨ (s.roleOf x = some .tool ∧ sc ≠ .zone ∧ s.hasHouse x = true)
    let r : Result → Prop := fun o =>
      (¬may → o = .rights) ∧ (may → (sc = .group ∧ 3 < g) ∨ v.wellMarked = false → o = .range)
        ∧ (may → ¬(sc = .group ∧ 3 < g) → v.wellMarked = true → o = .ok)
    let reached : ZoneId → Prop := fun z =>
      (sc = .zone ∧ s.zoneOf x = some z)
        ∨ (sc = .group ∧ (s.zoneCfg z).enabled = true ∧ (s.zoneCfg z).groups.getLsbD g = true)
        ∨ (sc = .house ∧ (s.zoneCfg z).enabled = true)
    ∃ t o, exec (.setpointChange dt b) s = .next t ∧ r o
      ∧ t = { afterReply s dt w p with zones := t.zones, routes := t.routes, serviceHeld := t.serviceHeld }
      ∧ (∀ z, o = .ok → reached z → t.zone z = (s.zone z).change v)
      ∧ (∀ z, ¬(o = .ok ∧ reached z) → t.zone z = s.zone z)
      ∧ (∀ i, s.entryOf w.address = some i →
          t.serviceHeld = s.serviceHeld
            ∧ t.routes = put s.routes i
              { s.routeRun i with misses := 0, line := .answering, held := some ⟨.setpoint, o, none⟩ })
      ∧ (s.entryOf w.address = none → t.routes = s.routes
          ∧ t.serviceHeld = if w.address = serviceAddress then some ⟨.setpoint, o, none⟩ else s.serviceHeld)

/-- PLANT QUERY (R126, R128, R158, R159). From a PANEL, a TOOL entry or the service address: it is refused UNREACHABLE when its
target is no node or a node whose link is neither READY nor ACTIVE, refused BUSY when the sender has an entry or the list is
full, and entered at the tail with the lowest free tag otherwise. From a SENSOR or a DISPLAY it is refused RIGHTS and does not
reach the relay. The result is held for the sender. -/
def Obligations.PlantQueryIsDecided : Prop :=
  ∀ (s : State) (dt : Nat) (b : Burst) (w : RoomWait) (p : List Byte), Hears s dt b w 0x23 p →
    let x := s.entryOf w.address
    let may := (∃ i, x = some i ∧ ((s.routeCfg i).role = .panel ∨ (s.routeCfg i).role = .tool))
      ∨ (x = none ∧ w.address = serviceAddress)
    let mayNot := ∃ i, x = some i ∧ ((s.routeCfg i).role = .sensor ∨ (s.routeCfg i).role = .display)
    let held : State → Option HeldResult := fun t => match x with | some i => (t.routeRun i).held | none => t.serviceHeld
    let bad := nodeOf (byteAt p 1) = none
      ∨ ∃ n, nodeOf (byteAt p 1) = some n ∧ (s.link n).state ≠ .ready ∧ (s.link n).state ≠ .active
    let full := s.relay.entries.length = 4 ∨ ∃ e ∈ s.relay.entries, e.requester = w.address
    ∃ t, exec (.plantQuery dt b) s = .next t
      ∧ t = { afterReply s dt w p with routes := t.routes, serviceHeld := t.serviceHeld, relay := t.relay }
      ∧ (∀ j, x ≠ some j → t.routeRun j = s.routeRun j) ∧ (x ≠ none → t.serviceHeld = s.serviceHeld)
      ∧ (∀ i, x = some i →
          t.routeRun i = { s.routeRun i with misses := 0, line := .answering, held := (t.routeRun i).held })
      ∧ (¬may → ¬mayNot → t = afterReply s dt w p)
      ∧ (mayNot → held t = some ⟨.query, .rights, none⟩ ∧ t.relay = s.relay)
      ∧ (may → s.relay.entries.length ≤ 4 →
          (bad → held t = some ⟨.query, .unreachable, none⟩ ∧ t.relay = s.relay)
          ∧ (¬bad → full → held t = some ⟨.query, .busy, none⟩ ∧ t.relay = s.relay)
          ∧ (¬bad → ¬full → ∃ n g, nodeOf (byteAt p 1) = some n ∧ (∀ e ∈ s.relay.entries, e.tag ≠ g)
              ∧ (∀ k, k < g → ∃ e ∈ s.relay.entries, e.tag = k)
              ∧ held t = some ⟨.query, .ok, some g⟩
              ∧ t.relay = { s.relay with
                  entries := s.relay.entries ++
                    [{ requester := w.address, target := n, item := byteAt p 2,
                       argument := word16 (byteAt p 3) (byteAt p 4), tag := g, state := .waiting, status := none,
                       value := none, sentTime := none, answerDue := none }] }))

/-- DECIDING BURST MISS and PLANT REPLY TIMEOUT on the plant line (R111, R117, R118, R160): one miss and the counts of the
table; the slot ends; a miss in the query slot takes the query off the line and leaves the entry WAITING; no link is told.
At the timeout a burst that began within it and is still under way keeps the wait open. -/
def Obligations.PlantMissEndsItsSlot : Prop :=
  ∀ (s : State) (dt : Nat) (w : PlantWait),
    (∀ b : Burst, HearsPlantMiss s dt b w → ∃ x, follows s.plant.slot x ∧
      exec (.decidingBurstMiss dt .plant b) s = .next
        { s.elapse dt with
          plant := plantAfter s.plant (s.now + dt) (missCounts s.plant.counters b.bytes (nodeAddress w.node)) x
          relay := { s.relay with onLine := if w.expects = .accept then none else s.relay.onLine } })
    ∧ (∀ under : Option Nat, s.phase = .running → s.plant.wait = some w →
      ((∀ age, under = some age → ¬BeganWithin s dt age w.closes (ms 50)) → w.closes ≤ s.now + dt →
        ∃ x, follows s.plant.slot x ∧ exec (.plantReplyTimeout ⟨dt, under⟩) s = .next
          { s.elapse dt with
            plant :=
              plantAfter s.plant (s.now + dt)
                { s.plant.counters with misses := satInc 65535 s.plant.counters.misses } x
            relay := { s.relay with onLine := if w.expects = .accept then none else s.relay.onLine } })
      ∧ (∀ age, under = some age → BeganWithin s dt age w.closes (ms 50) →
        exec (.plantReplyTimeout ⟨dt, under⟩) s = .next (s.elapse dt)))

/-- What a line brings (R103, R106, R107). BURST OUTSIDE WAIT: a burst that arrives on a line with no wait open is counted as a
good frame or as a check error and discarded, also one that began before start-up completed (the model's choice, log entry
50). Bytes with a silence of 4 ms or more between them are two bursts, received
one after the other; and so are bytes with a frame of the port between them, whether it takes bytes away (m) or falls into a
pause (DEDUCED, log entry 49). Bytes over a frame of the port, the last one or one before it, are lost. -/
def Obligations.BurstsAreCutAndDiscarded : Prop :=
  (∀ (s : State) (dt : Nat) (b : Burst), s.phase = .running →
    let counted : Counters → Counters := fun c =>
      if sound b.bytes = true then { c with good := satInc 65535 c.good }
      else { c with checkErrors := satInc 65535 c.checkErrors }
    (s.room.wait = none → Arrives b (s.now + dt) s.room.frames → exec (.burstOutsideWait dt .room b) s =
      .next { s.elapse dt with room := { s.room with counters := counted s.room.counters } })
    ∧ (s.plant.wait = none → Arrives b (s.now + dt) s.plant.frames → exec (.burstOutsideWait dt .plant b) s =
      .next { s.elapse dt with plant := { s.plant with counters := counted s.plant.counters } }))
  ∧ (∀ (s : State) (dt : Nat) (l : Line) (p m q : List LineByte) (c d : LineByte) (first : Bool),
      let now := s.now + dt
      let own := lineFrames s l
      (m ≠ [] ∨ d.age + 25 + ms 4 ≤ c.age ∨ ∃ f ∈ own, now - c.age + 25 ≤ f.start ∧ f.stop ≤ now - d.age) →
      (∀ x ∈ m, ∃ f ∈ own, ¬Clear f now x) →
      (∀ x ∈ p ++ [c] ++ d :: q, 25 ≤ x.age ∧ x.age ≤ now ∧ ∀ f ∈ own, Clear f now x) →
      ∃ t, exec (.burstOutsideWait dt l ⟨p ++ [c], first⟩) s = .next t
        ∧ exec (.burstOutsideWait dt l ⟨p ++ [c] ++ m ++ d :: q, first⟩) s
          = exec (.burstOutsideWait 0 l ⟨d :: q, first⟩) t)
  ∧ (∀ (s : State) (dt : Nat) (l : Line) (p q : List LineByte) (first : Bool),
      (∀ x ∈ p, ∃ f ∈ lineFrames s l, ¬Clear f (s.now + dt) x) →
      exec (.burstOutsideWait dt l ⟨p ++ q, first⟩) s = exec (.burstOutsideWait dt l ⟨q, first⟩) s
        ∧ exec (.burstOutsideWait dt l ⟨p, first⟩) s = .next (s.elapse dt))

/-! ### Management -/

/-- IDENTIFY, READ TABLE and READ STATE (R185, R186, R196, section 12.1), which change nothing. IDENTIFY gives part code
0x5A08, the revision, the reset cause, the store state and the house state. READ TABLE gives the records of a span within
the table and its limit, and refuses any other with INDEX. READ STATE gives an item as it stands, and refuses an index
beyond the item's range with INDEX and a code outside the list with RANGE. The item is read once the reply has been credited
and the notice decided (DEDUCED, log entry 31). -/
def Obligations.ReadingRequestsAreAnswered : Prop :=
  (∀ (s : State) (dt : Nat) (b : Burst) (w : RoomWait) (q p : List Byte), Requests s dt b w 0x01 q p →
      exec (.identify dt b) s = .next
        (answeredWith (afterReply s dt w p) w.address 0x01 .ok
          [0x5A, 0x08, Config.revision, s.retained.cause.code, s.storeState.code, s.house.code]))
  ∧ (∀ (s : State) (dt : Nat) (b : Burst) (w : RoomWait) (q p : List Byte) (k : Table),
      Requests s dt b w 0x02 q p → 3 ≤ q.length → tableOf (byteAt q 0) = some k →
      let start := (byteAt q 1).toNat
      let count := (byteAt q 2).toNat
      let fits := 1 ≤ count ∧ start + count ≤ k.size ∧ count ≤ k.limit
      (fits → exec (.readTable dt b) s = .next
          (answeredWith (afterReply s dt w p) w.address 0x02 .ok (q.take 3 ++ s.tables.slice k start count))
        ∧ (s.tables.slice k start count).length = count * k.recordLength
        ∧ (s.tables.slice k start count).length + 3 ≤ 30)
      ∧ (¬fits → exec (.readTable dt b) s = .next (answeredWith (afterReply s dt w p) w.address 0x02 .index [])))
  ∧ (∀ (s : State) (dt : Nat) (b : Burst) (w : RoomWait) (q p : List Byte), Requests s dt b w 0x06 q p → 2 ≤ q.length →
      let t := afterReply s dt w p
      (∀ top, itemTop (byteAt q 0) = some top → (byteAt q 1).toNat ≤ top →
        exec (.readState dt b) s = .next
          (answeredWith t w.address 0x06 .ok (t.itemBytes (byteAt q 0).toNat (byteAt q 1).toNat))
        ∧ (t.itemBytes (byteAt q 0).toNat (byteAt q 1).toNat).length ≤ 30)
      ∧ (∀ top, itemTop (byteAt q 0) = some top → top < (byteAt q 1).toNat →
        exec (.readState dt b) s = .next (answeredWith t w.address 0x06 .index []))
      ∧ (itemTop (byteAt q 0) = none →
        exec (.readState dt b) s = .next (answeredWith t w.address 0x06 .range [])))

/-- WRITE TABLE. The Profile (R30, R85, R186): it takes a valid record; the slot limit takes its new value at once unless more
channels drive, and with an empty motion queue nothing else changes. Valid Zone records, one or two of them (R3, R12, R24,
R186): the configuration of each zone written takes its record, a stored setpoint that the record changes sets its effective
value too and one left as it was does not (where heat and cool would come too near, both do: the model's choice, log entry
14), a zone that it disables stops calling, and every other zone stays as it is. The refusals of every table (R2, R29, R72, R120, R186): RANGE for a table code
outside the list and for parameters too short; then INDEX for a span that does not fit; then RANGE for more or fewer record
bytes than the count needs; then RANGE when any record has a field out of range. A refusal changes nothing. -/
def Obligations.WrittenProfileAndZoneTakeForce : Prop :=
  (∀ (s : State) (dt : Nat) (b : Burst) (w : RoomWait) (q p : List Byte) (c : Profile),
      Requests s dt b w 0x03 q p → q = [0x03, 0, 1] ++ c.bytes → c.valid = true → s.storeState ≠ .saving →
      ∃ t, exec (.writeTable dt b) s = .next (answeredWith t w.address 0x03 .ok [0x03, 0, 1])
        ∧ t = { afterReply s dt w p with
            tables := { s.tables with profile := c }
            slotLimit := if s.drivingCount ≤ c.slots then c.slots else s.slotLimit
            channels := t.channels
            queue := t.queue }
        ∧ (s.queue = [] → t.channels = s.channels ∧ t.queue = []))
  ∧ (∀ (s : State) (dt : Nat) (b : Burst) (w : RoomWait) (q p : List Byte) (start : Nat) (xs : List ZoneCfg),
      Requests s dt b w 0x03 q p → q = [0x01, u8 start, u8 xs.length] ++ xs.flatMap ZoneCfg.bytes →
      1 ≤ xs.length → xs.length ≤ 2 → start + xs.length ≤ 8 → (∀ c ∈ xs, c.valid = true) → s.storeState ≠ .saving →
      ∃ t, exec (.writeTable dt b) s = .next (answeredWith t w.address 0x03 .ok [0x01, u8 start, u8 xs.length])
        ∧ t = { afterReply s dt w p with
            tables := { s.tables with zones := t.tables.zones }
            zones := t.zones
            events := t.events }
        ∧ ∀ z : ZoneId,
            (z.val < start ∨ start + xs.length ≤ z.val → t.zoneCfg z = s.zoneCfg z ∧ t.zone z = s.zone z)
            ∧ ∀ c, start ≤ z.val → xs[z.val - start]? = some c →
              t.zoneCfg z = c
              ∧ t.zone z =
                (let stops := (s.zoneCfg z).enabled = true ∧ c.enabled = false
                 let sh := if c.shSt = (s.zoneCfg z).shSt then (s.zone z).sh else c.shSt
                 let sc := if c.scSt = (s.zoneCfg z).scSt then (s.zone z).sc else c.scSt
                 { s.zone z with
                    sh := if 10 ≤ sc - sh then sh else c.shSt
                    sc := if 10 ≤ sc - sh then sc else c.scSt
                    hd := if c.hdSt = (s.zoneCfg z).hdSt then (s.zone z).hd else c.hdSt
                    call := if stops then .none else (s.zone z).call
                    demand := if stops then 0 else (s.zone z).demand
                    unmet := if stops then 0 else (s.zone z).unmet
                    status := if (s.zoneCfg z).enabled = c.enabled then (s.zone z).status else t.statusOf z }))
  ∧ (∀ (s : State) (dt : Nat) (b : Burst) (w : RoomWait) (q p : List Byte), Requests s dt b w 0x03 q p →
      let refused : Result → Prop := fun r =>
        exec (.writeTable dt b) s = .next (answeredWith (afterReply s dt w p) w.address 0x03 r [])
      let start := (byteAt q 1).toNat
      let count := (byteAt q 2).toNat
      (q.length < 3 ∨ tableOf (byteAt q 0) = none → refused .range)
      ∧ ∀ k : Table, 3 ≤ q.length → tableOf (byteAt q 0) = some k → s.storeState ≠ .saving →
        let fits := 1 ≤ count ∧ start + count ≤ k.size ∧ count ≤ k.limit
        let sized := q.length = 3 + count * k.recordLength
        let record : Nat → List Byte := fun n => (q.drop (3 + n * k.recordLength)).take k.recordLength
        (¬fits → refused .index) ∧ (fits → ¬sized → refused .range)
          ∧ (fits → sized → (∃ n < count, ¬RecordFits k (record n)) → refused .range))

/-- WRITE TABLE of one Damper record (R73, R186): a record with a field outside its range is refused with RANGE, before a
channel that is neither IDLE, UNHOMED nor in FAULT is refused with STATE; a refused write changes nothing. An accepted one
takes effect: with a changed stroke the channel is at count 0, unhomed, its target not taken, and an IDLE one becomes
UNHOMED and comes to home; with the same stroke the channel stays as it is. The dead time that runs since the last
drive-off is that of the drive-off. A lower channel that comes to join at the same moment may do so first (log entry 40). -/
def Obligations.WrittenDamperIsDecided : Prop :=
  ∀ (s : State) (dt : Nat) (b : Burst) (w : RoomWait) (q p rec : List Byte) (c : ChannelId),
    Requests s dt b w 0x03 q p → q = [0x02, u8 c.val, 1] ++ rec → rec.length = 9 → s.storeState ≠ .saving →
    let word : Nat → Nat := fun k => 256 * (byteAt rec k).toNat + (byteAt rec (k + 1)).toNat
    let cfg : DamperCfg := ⟨word 0, (byteAt rec 2).toNat, (byteAt rec 3).toNat, word 4, word 6, (byteAt rec 8).toNat⟩
    let inRange := (200 ≤ cfg.stroke ∧ cfg.stroke ≤ 4000) ∧ (2 ≤ cfg.settle ∧ cfg.settle ≤ 20)
      ∧ (8 ≤ cfg.approach ∧ cfg.approach ≤ 64) ∧ (100 ≤ cfg.deadMs ∧ cfg.deadMs ≤ 2000)
      ∧ (200 ≤ cfg.stallMs ∧ cfg.stallMs ≤ 2000) ∧ (30 ≤ cfg.seekS ∧ cfg.seekS ≤ 240)
    let r := s.channel c
    let atRest := r.state = .idle ∨ r.state = .unhomed ∨ r.state = .fault
    let u := afterReply s dt w p
    (¬inRange → exec (.writeTable dt b) s = .next (answeredWith u w.address 0x03 .range []))
    ∧ (inRange → ¬atRest → exec (.writeTable dt b) s = .next (answeredWith u w.address 0x03 .state []))
    ∧ (inRange → atRest → c ∉ s.queue →
      ∃ t, exec (.writeTable dt b) s = .next (answeredWith t w.address 0x03 .ok [0x02, u8 c.val, 1])
        ∧ t = { u with
            tables := { s.tables with dampers := put s.tables.dampers c cfg }
            channels := t.channels
            queue := t.queue
            slotLimit := t.slotLimit }
        ∧ (∀ c', c' ≠ c → c' ∉ s.queue →
            c < c' ∨ cfg.stroke = (s.damperCfg c).stroke ∨ ¬ComesToJoin s (s.now + dt) c' → t.channel c' = s.channel c')
        ∧ (cfg.stroke = (s.damperCfg c).stroke → t.channel c = r)
        ∧ (cfg.stroke ≠ (s.damperCfg c).stroke →
          (t.channel c).homed = false ∧ (t.channel c).taken = false ∧ (t.channel c).target = r.target
            ∧ (t.channel c).lastOff = r.lastOff ∧ (t.channel c).restMs = r.restMs
            ∧ (r.state = .fault ∨ s.supply.latch = true ∨ s.homingDue.isSome = true
                ∨ s.now + dt < r.lastOff + ms r.restMs →
              t.channel c =
                { r with
                  homed := false, count := 0, taken := false
                  state := if r.state = .fault then .fault else .unhomed })
            ∧ (r.state ≠ .fault → s.supply.latch = false → s.homingDue = none → r.lastOff + ms r.restMs ≤ s.now + dt →
              (t.channel c).goal = some .home ∧ ((t.channel c).state = .queued ∨ (t.channel c).state = .seeking))))

/-- WRITE TABLE of one to five Route records (R7, R10, R13, R120, R133 to R135, R166, R186): a write after which the table
would clash is refused with CONFLICT and changes nothing. Another is written at once. An entry that becomes used or unused or
takes another address starts anew, one that takes another role or zone loses its readings, and the other entries keep their
runtime parts. A zone that loses its last source stops calling and forgets its readings, one that gains its first starts its
loss timer, and one whose set of sources changes has its readings combined anew; a zone with another PANEL is to confirm its
setpoints, and one left without a PANEL is switched ON without a fan request; a zone that the records name neither before nor
after stays as it is. The query of an address that left is freed, with the query on the line if it was its own. -/
def Obligations.RouteWriteIsAllOrNothing : Prop :=
  ∀ (s : State) (dt : Nat) (b : Burst) (w : RoomWait) (q p : List Byte) (start : Nat) (xs : List RouteCfg),
    Requests s dt b w 0x03 q p → q = [0x00, u8 start, u8 xs.length] ++ xs.flatMap RouteCfg.bytes →
    1 ≤ xs.length → xs.length ≤ 5 → start + xs.length ≤ 16 → (∀ c ∈ xs, c.valid = true ∧ c.stored = c) →
    s.storeState ≠ .saving →
    let u := afterReply s dt w p
    let written : RouteId → Prop := fun j => start ≤ j.val ∧ j.val < start + xs.length
    let old : RouteId → RouteCfg := s.routeCfg
    let new : RouteId → RouteCfg := fun j => if start ≤ j.val then (xs[j.val - start]?).getD (old j) else old j
    let left : RouteId → Prop := fun j =>
      (old j).used = true ∧ ((new j).used = false ∨ (old j).address ≠ (new j).address)
    let renewed : RouteId → Prop := fun j => (old j).used ≠ (new j).used ∨ left j
    let moved : RouteId → Prop := fun j => (old j).role ≠ (new j).role ∨ (old j).zone ≠ (new j).zone
    let source : RouteCfg → ZoneId → Prop := fun x z =>
      x.used = true ∧ (x.role = .panel ∨ x.role = .sensor) ∧ x.zone = some z
    let panel : RouteCfg → ZoneId → Prop := fun x z => x.used = true ∧ x.role = .panel ∧ x.zone = some z
    (uniqueRoutes (tab new) = false →
      exec (.writeTable dt b) s = .next (answeredWith u w.address 0x03 .conflict []))
    ∧ (uniqueRoutes (tab new) = true →
      ∃ t, exec (.writeTable dt b) s = .next (answeredWith t w.address 0x03 .ok [0x00, u8 start, u8 xs.length])
        ∧ t = { u with
            tables := { s.tables with routes := tab new }
            routes := t.routes
            zones := t.zones
            relay := t.relay }
        ∧ (∀ j, (renewed j → t.routeRun j = resetRouteRun)
            ∧ (¬renewed j → moved j → t.routeRun j = { u.routeRun j with temp := none, hum := none })
            ∧ (¬renewed j → ¬moved j → t.routeRun j = u.routeRun j))
        ∧ (∀ z : ZoneId,
            let r := s.zone z
            let n := t.zone z
            let had := ∃ j, source (old j) z
            let has := ∃ j, source (new j) z
            let changed := ∃ j, (source (old j) z ∧ ¬source (new j) z)
              ∨ (source (new j) z ∧ (¬source (old j) z ∨ renewed j ∨ moved j))
            let another := ∃ j, panel (new j) z ∧ (¬panel (old j) z ∨ (old j).address ≠ (new j).address)
            let gone := (∃ j, panel (old j) z) ∧ ∀ j, ¬panel (new j) z
            ((∀ j, written j → ¬source (old j) z ∧ ¬source (new j) z) → n = r)
            ∧ (n.sh = r.sh ∧ n.sc = r.sc ∧ n.hd = r.hd ∧ n.damperFault = r.damperFault)
            ∧ (had → ¬has →
                n.t = none ∧ n.h = none ∧ n.lastFresh = none ∧ n.loss = .stopped ∧ n.call = .none ∧ n.demand = 0
                  ∧ n.unmet = 0 ∧ n.status = t.statusOf z)
            ∧ (¬had → has →
                n.loss = .running (s.now + dt + sec 60) ∧ n.lastFresh = r.lastFresh ∧ n.call = r.call
                  ∧ n.demand = r.demand ∧ n.unmet = r.unmet ∧ n.status = t.statusOf z)
            ∧ ((had ↔ has) →
                n.loss = r.loss ∧ n.lastFresh = r.lastFresh ∧ n.call = r.call ∧ n.demand = r.demand
                  ∧ n.unmet = r.unmet ∧ (n.status = r.status ∨ n.status = t.statusOf z))
            ∧ (has → changed →
                n.t = combine (t.freshReadings (·.temp) z) ∧ n.h = combine (t.freshReadings (·.hum) z))
            ∧ (¬changed → n.t = r.t ∧ n.h = r.h)
            ∧ (uniqueRoutes s.tables.routes = true → n.confirmed = if another then false else r.confirmed)
            ∧ n.switchOn = (if gone then true else r.switchOn) ∧ n.fan = (if gone then false else r.fan))
        ∧ t.relay = { s.relay with
            entries := s.relay.entries.filter fun e => !decide (∃ j, left j ∧ e.requester = (old j).address)
            onLine := if ∃ e ∈ s.relay.entries, (∃ j, left j ∧ e.requester = (old j).address)
                ∧ s.relay.onLine = some e.tag then none else s.relay.onLine })

/-- SAVE with no save in progress is refused with STATE while the supply is in SAG and otherwise begins, with the four tables
as they stand (R175, R187). While a SAVE is in progress, WRITE TABLE, SAVE and RESTART are refused with BUSY and change
nothing (R186 to R189). SAVE END (R48, R49, R188): a read-back that agrees leaves the store with the tables that the SAVE
took, VALID, SAVE DONE raised, and commissions an UNCOMMISSIONED house; one that disagrees leaves INVALID with an image
that is not good and STORE FAIL raised, and touches nothing else. -/
def Obligations.SaveBeginsOnceAndEnds : Prop :=
  (∀ (s : State) (dt : Nat) (b : Burst) (w : RoomWait) (q p : List Byte), Requests s dt b w 0x04 q p →
      s.storeState ≠ .saving →
      (s.supply.supply = .normal → exec (.save dt b) s = .next
        (answeredWith { afterReply s dt w p with storeState := .saving, saving := some s.tables } w.address 0x04 .ok []))
      ∧ (s.supply.supply = .sag → exec (.save dt b) s = .next
        (answeredWith (afterReply s dt w p) w.address 0x04 .state [])))
  ∧ (∀ (s : State) (dt : Nat) (b : Burst) (w : RoomWait) (q p : List Byte), s.storeState = .saving →
      (Requests s dt b w 0x03 q p → 3 ≤ q.length → (tableOf (byteAt q 0)).isSome = true →
        exec (.writeTable dt b) s = .next (answeredWith (afterReply s dt w p) w.address 0x03 .busy []))
      ∧ (Requests s dt b w 0x04 q p →
        exec (.save dt b) s = .next (answeredWith (afterReply s dt w p) w.address 0x04 .busy []))
      ∧ (Requests s dt b w 0x05 q p →
        exec (.restart dt b) s = .next (answeredWith (afterReply s dt w p) w.address 0x05 .busy [])))
  ∧ (∀ (s : State) (dt : Nat) (x : Tables), s.phase = .running → s.storeState = .saving → s.saving = some x →
      (∃ t, exec (.saveEnd dt true) s = .next t
        ∧ t.store = ⟨true, true, x⟩ ∧ t.storeState = .valid ∧ t.saving = none
        ∧ marked t.events.raised .saveDone = true
        ∧ (s.house ≠ .uncommissioned → t = { s.elapse dt with
            store := t.store, storeState := .valid, saving := none,
            events := afterRaise s.events .saveDone })
        ∧ (s.house = .uncommissioned →
            t.house = if s.supply.latch then .halt else if s.shedCondition then .shed else .idle)
        ∧ t = { s.elapse dt with
            store := t.store, storeState := .valid, saving := none, arbiter := t.arbiter,
            command := t.command, links := t.links, relay := t.relay, events := t.events })
      ∧ exec (.saveEnd dt false) s = .next
        { s.elapse dt with
          store := { s.store with checkGood := false }, storeState := .invalid, saving := none,
          events := afterRaise s.events .storeFail })

/-- RESTART is answered OK first, and the line reset follows the answer's last byte (R114, R177, R189): LINE RESET puts every
block at its reset values and keeps the store, the retained area with the cause LINE, and the inputs as they stand (DEDUCED,
log entry 11). Until the load that follows, the default tables, the slot limit 2 (log entry 44) and the store state DEFAULTS
(log entry 10) are the model's choice, and so is the reset at this moment while the plant port is in a frame (log entry 45). -/
def Obligations.RestartBringsALineReset : Prop :=
  (∀ (s : State) (dt : Nat) (b : Burst) (w : RoomWait) (q p : List Byte), Requests s dt b w 0x05 q p →
    s.storeState ≠ .saving →
    let t := answeredWith (afterReply s dt w p) w.address 0x05 .ok []
    exec (.restart dt b) s = .next
      { t with room := { t.room with restartDue := some (answerEnd (afterReply s dt w p) 0) } })
  ∧ ∀ (s : State) (dt : Nat) (d : Time), s.phase = .running → s.room.restartDue = some d → d ≤ s.now + dt →
    s.storeState ≠ .saving →
    exec (.lineReset dt) s = .next
      (State.blank (s.now + dt) s.pending s.supply.supply s.supply.input s.decoder.pin
        ⟨s.decoder.level, s.decoder.holdLeft (s.now + dt), .line⟩ s.store)

/-- CLEAR EVENTS (R192). A set that names a code which is not an event is refused with RANGE and changes no mark. With any
other, the empty one included: each event named is raised and undelivered after it exactly when it is a condition event whose
condition holds, so a mark that is not set stays so without one; every other event keeps its marks; the conditions stay; and
the answer OK carries the raised marks. -/
def Obligations.ClearEventsClears : Prop :=
  ∀ (s : State) (dt : Nat) (b : Burst) (w : RoomWait) (p codes : List Byte),
    Requests s dt b w 0x07 (u8 codes.length :: codes) p → codes.length ≤ 16 →
    let u := afterReply s dt w p
    ((∃ c ∈ codes, 15 < c.toNat) →
      exec (.clearEvents dt b) s = .next (answeredWith u w.address 0x07 .range []))
    ∧ ((∀ c ∈ codes, c.toNat ≤ 15) →
      ∃ t, exec (.clearEvents dt b) s = .next (answeredWith t w.address 0x07 .ok (bytes16 t.events.raised))
        ∧ t = { u with events := t.events }
        ∧ (∀ e : Event, u8 e.code ∈ codes →
            marked t.events.raised e = s.conditionHolds e ∧ marked t.events.undelivered e = s.conditionHolds e)
        ∧ (∀ e : Event, u8 e.code ∉ codes →
            marked t.events.raised e = marked u.events.raised e
              ∧ marked t.events.undelivered e = marked u.events.undelivered e)
        ∧ ∀ e : Event, t.conditionHolds e = s.conditionHolds e)

/-- CLEAR SHUTDOWN (R48, R100, R102, R183): refused with STATE while the input is asserted; OK with nothing changed when the
latch is clear; otherwise the latch clears and the house leaves HALT, for SHED when the shed condition holds and else for
IDLE, with both nodes OFF; each UNHOMED channel whose dead time has run joins for HOME, each IDLE one with a target that
it has not taken adopts it, and a channel in FAULT, IDLE with its target taken, or SETTLING for some time yet stays as it
is. -/
def Obligations.ClearShutdownIsDecided : Prop :=
  ∀ (s : State) (dt : Nat) (b : Burst) (w : RoomWait) (q p : List Byte), Requests s dt b w 0x08 q p →
    let u := afterReply s dt w p
    (s.supply.input = .asserted →
      exec (.clearShutdown dt b) s = .next (answeredWith u w.address 0x08 .state []))
    ∧ (s.supply.input = .released → s.supply.latch = false →
      exec (.clearShutdown dt b) s = .next (answeredWith u w.address 0x08 .ok []))
    ∧ (s.supply.input = .released → s.supply.latch = true → HouseHolds s →
      ∃ t, exec (.clearShutdown dt b) s = .next (answeredWith t w.address 0x08 .ok [])
        ∧ t = { u with
            supply := { s.supply with latch := false }
            arbiter :=
              if s.house = .halt then
                { s.arbiter with house := if s.shedCondition = true then .shed else .idle, hold := false }
              else s.arbiter
            channels := t.channels
            queue := t.queue
            slotLimit := t.slotLimit }
        ∧ ∀ c : ChannelId, c ∉ s.queue →
            let r := s.channel c
            let runs := r.lastOff + ms r.restMs ≤ s.now + dt
            (r.state = .fault ∨ (r.state = .idle ∧ (r.target = none ∨ r.taken = true))
                ∨ (r.state = .settling ∧ ∀ d, r.deadDue = some d → s.now + dt < d) → t.channel c = r)
            ∧ (r.state = .unhomed ∨ (r.state = .settling ∧ r.homed = false ∧ ∃ d, r.deadDue = some d ∧ d ≤ s.now + dt) →
                (s.homingDue = none → runs → JoinedFor (t.channel c) .home)
                ∧ (s.homingDue ≠ none ∨ ¬runs →
                    (t.channel c).state = .unhomed ∧ (t.channel c).target = r.target ∧ (t.channel c).lastOff = r.lastOff))
            ∧ ∀ p, r.state = .idle → r.homed = true → r.target = some p → r.taken = false →
                AdoptsTarget false (s.now + dt) (s.damperCfg c) p r (t.channel c))

/-- RELEASE DAMPER (R25, R82, R98): a channel in FAULT leaves it, unhomed and with retry armed no, and its zone's damper fault
mark becomes no; with the latch clear, the homing join of start-up over and its dead time run it joins for HOME at once, and
otherwise it waits UNHOMED; a channel in another state is refused with STATE, a number outside 0 to 7 with RANGE. A lower
channel that comes to join at the same moment may do so first (log entry 40). -/
def Obligations.ReleaseDamperIsDecided : Prop :=
  ∀ (s : State) (dt : Nat) (b : Burst) (w : RoomWait) (q p : List Byte), Requests s dt b w 0x09 q p → 1 ≤ q.length →
    let u := afterReply s dt w p
    (∀ c : ChannelId, (byteAt q 0).toNat = c.val → (s.channel c).state = .fault → c ∉ s.queue →
      ∃ t, exec (.releaseDamper dt b) s = .next (answeredWith t w.address 0x09 .ok [])
        ∧ t = { u with
            zones := put s.zones c { s.zone c with damperFault := false }
            channels := t.channels
            queue := t.queue
            slotLimit := t.slotLimit }
        ∧ (t.channel c).homed = false ∧ (t.channel c).retry = false ∧ (t.channel c).taken = false
        ∧ ((t.channel c).state = .unhomed ∨ ((t.channel c).goal = some .home
            ∧ ((t.channel c).state = .queued ∨ (t.channel c).state = .seeking)))
        ∧ (let r := s.channel c
           let runs := r.lastOff + ms r.restMs ≤ s.now + dt
           (s.supply.latch = false → s.homingDue = none → runs → JoinedFor (t.channel c) .home)
           ∧ (s.supply.latch = true ∨ s.homingDue ≠ none ∨ ¬runs →
              t.channel c = { r with state := .unhomed, homed := false, retry := false, taken := false }))
        ∧ ∀ c', c' ≠ c → c' ∉ s.queue → c < c' ∨ ¬ComesToJoin s (s.now + dt) c' → t.channel c' = s.channel c')
    ∧ (∀ c : ChannelId, (byteAt q 0).toNat = c.val → (s.channel c).state ≠ .fault →
      exec (.releaseDamper dt b) s = .next (answeredWith u w.address 0x09 .state []))
    ∧ (7 < (byteAt q 0).toNat →
      exec (.releaseDamper dt b) s = .next (answeredWith u w.address 0x09 .range []))

/-- CLEAR COUNTERS (R190): every counter of the part becomes 0 and nothing else changes. -/
def Obligations.ClearCountersClears : Prop :=
  ∀ (s : State) (dt : Nat) (b : Burst) (w : RoomWait) (q p : List Byte), Requests s dt b w 0x0A q p →
    let u := afterReply s dt w p
    exec (.clearCounters dt b) s = .next
      (answeredWith
        { u with
          room := { u.room with counters := ⟨0, 0, 0, 0⟩ }
          plant := { s.plant with counters := ⟨0, 0, 0, 0⟩ }
          links := ⟨{ s.links.air with breaks := 0 }, { s.links.outdoor with breaks := 0 }⟩
          relay := { s.relay with late := 0 }
          decoder := { s.decoder with invalidTrains := 0 } }
        w.address 0x0A .ok [])

/-- A request from a sender that may not manage the part is refused with RIGHTS, and one with a code outside the list with
UNKNOWN; neither changes anything (R123, R184). -/
def Obligations.RequestsAreChecked : Prop :=
  ∀ (s : State) (dt : Nat) (b : Burst) (w : RoomWait) (p : List Byte), Hears s dt b w 0x24 p →
    (¬FromTool s w →
      ∀ i ∈ [Instr.identify dt b, .readTable dt b, .writeTable dt b, .save dt b, .restart dt b, .readState dt b,
        .clearEvents dt b, .clearShutdown dt b, .releaseDamper dt b, .clearCounters dt b, .unknownRequestCode dt b],
        exec i s = .next (answeredWith (afterReply s dt w p) w.address (byteAt p 1) .rights []))
    ∧ (FromTool s w → (byteAt p 1 = 0 ∨ 10 < (byteAt p 1).toNat) →
      exec (.unknownRequestCode dt b) s = .next
        (answeredWith (afterReply s dt w p) w.address (byteAt p 1) .unknown []))

/-! ### The plant line -/

/-- PLANT ROUND (R115, R116, R160): the round timer starts again with 500 ms and the round begins with the first slot that
sends: a node's slot when its link is not DOWN or a WAKE is due, the query slot when an entry is offered. PLANT COMMAND
(R107, R117, R137, R138, section 12.2), to a line that has been silent for 4 ms or has not fallen silent within 50 ms,
carries the command record as it stands, or OFF to a link in BINDING, with the STOP flag while the stop sequence is open,
opens the wait of 50 ms and counts one STOP command more. WAKE (R116) goes out so to a node whose link is DOWN when none
has gone out since or the last one is 2 s old or more, and not less than 2 s after the last one. On a line that is not
silent neither goes out before its 50 ms. A round that begins late starts the timer when it begins (the model's choice, log
entry 47). -/
def Obligations.PlantRoundsSend : Prop :=
  (∀ (s : State) (dt : Nat) (d : Time), s.phase = .running → s.plant.wait = none → s.plant.sendAfter ≤ s.now + dt →
      s.plant.roundDue = some d → d ≤ s.now + dt → s.plant.slot = .over →
      let sends : Node → Prop := fun n =>
        (s.link n).state ≠ .down ∨ ∀ t, s.plant.lastWake.get n = some t → t + sec 2 ≤ s.now + dt
      ∃ x, exec (.plantRound dt) s = .next
          { s.elapse dt with plant := { s.plant with roundDue := some (s.now + dt + ms 500), slot := x, dueSince := s.now + dt } }
        ∧ (sends .airHandler → x = .airHandler)
        ∧ (¬sends .airHandler → sends .outdoorUnit → x = .outdoorUnit)
        ∧ (¬sends .airHandler → ¬sends .outdoorUnit → s.relay.offered.isSome = true → x = .query)
        ∧ (¬sends .airHandler → ¬sends .outdoorUnit → s.relay.offered = none → x = .over))
  ∧ (∀ (s : State) (dt quiet : Nat) (n : Node), s.phase = .running → s.plant.wait = none → s.plant.sendAfter ≤ s.now + dt →
      s.plant.slot = slotOf n → (s.link n).state ≠ .down →
      ms 4 ≤ quiet ∨ s.plant.dueSince + ms 50 ≤ s.now + dt →
      let c := if (s.link n).state = .binding then commandOff else s.command
      let stop : Byte := if (s.link n).stopOpen then 1 else 0
      let payload : List Byte := match n with
        | .outdoorUnit => [c.outMode.code, u8 c.capacity, stop]
        | .airHandler =>
          [c.airMode.code] ++ u16 c.airflow
            ++ [stop + (if c.reheat then 2 else 0) + (if c.coldBlow then 4 else 0)]
      let sentAt := s.now + dt + frameTime payload.length
      exec (.plantCommand ⟨dt, quiet⟩ n) s = .next
        { s.elapse dt with
          plant := { s.plant with
            wait := some ⟨n, .status, sentAt + ms 50⟩
            sendAfter := sentAt + ms 4
            sent := wire (frameTo (nodeAddress n) 0x43 payload)
            frames := ⟨s.now + dt, payload.length + 6⟩ :: s.plant.frames }
          links := if (s.link n).stopOpen then
              s.links.set n { s.link n with stopCount := satInc 255 (s.link n).stopCount }
            else s.links })
  ∧ (∀ (s : State) (dt quiet : Nat) (n : Node), s.phase = .running → s.plant.wait = none → s.plant.sendAfter ≤ s.now + dt →
      s.plant.slot = slotOf n → (s.link n).state = .down →
      let sentAt := s.now + dt + frameTime 0
      ((∀ t, s.plant.lastWake.get n = some t → t + sec 2 ≤ s.now + dt) →
        ms 4 ≤ quiet ∨ s.plant.dueSince + ms 50 ≤ s.now + dt →
        exec (.wake ⟨dt, quiet⟩ n) s = .next
          { s.elapse dt with
            plant := { s.plant with
              wait := some ⟨n, .status, sentAt + ms 50⟩
              sendAfter := sentAt + ms 4
              sent := wire (frameTo (nodeAddress n) 0x41 [])
              frames := ⟨s.now + dt, 6⟩ :: s.plant.frames
              lastWake := s.plant.lastWake.set n (some (s.now + dt)) } })
      ∧ ∀ t, s.plant.lastWake.get n = some t → s.now + dt < t + sec 2 →
        exec (.wake ⟨dt, quiet⟩ n) s = .next (s.elapse dt))
  ∧ (∀ (s : State) (dt quiet : Nat) (n : Node), quiet < ms 4 → s.now + dt < s.plant.dueSince + ms 50 →
      exec (.plantCommand ⟨dt, quiet⟩ n) s = .next (s.elapse dt) ∧ exec (.wake ⟨dt, quiet⟩ n) s = .next (s.elapse dt)
        ∧ exec (.query ⟨dt, quiet⟩) s = .next (s.elapse dt))

/-- QUERY (R107, R117, R160, section 12.2): in the query slot the WAITING entry nearest the head goes to its node, and its tag
is the query on the line until the wait ends. QUERY ACCEPT in the query slot (R117, R161): the tag on the line makes its
WAITING entry SENT, with the present time and an answer timer of 2 s; another tag changes no entry; either way the line holds
no query after it, and the slot ends. -/
def Obligations.QueriesGoOutAndAreAccepted : Prop :=
  (∀ (s : State) (dt quiet : Nat) (xs ys : List QueryEntry) (e : QueryEntry), s.phase = .running → s.plant.wait = none →
      s.plant.sendAfter ≤ s.now + dt → s.plant.slot = .query → s.relay.onLine = none →
      s.relay.entries = xs ++ e :: ys → e.state = .waiting → (∀ x ∈ xs, x.state ≠ .waiting) →
      ms 4 ≤ quiet ∨ s.plant.dueSince + ms 50 ≤ s.now + dt →
      let sentAt := s.now + dt + frameTime 4
      exec (.query ⟨dt, quiet⟩) s = .next
        { s.elapse dt with
          plant := { s.plant with
            wait := some ⟨e.target, .accept, sentAt + ms 50⟩
            sendAfter := sentAt + ms 4
            sent := wire (frameTo (nodeAddress e.target) 0x45 ([u8 e.tag, e.item] ++ bytes16 e.argument))
            frames := ⟨s.now + dt, 10⟩ :: s.plant.frames }
          relay := { s.relay with onLine := some e.tag } })
  ∧ (∀ (s : State) (dt : Nat) (b : Burst) (w : PlantWait) (cls : Byte) (p : List Byte), HearsPlant s dt b w cls p →
      w.expects = .accept → s.plant.slot = .query →
      exec (.queryAccept dt b) s = .next
        { s.elapse dt with
          plant := plantAfter s.plant (s.now + dt) (oneGood s.plant.counters) .over
          relay := { s.relay with
            onLine := none
            entries := s.relay.entries.map fun e =>
              if s.relay.onLine = some (byteAt p 0).toNat ∧ e.tag = (byteAt p 0).toNat ∧ e.state = .waiting then
                { e with
                  state := .sent
                  sentTime := some (s.now + dt)
                  answerDue := some (s.now + dt + sec 2) }
              else e } })

/-- An answer part of a PLANT STATUS (R117, R162) makes the SENT entry of its tag at its node ANSWERED with the code and the
value and stops its answer timer; an answer that no such entry awaits is late: so for the relay, and for the command PLANT
STATUS with its 14 bytes or more. Where the link leaves READY and ACTIVE at the same status, its queries expire UNREACHABLE
(R165), and the burst's order bit says which comes first (the model's own, log entry 9). ANSWER TIMER EXPIRY (R163): the SENT
entry becomes EXPIRED with TIMEOUT and QUERY TIMEOUT is raised; it is not offered to a query slot again, and an answer that
comes afterwards is late. -/
def Obligations.QueriesEnd : Prop :=
  (∀ (s : State) (n : Node) (a : AnswerPart),
      (∀ (xs ys : List QueryEntry) (e : QueryEntry), s.relay.entries = xs ++ e :: ys → e.state = .sent → e.tag = a.tag →
        e.target = n → (∀ x ∈ xs ++ ys, x.tag ≠ a.tag) →
        s.takeAnswer n a =
          { s with
            relay := { s.relay with
              entries := xs ++
                { e with state := .answered, status := some (.code a.code), value := some a.value, answerDue := none }
                  :: ys } })
      ∧ ((∀ e ∈ s.relay.entries, ¬(e.state = .sent ∧ e.tag = a.tag ∧ e.target = n)) →
        s.takeAnswer n a = { s with relay := { s.relay with late := satInc 65535 s.relay.late } }))
  ∧ (∀ (s : State) (dt : Nat) (b : Burst) (w : PlantWait) (cls : Byte) (p : List Byte), HearsPlant s dt b w cls p →
      w.expects = .status → 14 ≤ p.length →
      let tag := (byteAt p 8).toNat
      let value := byteAt p 10 ++ byteAt p 11 ++ byteAt p 12 ++ byteAt p 13
      ∃ t, exec (.plantStatus dt b) s = .next t
        ∧ ((∀ e ∈ s.relay.entries, ¬(e.state = .sent ∧ e.tag = tag ∧ e.target = w.node)) →
            t.relay.late = satInc 65535 s.relay.late
            ∧ ∀ x ∈ t.relay.entries, x.state = .answered → x ∈ s.relay.entries)
        ∧ (∀ (xs ys : List QueryEntry) (e : QueryEntry), s.relay.entries = xs ++ e :: ys → e.state = .sent → e.tag = tag →
            e.target = w.node → (∀ x ∈ xs ++ ys, x.tag ≠ tag) →
            b.relayFirst = true ∨ ((s.link w.node).state.reachable = true ∧ (t.link w.node).state.reachable = true) →
            t.relay.late = s.relay.late
            ∧ ∀ x ∈ t.relay.entries, x.tag = tag →
                x = { e with
                  state := .answered, status := some (.code (byteAt p 9)), value := some value, answerDue := none }))
  ∧ (∀ (s : State) (dt : Nat) (xs ys : List QueryEntry) (e : QueryEntry) (d : Time), s.phase = .running →
      s.relay.entries = xs ++ e :: ys → e.state = .sent → e.answerDue = some d → d ≤ s.now + dt →
      (∀ x ∈ xs ++ ys, x.tag ≠ e.tag) →
      ∃ t, exec (.answerTimerExpiry dt e.tag) s = .next t
        ∧ t = { s.elapse dt with
            events := afterRaise s.events .queryTimeout
            relay := { s.relay with
              entries := xs ++ { e with state := .expired, status := some .timeout, answerDue := none } :: ys } }
        ∧ (∀ x, t.relay.offered = some x → x.tag ≠ e.tag)
        ∧ ∀ a : AnswerPart, a.tag = e.tag → (t.takeAnswer e.target a).relay.late = satInc 65535 s.relay.late
            ∧ (t.takeAnswer e.target a).relay.entries = t.relay.entries)

/-- PLANT STATUS, the first from a node whose link is DOWN, while the house runs no compressor (R117, R140, R147, R149, R152,
R153): the link enters BINDING with its supervisor of 30 s, records the report, and begins its binding run with a valid item
of slot 1. The status whose slot 5 completes the run (R141, R155): the link is READY with the capability bound, its supervisor
stopped, its lost mark no and its silence timer of 3 s started, and an outdoor unit whose Cmin lies above the cap brings SHED.
From a SILENT link (R145): back to STOPPING while its stop sequence stays open, to ACTIVE with RUNNING while commanded non-OFF,
else to READY. IDLE after three STOP commands (R138, R143): the stop sequence closes, and a STOPPING link is READY; after fewer
it stays. Another capability in slot 1 (R52, R156): it is bound at once, CAPABILITY CHANGE is raised, and the plant command
record and the house keep to it. -/
def Obligations.StatusesMoveTheLink : Prop :=
  (∀ (s : State) (dt : Nat) (b : Burst) (w : PlantWait) (cls : Byte) (p : List Byte), HearsPlant s dt b w cls p →
    w.expects = .status → (s.link w.node).state = .down → LinkHolds (s.link w.node) → p.length < 14 →
    s.house.compressor = false →
    ∃ t, exec (.plantStatus dt b) s = .next t
      ∧ t = { s.elapse dt with
          plant := plantAfter s.plant (s.now + dt) (oneGood s.plant.counters) t.plant.slot
          links := s.links.set w.node (t.link w.node)
          events := t.events }
      ∧ follows s.plant.slot t.plant.slot
      ∧ (t.link w.node).state = .binding ∧ (t.link w.node).bindDue = some (s.now + dt + sec 30)
      ∧ (t.link w.node).fault = some (nat16 (byteAt p 1) (byteAt p 2))
      ∧ (∀ st, reportedState w.node (byteAt p 0) = some st → (t.link w.node).nodeState = some st)
      ∧ (t.link w.node).stopOpen = false ∧ (t.link w.node).cap = none
      ∧ (t.link w.node).runLength =
        (if byteAt p 3 = 1 ∧ (capabilityOf w.node (byteAt p 4) (byteAt p 5) (byteAt p 6)).isSome then 1 else 0)
      ∧ (nat16 (byteAt p 1) (byteAt p 2) ≠ 0 → marked t.events.raised .plantFault = true ∨ s.plantFaultHolds = true))
  ∧ (∀ (s : State) (dt : Nat) (b : Burst) (w : PlantWait) (cls : Byte) (p : List Byte) (v : AnnexValue) (a : Capability),
    HearsPlant s dt b w cls p → w.expects = .status → LinkHolds (s.link w.node) → s.house.compressor = false →
    s.commandedOn w.node = false → (s.link w.node).state = .binding → (s.link w.node).runLength = 4 →
    (s.link w.node).expected = some 4 → byteAt p 3 = 5 →
    annexValueOf w.node 4 (byteAt p 4) (byteAt p 5) (byteAt p 6) (byteAt p 7) = some v →
    (s.link w.node).slot1 = some a →
    ∃ t, exec (.plantStatus dt b) s = .next t
      ∧ t.link w.node =
        { s.link w.node with
          state := .ready, lost := false, cap := some a, bindDue := none, silenceDue := some (s.now + dt + sec 3)
          nodeState := (reportedState w.node (byteAt p 0)).or (s.link w.node).nodeState
          fault := some (nat16 (byteAt p 1) (byteAt p 2)), expected := some 0, runLength := 5
          annex := (t.link w.node).annex }
      ∧ (t.link w.node).slot1 = some a
      ∧ (∀ c hp, w.node = .outdoorUnit → a = .outdoor c hp → s.cap < c → s.house ≠ .uncommissioned → s.house ≠ .halt →
          t.house = .shed))
  ∧ (∀ (s : State) (dt : Nat) (b : Burst) (w : PlantWait) (cls : Byte) (p : List Byte),
    HearsPlant s dt b w cls p → w.expects = .status → byteAt p 0 ≠ 5 → 2 ≤ (byteAt p 3).toNat → (byteAt p 3).toNat ≤ 5 →
    let l := s.link w.node
    let closes := byteAt p 0 = 0 ∧ 3 ≤ l.stopCount
    let running := byteAt p 0 = 2 ∧ s.commandedOn w.node = true
    ∃ t, exec (.plantStatus dt b) s = .next t
      ∧ (l.state = .silent →
          (t.link w.node).silenceDue = some (s.now + dt + sec 3) ∧ (t.link w.node).lossDue = none
          ∧ (l.stopOpen = true → ¬closes → (t.link w.node).state = .stopping ∧ (t.link w.node).stopOpen = true)
          ∧ (l.stopOpen = false ∨ closes → running → (t.link w.node).state = .active)
          ∧ (l.stopOpen = false ∨ closes → ¬running → (t.link w.node).state = .ready))
      ∧ (l.state = .stopping → l.stopOpen = true →
          (t.link w.node).silenceDue = some (s.now + dt + sec 3)
          ∧ (closes → (t.link w.node).state = .ready ∧ (t.link w.node).stopOpen = false
              ∧ (t.link w.node).stopDue = none)
          ∧ (¬closes → (t.link w.node).state = .stopping ∧ (t.link w.node).stopOpen = true
              ∧ (t.link w.node).stopCount = l.stopCount ∧ (t.link w.node).stopDue = l.stopDue)))
  ∧ (∀ (s : State) (dt : Nat) (b : Burst) (w : PlantWait) (cls : Byte) (p : List Byte) (x a : Capability),
    HearsPlant s dt b w cls p → w.expects = .status → HouseHolds s → LinksHold s → (s.link w.node).cap = some x →
    byteAt p 3 = 1 → capabilityOf w.node (byteAt p 4) (byteAt p 5) (byteAt p 6) = some a → a ≠ x →
    ∃ t, exec (.plantStatus dt b) s = .next t
      ∧ (t.link w.node).cap = some a ∧ marked t.events.raised .capabilityChange = true
      ∧ (∀ c hp c' hp', x = .outdoor c hp → a = .outdoor c' hp' →
          (c ≠ c' → s.cap < c' → s.house ≠ .uncommissioned → s.house ≠ .halt → t.house = .shed)
          ∧ (c ≠ c' → c' ≤ s.cap → t.house.compressor = true → c' ≤ t.command.capacity)
          ∧ (hp = true → hp' = false → t.house ≠ .heat ∧ t.house ≠ .defrost))
      ∧ (∀ lo hi r lo' hi' r', x = .air lo hi r → a = .air lo' hi' r' →
          (lo ≠ lo' ∨ hi ≠ hi' → t.command.airMode ≠ .off →
            lo' ≤ t.command.airflow ∧ t.command.airflow ≤ hi' ∧ (t.house = .defrost → t.command.airflow = lo'))
          ∧ (r = true → r' = false → t.command.reheat = false)))

/-- PLANT STATUS with an annex item of slots 2 to 5 (R142, R144, R147 to R149, R152). RUNNING from a READY link whose node is
commanded non-OFF: the link becomes ACTIVE, its silence timer restarts with 3 s, the report is recorded, and nothing else
of either link changes; a house in DEFROST returns to HEAT when it is the outdoor unit's, with the remembered airflow moved
into Qmin to Qmax (R45). DEFROST from the outdoor
unit (R44): a house in HEAT enters DEFROST with the capacity in force, the airflow at Qmin and cold-blow hold; a house in
another state stays as it is. -/
def Obligations.RunningAndDefrostAreTaken : Prop :=
  (∀ (s : State) (dt : Nat) (b : Burst) (w : PlantWait) (cls : Byte) (p : List Byte) (k : Fin 5) (v : AnnexValue),
    HearsPlant s dt b w cls p → w.expects = .status → (s.link w.node).state = .ready →
    s.commandedOn w.node = true → byteAt p 0 = 2 → (byteAt p 3).toNat = k.val + 1 → 1 ≤ k.val →
    annexValueOf w.node k (byteAt p 4) (byteAt p 5) (byteAt p 6) (byteAt p 7) = some v →
    let l := s.link w.node
    ∃ t, exec (.plantStatus dt b) s = .next t
      ∧ t.link w.node =
        { l with
          state := .active
          nodeState := some .running
          fault := some (nat16 (byteAt p 1) (byteAt p 2))
          silenceDue := some (s.now + dt + sec 3)
          expected := some (k + 1)
          breaks := if l.expected = none ∨ l.expected = some k then l.breaks else satInc 65535 l.breaks
          annex := (t.link w.node).annex }
      ∧ (∀ j : Fin 5, look (t.link w.node).annex j =
          if j = k then ⟨some v, 0⟩ else { look l.annex j with age := satInc 10 (look l.annex j).age })
      ∧ (s.house = .defrost → w.node = .outdoorUnit → t.house = .heat
          ∧ t.command = { s.command with airflow := t.command.airflow, coldBlow := false }
          ∧ (∀ f lo hi, s.arbiter.remembered = some f → s.airLimits = some (lo, hi) →
              t.command.airflow = max lo (min hi f))
          ∧ t.arbiter = { s.arbiter with house := .heat, hold := false, remembered := none, defrostDue := none })
      ∧ ((s.house ≠ .defrost ∨ w.node = .airHandler) → t.arbiter = s.arbiter ∧ t.command = s.command)
      ∧ follows s.plant.slot t.plant.slot
      ∧ (p.length < 14 → t.relay = s.relay)
      ∧ t = { s.elapse dt with
          plant := plantAfter s.plant (s.now + dt) (oneGood s.plant.counters) t.plant.slot
          arbiter := t.arbiter
          command := t.command
          links := s.links.set w.node (t.link w.node)
          relay := t.relay
          events :=
            if s.plantFaultHolds = false ∧ t.plantFaultHolds = true then afterRaise s.events .plantFault
            else s.events })
  ∧ (∀ (s : State) (dt : Nat) (b : Burst) (w : PlantWait) (cls : Byte) (p : List Byte) (lo hi : Nat),
    HearsPlant s dt b w cls p → w.expects = .status → w.node = .outdoorUnit → HouseHolds s →
    (s.link .outdoorUnit).state = .ready ∨ (s.link .outdoorUnit).state = .active → byteAt p 0 = 3 →
    2 ≤ (byteAt p 3).toNat → (byteAt p 3).toNat ≤ 5 → s.airLimits = some (lo, hi) →
    ∃ t, exec (.plantStatus dt b) s = .next t
      ∧ (t.link .outdoorUnit).nodeState = some .defrost ∧ (t.link .outdoorUnit).state = (s.link .outdoorUnit).state
      ∧ (s.house = .heat →
          t.command = { s.command with airflow := lo, reheat := false, coldBlow := true }
          ∧ t.arbiter = { s.arbiter with
              house := .defrost
              hold := false
              remembered := some s.command.airflow
              defrostDue := some (s.now + dt + sec 900) })
      ∧ (s.house ≠ .heat → t.arbiter = s.arbiter ∧ t.command = s.command)
      ∧ t = { s.elapse dt with
          plant := plantAfter s.plant (s.now + dt) (oneGood s.plant.counters) t.plant.slot
          arbiter := t.arbiter
          command := t.command
          links := s.links.set .outdoorUnit (t.link .outdoorUnit)
          relay := t.relay
          events := t.events })

/-- BINDING SUPERVISOR EXPIRY and LINK LOSS TIMER EXPIRY (R116, R141, R145, R146): the link goes DOWN and forgets all but its
break count and its lost mark, which the loss sets; its time of last WAKE is forgotten; BIND FAIL, or PLANT LOST, is raised;
and a compressor state that still counted on the lost node ends in IDLE with both nodes OFF. -/
def Obligations.LinksGoDown : Prop :=
  ∀ (s : State) (dt : Nat) (n : Node) (d : Time), s.phase = .running → d ≤ s.now + dt →
    ((s.link n).state = .binding → (s.link n).bindDue = some d →
      ∃ t, exec (.bindingSupervisorExpiry dt n) s = .next t
        ∧ t.link n = { resetLink with lost := (s.link n).lost, breaks := (s.link n).breaks }
        ∧ t.plant = { s.plant with lastWake := s.plant.lastWake.set n none }
        ∧ marked t.events.raised .bindFail = true
        ∧ (s.house ≠ .shed → t = { s.elapse dt with links := t.links, plant := t.plant, events := afterRaise s.events .bindFail })
        ∧ t = { s.elapse dt with
            arbiter := t.arbiter, command := t.command, links := t.links, plant := t.plant,
            relay := t.relay, events := t.events })
    ∧ ((s.link n).state = .silent → (s.link n).lossDue = some d →
      ∃ t, exec (.linkLossTimerExpiry dt n) s = .next t
        ∧ t.link n = { resetLink with lost := true, breaks := (s.link n).breaks }
        ∧ t.plant = { s.plant with lastWake := s.plant.lastWake.set n none }
        ∧ marked t.events.raised .plantLost = true
        ∧ (s.house.compressor = true → (s.link n).cap.isSome = true → (s.link n).nodeState ≠ some .locked →
            t.house = .idle ∧ t.command = commandOff ∧ t.arbiter.pendingTarget = none)
        ∧ t = { s.elapse dt with
            arbiter := t.arbiter, command := t.command, links := t.links, plant := t.plant,
            relay := t.relay, events := t.events })

/-- LINK SILENCE TIMER EXPIRY (R144, R165): the link becomes SILENT with its loss timer of 60 s, and every open query of its
node expires UNREACHABLE when it was READY or ACTIVE; the plant command record and the house stay as they are. STOP TIMER
EXPIRY (R138, R143): the stop sequence closes and a STOPPING link becomes READY. -/
def Obligations.LinkTimersAct : Prop :=
  (∀ (s : State) (dt : Nat) (n : Node) (d : Time), s.phase = .running → (s.link n).silenceDue = some d →
      d ≤ s.now + dt →
      let ends := (s.link n).state = .ready ∨ (s.link n).state = .active
      ∃ t, exec (.linkSilenceTimerExpiry dt n) s = .next t
        ∧ t = { s.elapse dt with
            links := s.links.set n
              { s.link n with state := .silent, silenceDue := none, lossDue := some (s.now + dt + sec 60) }
            relay := t.relay }
        ∧ (¬ends → t.relay = s.relay)
        ∧ (ends → t.relay.late = s.relay.late
            ∧ t.relay.onLine = (if ∃ e ∈ s.relay.entries, s.relay.onLine = some e.tag
                  ∧ (e.state = .waiting ∨ e.state = .sent) ∧ e.target = n then none else s.relay.onLine)
            ∧ t.relay.entries = s.relay.entries.map fun e =>
              if (e.state = .waiting ∨ e.state = .sent) ∧ e.target = n then
                { e with state := .expired, status := some .unreachable, answerDue := none }
              else e))
  ∧ (∀ (s : State) (dt : Nat) (n : Node) (d : Time), s.phase = .running → (s.link n).stopDue = some d → d ≤ s.now + dt →
      exec (.stopTimerExpiry dt n) s = .next
        { s.elapse dt with
          links := s.links.set n
            { s.link n with
              stopOpen := false
              stopDue := none
              state := if (s.link n).state = .stopping then .ready else (s.link n).state } })

/-! ### Zones, house and computation -/

/-- A COOL call (R18), a HEAT call (R19) and a DRY call (R20): each starts from NONE, or from a call that has just ended, COOL
before HEAT before DRY, and goes on by the Profile's thresholds and the zone's permission; a DRY call first gives way to COOL
and HEAT. The demand of the call so formed (the table of R21). A zone that takes no part has no call (R17). -/
def Obligations.CallsStartAndContinue : Prop :=
  (∀ (p : Profile) (c : ZoneCfg) (r : ZoneRun),
    let coolStarts := ∃ t, r.t = some t ∧ (p.ton : Int) ≤ t - r.sc ∧ c.permission ≠ .heatOnly
    let heatStarts := ∃ t, r.t = some t ∧ (p.ton : Int) ≤ r.sh - t ∧ c.permission ≠ .coolOnly
    let dryStarts := ∃ t h, r.t = some t ∧ r.h = some h ∧ r.hd + 5 ≤ h ∧ r.sh + 10 ≤ t ∧ c.permission ≠ .heatOnly
    let n := callFormed p c r
    let starts := (n = .cool ↔ coolStarts) ∧ (n = .heat ↔ heatStarts ∧ ¬coolStarts)
      ∧ (n = .dry ↔ dryStarts ∧ ¬coolStarts ∧ ¬heatStarts)
    let d := (r.evaluate p c true).demand
    (r.call = .none → starts)
    ∧ (r.call = .cool → (callKept p c r = .cool ↔
      ∃ t, r.t = some t ∧ -(p.toff : Int) < t - r.sc ∧ c.permission ≠ .heatOnly))
    ∧ (r.call = .cool → c.permission = .heatOnly → n ≠ .cool)
    ∧ (r.call = .heat → (callKept p c r = .heat ↔
      ∃ t, r.t = some t ∧ -(p.toff : Int) < r.sh - t ∧ c.permission ≠ .coolOnly))
    ∧ (r.call = .dry → (callKept p c r = .cool ↔ coolStarts) ∧ (callKept p c r = .heat ↔ heatStarts ∧ ¬coolStarts)
      ∧ (callKept p c r = .dry ↔ (∃ t h, r.t = some t ∧ r.h = some h ∧ r.hd < h ∧ r.sh + 5 < t ∧ c.permission ≠ .heatOnly)
          ∧ ¬coolStarts ∧ ¬heatStarts))
    ∧ (callKept p c r ≠ .none → n = callKept p c r) ∧ (callKept p c r = .none → starts)
    ∧ (10 ≤ r.sc - r.sh → 3 ≤ p.ton → ¬(coolStarts ∧ heatStarts))
    ∧ (r.evaluate p c true).call = n
    ∧ (n = .none → d = 0) ∧ (n ≠ .none → 10 ≤ d)
    ∧ (n = .cool → ∀ t, r.t = some t → (d : Int) = min 100 (max 10 (max (t - r.sc) 0 * c.kp / 4)))
    ∧ (n = .heat → ∀ t, r.t = some t → (d : Int) = min 100 (max 10 (max (r.sh - t) 0 * c.kp / 4)))
    ∧ (n = .dry → ∀ h, r.h = some h → (d : Int) = min 60 (max 10 ((h - r.hd) * 4)))
    ∧ r.evaluate p c false = { r with call := .none, demand := 0, unmet := 0 })
  ∧ (∀ (c : ZoneCfg) (r : ZoneRun), c.permission ≠ .heatOnly → r.sc = 240 → ∀ t : Int, r.t = some t →
    (r.call = .none → (callFormed defaultProfile c r = .cool ↔ 245 ≤ t))
    ∧ (r.call = .cool → (callKept defaultProfile c r = .cool ↔ 239 ≤ t)))
  ∧ ∀ (c : ZoneCfg) (r : ZoneRun), c.permission ≠ .coolOnly → r.sh = 200 → 210 ≤ r.sc → ∀ t : Int, r.t = some t →
    (r.call = .none → (callFormed defaultProfile c r = .heat ↔ t ≤ 195))
    ∧ (r.call = .heat → (callKept defaultProfile c r = .heat ↔ t ≤ 201))

/-- CYCLE EXPIRY (R17, R21 to R23, R31, R34): in every house state, every zone's call and demand are formed from the tables and
readings as they stand, its unmet count follows the house state in force after the decision, its status is derived
last, and the cycle timer starts again with the Profile's period. -/
def Obligations.CycleEvaluatesEveryZone : Prop :=
  ∀ (s : State) (dt : Nat) (d : Time), s.phase = .running → s.arbiter.cycleDue = some d → d ≤ s.now + dt →
    ∃ t, exec (.cycleExpiry dt) s = .next t
      ∧ t.arbiter.cycleDue = some (s.now + dt + sec s.profile.cycle)
      ∧ (∀ z : ZoneId,
          let e := (s.zone z).evaluate s.profile (s.zoneCfg z) (s.inPlay z)
          t.zone z =
            { e with
              unmet :=
                if e.call = .none then 0 else if e.call.servedBy t.house then 0 else satInc 255 e.unmet
              status := t.statusOf z })
      ∧ t = { s.elapse dt with
          zones := t.zones, arbiter := t.arbiter, command := t.command,
          computation := t.computation, channels := t.channels, queue := t.queue, slotLimit := t.slotLimit,
          links := t.links, relay := t.relay, events := t.events }

/-- The three sums and the target (R35): the sum of D·Qd over the zones with each call, HEAT counted as 0 without a heat pump;
HEAT when its sum is above the other two together, else COOL when it has a sum, else DRY. CYCLE EXPIRY in IDLE and in FAN (R36
to R38, R53, R58, R59, R69): with a sum above 0, both nodes startable, the rest of R32 run and the cap not below Cmin, the
house enters the target and the outdoor unit starts; with the cap below Cmin it enters SHED without a publication; otherwise
the house stays as it is, waits, or turns to or from FAN by the counted fan requests. -/
def Obligations.IdleAndFanDecide : Prop :=
  (∀ s : State,
    (∀ c : Call, s.callSum c = ∑ z : ZoneId, if (s.zone z).call = c then (s.zone z).demand * (s.zoneCfg z).qd else 0)
    ∧ s.sumCool = s.callSum .cool ∧ s.sumDry = s.callSum .dry
    ∧ (∀ c, (s.link .outdoorUnit).cap = some (.outdoor c false) → s.sumHeat = 0)
    ∧ ((∀ c, (s.link .outdoorUnit).cap ≠ some (.outdoor c false)) → s.sumHeat = s.callSum .heat)
    ∧ (s.sumCool + s.sumDry < s.sumHeat → s.chooseTarget = .heat)
    ∧ (s.sumHeat ≤ s.sumCool + s.sumDry → 0 < s.sumCool → s.chooseTarget = .cool)
    ∧ (s.sumHeat ≤ s.sumDry → s.sumCool = 0 → s.chooseTarget = .dry))
  ∧ (∀ (s : State) (dt : Nat) (d : Time), s.phase = .running → s.arbiter.cycleDue = some d → d ≤ s.now + dt →
    s.house = .idle ∨ s.house = .fan → HouseHolds s →
    let now := s.now + dt
    let e := (s.elapse dt).evaluateZones
    let calls := 0 < e.sumCool + e.sumDry + e.sumHeat
    let g := e.chooseTarget
    let starts := calls ∧ s.bothStartable = true ∧ Rested s now g.runMode
    let fan := e.anyFan = true ∧ (s.house = .fan ∨ s.startable .airHandler = true)
    ∃ t, exec (.cycleExpiry dt) s = .next t
      ∧ (starts → (∀ c, s.cmin = some c → c ≤ s.cap) →
          t.house = g.house ∧ (∃ f, e.compute g.house = some f ∧ t.command = f.command g.house)
          ∧ t.command.outMode = g.house.outMode ∧ t.command.airMode = g.house.airMode
          ∧ (∀ c, s.cmin = some c → c ≤ t.command.capacity) ∧ t.command.capacity ≤ s.cap
          ∧ t.arbiter.runStart = some now ∧ t.arbiter.restStart = none ∧ t.arbiter.lastRun = some g.runMode
          ∧ t.arbiter.pendingTarget = none ∧ marked t.events.raised .modeChange = true)
      ∧ (∀ c, starts → s.cmin = some c → s.cap < c → EntersShed s t now ∧ PublishesNothing s t)
      ∧ (¬starts → t.arbiter.pendingTarget = (if calls then some g else none)
          ∧ t.arbiter.runStart = s.arbiter.runStart ∧ t.arbiter.restStart = s.arbiter.restStart)
      ∧ (¬starts → (calls ∧ s.house = .idle) ∨ ¬fan →
          t.house = .idle ∧ t.command = commandOff ∧ t.channels = s.channels)
      ∧ (¬starts → ¬(calls ∧ s.house = .idle) → fan →
          t.house = .fan ∧ ∃ f, e.compute .fan = some f
            ∧ t.command = { commandOff with airMode := .fan, airflow := f.commanded }))

/-- CYCLE EXPIRY in COOL, DRY and HEAT (R39 to R42): a changeover when the other family has a sum, the minimum run is over and
its sum is more than twice this one's or one of its zones has starved; without a caller of the running family IDLE after
the minimum run and hold before it; otherwise the computation for COOL, DRY or HEAT is written, or with the cap below Cmin the
house enters SHED without a publication (R46, R59). -/
def Obligations.RunningHouseDecides : Prop :=
  ∀ (s : State) (dt : Nat) (d : Time), s.phase = .running → s.arbiter.cycleDue = some d → d ≤ s.now + dt →
    s.house = .cool ∨ s.house = .dry ∨ s.house = .heat → HouseHolds s →
    let now := s.now + dt
    let e := (s.elapse dt).evaluateZones
    let heats := s.house = .heat
    let own := if heats then e.sumHeat else e.sumCool + e.sumDry
    let other := if heats then e.sumCool + e.sumDry else e.sumHeat
    let ran := ∃ r, s.arbiter.runStart = some r ∧ r + sec s.profile.minRun ≤ now
    let starved := ∃ z : ZoneId, s.profile.starvation ≤ (e.zone z).unmet
      ∧ if heats then (e.zone z).call = .cool ∨ (e.zone z).call = .dry else (e.zone z).call = .heat
    let changes := 0 < other ∧ ran ∧ (2 * own < other ∨ starved)
    let stopped := fun t : State => t.command = commandOff ∧ t.arbiter.runStart = none
      ∧ t.arbiter.restStart = some now ∧ t.arbiter.hold = false ∧ t.channels = s.channels
    ∃ t, exec (.cycleExpiry dt) s = .next t
      ∧ (changes → t.house = .changeover ∧ stopped t ∧ t.arbiter.dwellStart = some now
          ∧ t.arbiter.pendingTarget = some (if heats then (if 0 < e.sumCool then .cool else .dry) else .heat))
      ∧ (¬changes → own = 0 → ran → t.house = .idle ∧ stopped t ∧ t.arbiter.pendingTarget = none)
      ∧ (¬changes → own = 0 → ¬ran →
          t.command = { s.command with capacity := s.cmin.getD s.command.capacity, reheat := false }
          ∧ t.channels = s.channels
          ∧ t.arbiter = { s.arbiter with hold := true, cycleDue := some (now + sec s.profile.cycle) })
      ∧ (¬changes → 0 < own → (∀ c, s.cmin = some c → c ≤ s.cap) →
          let h : HouseState := if heats then .heat else if 0 < e.sumCool then .cool else .dry
          (∃ f, e.compute h = some f ∧ t.command = f.command h)
          ∧ (∀ c, s.cmin = some c → c ≤ t.command.capacity) ∧ t.command.capacity ≤ s.cap
          ∧ t.arbiter =
            { s.arbiter with house := h, hold := false, cycleDue := some (now + sec s.profile.cycle) })
      ∧ (∀ c, ¬changes → 0 < own → s.cmin = some c → s.cap < c → EntersShed s t now ∧ PublishesNothing s t)

/-- CYCLE EXPIRY in CHANGEOVER (R43): the target is chosen anew within the pending family; before the dwell is over the house
stays; after it the house goes to IDLE without a target or with a node not startable, waits while the rest is not run, and
otherwise starts in the target, or with the cap below Cmin enters SHED without a publication (R46, R59). In SHED (R47): the fan
computation while a fan request counts, else both nodes OFF. In DEFROST (R45), HALT (R48) and UNCOMMISSIONED (R49): house and
command stay as they are. -/
def Obligations.OtherHouseStatesDecide : Prop :=
  ∀ (s : State) (dt : Nat) (d : Time), s.phase = .running → s.arbiter.cycleDue = some d → d ≤ s.now + dt →
    HouseHolds s →
    let now := s.now + dt
    let e := (s.elapse dt).evaluateZones
    let again : Arbiter → Arbiter := fun x => { x with cycleDue := some (now + sec s.profile.cycle) }
    let target : Option Target :=
      match s.arbiter.pendingTarget with
      | some .heat => if 0 < e.sumHeat then some .heat else none
      | some _ => if 0 < e.sumCool then some .cool else if 0 < e.sumDry then some .dry else none
      | none => none
    let dwelt := ∃ x, s.arbiter.dwellStart = some x ∧ x + sec s.profile.dwell ≤ now
    let fan := e.anyFan = true
      ∧ (s.startable .airHandler = true ∨ (s.available .airHandler = true ∧ s.command.airMode = .fan))
    ∃ t, exec (.cycleExpiry dt) s = .next t
      ∧ (s.house = .changeover →
          (¬dwelt → t.arbiter = again { s.arbiter with pendingTarget := target.or s.arbiter.pendingTarget }
            ∧ t.command = s.command ∧ t.channels = s.channels)
          ∧ (dwelt → target = none ∨ s.bothStartable = false →
            t.arbiter = again { s.arbiter with
                house := .idle, hold := false, pendingTarget := none, dwellStart := none, defrostDue := none }
            ∧ t.command = s.command ∧ t.channels = s.channels)
          ∧ ∀ g, dwelt → target = some g → s.bothStartable = true →
            (¬Rested s now g.runMode → t.arbiter = again { s.arbiter with pendingTarget := some g }
              ∧ t.command = s.command ∧ t.channels = s.channels)
            ∧ (Rested s now g.runMode → (∀ c, s.cmin = some c → c ≤ s.cap) →
              (∃ f, e.compute g.house = some f ∧ t.command = f.command g.house)
              ∧ t.arbiter = again { s.arbiter with
                  house := g.house, hold := false, pendingTarget := none, dwellStart := none, defrostDue := none,
                  runStart := some now, restStart := none, lastRun := some g.runMode })
            ∧ (∀ c, Rested s now g.runMode → s.cmin = some c → s.cap < c →
              EntersShed s t now ∧ PublishesNothing s t))
      ∧ (s.house = .shed → t.arbiter = again s.arbiter
          ∧ (fan → ∃ f, e.compute .shed = some f
            ∧ t.command = { commandOff with airMode := .fan, airflow := f.commanded })
          ∧ (¬fan → t.command = commandOff ∧ t.channels = s.channels))
      ∧ (s.house = .defrost ∨ s.house = .halt ∨ s.house = .uncommissioned →
          t.arbiter = again s.arbiter ∧ t.command = s.command ∧ t.channels = s.channels)

/-- The computation (R55, R57, R58, R60 to R68). The served set follows the house state; the raw capacity is the demand of the
served set over the whole house, at most 100; the capacity lies from Cmin to the cap, or is 0 without compressor. A zone with
a faulted damper stands at its assumed opening, a served zone opens by its demand, a spill zone to its spill opening, and
every other is closed. The airflow is the sum over the openings of step 3, in DRY scaled once, held to Qmax; below Qmin the
walk opens, in the order of rank and number, every zone of the spill order before which the airflow is still below Qmin; the
commanded airflow lies from Qmin to Qmax, and is Qmin when the spill is short. Reheat is yes in DRY alone, with the element
present and a DRY caller near its heat setpoint. -/
def Obligations.ComputationKeepsItsLimits : Prop :=
  ∀ (s : State) (h : HouseState) (f : Figures), TablesHold s → CallsHold s → CallsInPlay s → PositionsHold s →
    s.compute h = some f →
    let served : ZoneId → Bool := fun z => look f.record.served z
    let spilled : ZoneId → Bool := fun z => look f.record.spill z
    let faulted : ZoneId → Bool := fun z => decide ((s.channel z).state = .fault)
    let base : ZoneId → Nat := fun z =>
      if faulted z then
        if (s.channel z).homed then (s.channel z).count * 100 / (s.damperCfg z).stroke else 100
      else if served z then
        if h.conditions then (s.zoneCfg z).pmin + (100 - (s.zoneCfg z).pmin) * (s.zone z).demand / 100 else 100
      else 0
    let air := (∑ z : ZoneId, (s.zoneCfg z).qd * base z / 100)
    let scaled := if h = .dry then air * s.profile.dryFactor / 100 else air
    let listed : ZoneId → Bool := fun z =>
      decide (1 ≤ (s.zoneCfg z).spillRank) && !served z && (s.zoneCfg z).enabled && !s.isLost z && !faulted z
    let before : ZoneId → ZoneId → Bool := fun a b =>
      decide ((s.zoneCfg a).spillRank < (s.zoneCfg b).spillRank)
        || (decide ((s.zoneCfg a).spillRank = (s.zoneCfg b).spillRank) && decide (a < b))
    let added : (ZoneId → Bool) → Nat := fun g =>
      ∑ z : ZoneId, if g z then (s.zoneCfg z).qd * (s.zoneCfg z).psp / 100 else 0
    (h.conditions = true → s.cmin.getD 0 ≤ f.capacity ∧ f.capacity ≤ s.cap
        ∧ ∃ raw, f.record.raw = some raw ∧ raw ≤ 100 ∧ f.capacity = min (max raw (s.cmin.getD 0)) s.cap
          ∧ raw = (∑ z : ZoneId, if served z then (s.zone z).demand * (s.zoneCfg z).qd else 0)
            / ∑ z : ZoneId, if (s.zoneCfg z).enabled then (s.zoneCfg z).qd else 0)
      ∧ (h.conditions = false → f.capacity = 0 ∧ f.record.raw = none)
      ∧ f.record.capacity = some f.capacity ∧ f.record.commanded = some f.commanded
      ∧ (∀ z, (h = .cool → (served z = true ↔ (s.zone z).call = .cool))
          ∧ (h = .heat → (served z = true ↔ (s.zone z).call = .heat))
          ∧ (h = .dry → (served z = true ↔ (s.zone z).call = .dry))
          ∧ (h = .fan ∨ h = .shed → (served z = true ↔ (s.zone z).fan = true ∧ s.inPlay z = true)))
      ∧ f.record.airSum = some scaled
      ∧ (∀ lo hi, s.airLimits = some (lo, hi) → lo ≤ hi → lo ≤ f.commanded ∧ f.commanded ≤ hi
          ∧ (∀ z, spilled z = true ↔
              listed z = true ∧ min scaled hi + added (fun y => listed y && before y z) < lo)
          ∧ (f.record.short = true ↔ min scaled hi + added spilled < lo)
          ∧ f.commanded = if f.record.short then lo else min (min scaled hi + added spilled) hi)
      ∧ (∃ v, f.record.openings = some v ∧ ∀ z : ZoneId, look v z ≤ 100
          ∧ look v z = if spilled z then (s.zoneCfg z).psp else base z)
      ∧ (f.reheat = true ↔ h = .dry ∧ s.reheatPresent = true
          ∧ ∃ z t, (s.zone z).call = .dry ∧ (s.zone z).t = some t ∧ t < (s.zone z).sh + 15)

/-- ZONE LOSS TIMER EXPIRY (R8, R24): an enabled zone with a source is LOST at once, its call, demand and unmet count are
cleared, and ZONE LOST is raised; a disabled one only has its timer expired. DEFROST TIMER EXPIRY (R45): DEFROST LONG is
raised, the timer does not run again, and the house stays as it is. -/
def Obligations.LossAndDefrostTimersAct : Prop :=
  (∀ (s : State) (dt : Nat) (z : ZoneId) (d : Time), s.phase = .running → (s.zone z).loss = .running d →
      d ≤ s.now + dt → s.hasSource z = true →
      ((s.zoneCfg z).enabled = true → (s.zone z).status ≠ .lost →
        exec (.zoneLossTimerExpiry dt z) s = .next
          { s.elapse dt with
            zones := put s.zones z
              { s.zone z with loss := .expired, call := .none, demand := 0, unmet := 0, status := .lost }
            events := afterRaise s.events .zoneLost })
      ∧ ((s.zoneCfg z).enabled = false →
        exec (.zoneLossTimerExpiry dt z) s = .next
          { s.elapse dt with zones := put s.zones z { s.zone z with loss := .expired } }))
  ∧ (∀ (s : State) (dt : Nat) (d : Time), s.phase = .running → s.arbiter.defrostDue = some d → d ≤ s.now + dt →
      exec (.defrostTimerExpiry dt) s = .next
        { s.elapse dt with
          arbiter := { s.arbiter with defrostDue := none }
          events := afterRaise s.events .defrostLong })

/-! ### Damper drives -/

/-- FEEDBACK PULSE with the drive on (R87, R88, R90, R91): the count moves one step in the drive direction; in a MOVE, within
the settle band of the goal the drive turns off and the channel settles, and short of it the silence timer restarts with the
stall time and the level follows the distance; a seek goes on at full level. With the drive off (R79, R89): within 500 ms of
the last drive-off the pulse is counted in the last drive direction, and a QUEUED channel that it brings within its goal's
band leaves the queue for IDLE, with retry armed no (DEDUCED, log entry 15); any other pulse is stray, and the sixteenth takes
the homing of a homed channel: IDLE it goes for its homing, QUEUED it keeps its place with the goal HOME, SETTLING or in FAULT
it stays as it is. A lower channel that comes to join at the same moment may do so first (log entry 40). -/
def Obligations.PulsesAreCounted : Prop :=
  ∀ (s : State) (dt : Nat) (c : ChannelId), s.phase = .running →
    let cfg := s.damperCfg c
    let r := s.channel c
    let now := s.now + dt
    let off := r.dir = none
    let coasts := now ≤ r.lastOff + ms 500
    let step : Dir → Nat := fun d => match d with
      | .opening => min (r.count + 1) cfg.stroke
      | .closing => r.count - 1
    ∃ t, exec (.feedbackPulse dt c) s = .next t
      ∧ t = { s.elapse dt with channels := t.channels, queue := t.queue, slotLimit := t.slotLimit }
      ∧ (∀ c', c' ≠ c → c' ∉ s.queue → c < c' ∨ ¬ComesToJoin s now c' → t.channel c' = s.channel c')
      ∧ (c ∉ s.queue → r.count ≤ cfg.stroke → ∀ (d : Dir) (g : Nat), r.dir = some d → r.goal = some (.move g) →
          t.channel c =
            (if Sys2Proof.Machine.dist g (step d) ≤ cfg.settle then
              { r with
                state := .settling, count := step d, goal := none, retry := false, dir := none,
                lastOff := now, restMs := cfg.deadMs, silenceDue := none, seekDue := none,
                deadDue := some (now + ms cfg.deadMs) }
            else
              { r with
                count := step d
                silenceDue := some (now + ms cfg.stallMs)
                level := if Sys2Proof.Machine.dist g (step d) ≤ cfg.approach then .half else .full })
          ∧ ∀ c', c' ≠ c → c' ∉ s.queue → t.channel c' = s.channel c')
      ∧ (c ∉ s.queue → r.count ≤ cfg.stroke → ∀ d g, r.dir = some d → r.goal = some g →
          g = .seekOpen ∨ g = .seekClosed ∨ g = .home →
          t.channel c = { r with count := step d, silenceDue := some (now + ms cfg.stallMs), level := .full })
      ∧ (c ∉ s.queue → r.count ≤ cfg.stroke → off → coasts → ∀ d, r.lastDir = some d → r.state ≠ .queued →
          t.channel c = { r with count := step d })
      ∧ (r.count ≤ cfg.stroke → off → coasts → ∀ d g, r.lastDir = some d → r.state = .queued → r.goal = some (.move g) →
          Sys2Proof.Machine.dist g (step d) ≤ cfg.settle →
          c ∉ t.queue ∧ t.channel c = { r with state := .idle, count := step d, goal := none, retry := false })
      ∧ (off → r.lastDir = none ∨ ¬coasts →
          (c ∉ s.queue → r.stray < 15 ∨ r.homed = false → t.channel c = { r with stray := satInc 16 r.stray }
            ∧ ∀ c', c' ≠ c → c' ∉ s.queue → t.channel c' = s.channel c')
          ∧ (r.stray = 15 → r.homed = true →
            (t.channel c).stray = 16 ∧ (t.channel c).homed = false ∧ (t.channel c).target = r.target
            ∧ (c ∉ s.queue → r.state = .settling ∨ r.state = .fault →
                t.channel c = { r with stray := 16, homed := false })
            ∧ (r.state = .queued →
                JoinedFor (t.channel c) .home ∧ (t.channel c).taken = false
                ∧ (s.supply.supply = .sag → t.queue = s.queue))
            ∧ (c ∉ s.queue → r.state = .idle →
                (t.channel c).taken = false
                ∧ (s.supply.latch = false → s.homingDue = none → r.lastOff + ms r.restMs ≤ now →
                    JoinedFor (t.channel c) .home)
                ∧ (s.supply.latch = true ∨ s.homingDue ≠ none ∨ now < r.lastOff + ms r.restMs →
                    t.channel c =
                      { r with state := .unhomed, stray := 16, homed := false, goal := none, taken := false }))))

/-- CHANNEL SILENCE TIMER EXPIRY (R92 to R95): a SEEKING channel has reached the end stop of its direction; a MOVING one has
its first stall, loses its homing and arms its retry, or with retry armed enters FAULT with its homing kept. SEEK TIMER
EXPIRY (R96, R97): whatever its retry armed mark, the channel is in FAULT at once, unhomed, and without an active goal (the
model's choice, log entry 43). A FAULT marks the zone and raises DAMPER FAULT. -/
def Obligations.StrokesEndByTheirTimers : Prop :=
  (∀ (s : State) (dt : Nat) (c : ChannelId) (d : Time), s.phase = .running → c ∉ s.queue →
      (s.channel c).silenceDue = some d → d ≤ s.now + dt →
      let cfg := s.damperCfg c
      let r := s.channel c
      let off := { r with
        goal := none, dir := none, lastOff := s.now + dt, restMs := cfg.deadMs, silenceDue := none,
        seekDue := none }
      ∃ t, exec (.channelSilenceTimerExpiry dt c) s = .next t
        ∧ (r.state = .seeking → ∀ x, r.dir = some x →
            t.channel c =
              { off with
                state := .settling, deadDue := some (s.now + dt + ms cfg.deadMs)
                count := match x with | .opening => cfg.stroke | .closing => 0
                homed := true, stray := 0, retry := if r.goal = some .home then r.retry else false }
            ∧ t.zones = s.zones ∧ t.events = s.events)
        ∧ (r.state = .moving → r.retry = false →
            t.channel c =
              { off with
                state := .settling, deadDue := some (s.now + dt + ms cfg.deadMs), homed := false, taken := false,
                retry := true }
            ∧ t.zones = s.zones ∧ t.events = s.events)
        ∧ (r.state = .moving → r.retry = true →
            t.channel c = { off with state := .fault, taken := false }
            ∧ t.zones = put s.zones c { s.zone c with damperFault := true }
            ∧ t.events = afterRaise s.events .damperFault)
        ∧ t = { s.elapse dt with
            channels := t.channels, queue := t.queue, slotLimit := t.slotLimit, zones := t.zones,
            events := t.events }
        ∧ ∀ c', c' ≠ c → c' ∉ s.queue → t.channel c' = s.channel c')
  ∧ (∀ (s : State) (dt : Nat) (c : ChannelId) (d : Time), s.phase = .running → c ∉ s.queue →
      (s.channel c).seekDue = some d → d ≤ s.now + dt →
      ∃ t, exec (.seekTimerExpiry dt c) s = .next t
        ∧ t = { s.elapse dt with
            zones := put s.zones c { s.zone c with damperFault := true }
            events := afterRaise s.events .damperFault
            channels := t.channels
            queue := t.queue
            slotLimit := t.slotLimit }
        ∧ t.channel c =
          { s.channel c with
            state := .fault, homed := false, taken := false, goal := none, dir := none, lastOff := s.now + dt,
            restMs := (s.damperCfg c).deadMs, silenceDue := none, seekDue := none }
        ∧ ∀ c', c' ≠ c → c' ∉ s.queue → t.channel c' = s.channel c')

/-- SETTLE END (R78, R92, R99): a homed channel adopts a target that it has not taken, and with nothing left to adopt becomes
IDLE; a channel that is not homed becomes UNHOMED, its target not taken (DEDUCED, log entry 17), and, when the latch is clear
and its dead time has run, joins the queue for HOME. DEAD TIME ELAPSED (R73, R82, R84, R86, R90, R96): a channel that waits
UNHOMED joins at the tail of the queue for HOME, before those that joined at this same moment with a higher number; with the
queue empty, a slot free and the supply NORMAL it is granted at once and drives CLOSE from a count set to its stroke; before
the dead time of its last drive-off has run nothing happens. Channels that come to join at one moment join lowest number first
(log entry 40, with the field joined, the model's own), and no other channel is touched. -/
def Obligations.SettledAndWaitingChannels : Prop :=
  (∀ (s : State) (dt : Nat) (c : ChannelId) (d : Time), s.phase = .running → c ∉ s.queue →
      (s.channel c).state = .settling → (s.channel c).deadDue = some d → d ≤ s.now + dt →
      ∃ t, exec (.settleEnd dt c) s = .next t
        ∧ t = { s.elapse dt with channels := t.channels, queue := t.queue, slotLimit := t.slotLimit }
        ∧ ((s.channel c).homed = true → ((s.channel c).target = none ∨ (s.channel c).taken = true) →
            t.channel c = { s.channel c with state := .idle, deadDue := none })
        ∧ ((s.channel c).homed = true → ∀ p, (s.channel c).target = some p → (s.channel c).taken = false →
            AdoptsTarget s.supply.latch (s.now + dt) (s.damperCfg c) p { s.channel c with deadDue := none } (t.channel c))
        ∧ ((s.channel c).homed = false → s.supply.latch = true →
            t.channel c = { s.channel c with state := .unhomed, deadDue := none, taken := false })
        ∧ ((s.channel c).homed = false → s.supply.latch = false → s.homingDue = none →
            (s.channel c).lastOff + ms (s.channel c).restMs ≤ s.now + dt →
            (t.channel c).goal = some .home ∧ ((t.channel c).state = .queued ∨ (t.channel c).state = .seeking))
        ∧ ∀ c', c' ≠ c → c' ∉ s.queue → c < c' ∨ ¬ComesToJoin s (s.now + dt) c' → t.channel c' = s.channel c')
  ∧ (∀ (s : State) (dt : Nat) (c : ChannelId), s.phase = .running → (s.channel c).state = .unhomed →
      s.homingDue = none → s.supply.latch = false →
      let now := s.now + dt
      let runs := (s.channel c).lastOff + ms (s.channel c).restMs ≤ now
      let alone := ∀ c', c' < c → ¬ComesToJoin s now c'
      let justJoined : ChannelId → ChannelId → Prop := fun a k => a < k ∧ (s.channel k).joined = now
      (¬runs → exec (.deadTimeElapsed dt c) s = .next (s.elapse dt))
      ∧ (runs → ∃ t, exec (.deadTimeElapsed dt c) s = .next t
        ∧ t = { s.elapse dt with channels := t.channels, queue := t.queue, slotLimit := t.slotLimit }
        ∧ (s.supply.supply = .sag → alone →
            t.channel c = { s.channel c with state := .queued, goal := some .home, joined := now }
            ∧ (∀ c', c' ≠ c → t.channel c' = s.channel c')
            ∧ ((∀ k ∈ s.queue, ¬justJoined c k) → t.queue = s.queue ++ [c])
            ∧ ∀ xs k ys, s.queue = xs ++ k :: ys → (∀ x ∈ xs, ¬justJoined c x) → justJoined c k →
                t.queue = xs ++ c :: k :: ys)
        ∧ (s.supply.supply = .sag → ∀ a, a < c → (s.channel a).state = .settling → (s.channel a).homed = false →
            (∃ d, (s.channel a).deadDue = some d ∧ d ≤ now) →
            (s.channel a).lastOff + ms (s.channel a).restMs ≤ now → (∀ k ∈ s.queue, ¬justJoined a k) →
            (∀ c', c' < c → c' ≠ a → ¬ComesToJoin s now c') → t.queue = s.queue ++ [a, c])
        ∧ (s.supply.supply = .normal → alone → s.queue = [] → s.drivingCount < s.slotLimit →
            s.drivingCount < s.profile.slots → t.queue = []
            ∧ t.channel c =
              { s.channel c with
                state := .seeking, goal := some .home, count := (s.damperCfg c).stroke, dir := some .closing,
                lastDir := some .closing, level := .full, joined := now, silenceDue := some (now + ms 600),
                seekDue := some (now + sec (s.damperCfg c).seekS) }
            ∧ ∀ c', c' ≠ c → t.channel c' = s.channel c')))

/-- START-UP HOMING JOIN (R84, R99, R102): the channels join for HOME in order of channel number; without a grant, as in SAG,
the queue holds all eight; under the shutdown latch none joins. CYCLE EXPIRY (R54, R71, R77 to R81): a computation publishes
its openings, and every channel takes its own by its state: kept pending in FAULT, unhomed and SETTLING; adopted at once
IDLE; in place QUEUED, where a goal that needs no motion leaves the queue; driving, a goal ahead replaces the old one without
a stop, and any other ends the stroke. An expiry without a computation touches no channel. A SETTLING or waiting channel
whose time has come at this very moment goes on at once (log entry 40). -/
def Obligations.ChannelsJoinAndAdopt : Prop :=
  (∀ (s : State) (dt : Nat) (d : Time), s.phase = .running → s.homingDue = some d → d ≤ s.now + dt → s.queue = [] →
    (∀ c : ChannelId, (s.channel c).state = .unhomed
      ∧ (s.channel c).lastOff + ms (s.channel c).restMs ≤ s.now + dt) →
    ∃ t, exec (.startUpHomingJoin dt) s = .next t
      ∧ t = { s.elapse dt with homingDue := none, channels := t.channels, queue := t.queue, slotLimit := t.slotLimit }
      ∧ (s.supply.latch = true → t.queue = [] ∧ t.channels = s.channels)
      ∧ (s.supply.latch = false →
          (∀ c : ChannelId, (t.channel c).goal = some .home
            ∧ ((t.channel c).state = .queued ∨ (t.channel c).state = .seeking))
          ∧ (∃ n, t.queue = (List.finRange 8).drop n)
          ∧ (s.supply.supply = .sag → t.queue = List.finRange 8)))
  ∧ (∀ (s : State) (dt : Nat) (x : Time), s.phase = .running → s.arbiter.cycleDue = some x → x ≤ s.now + dt →
    TablesHold s → HouseHolds s → DrivesHold s →
    ∃ t, exec (.cycleExpiry dt) s = .next t
      ∧ (let now := s.now + dt
         let published := (t.house.conditions = true ∧ t.arbiter.hold = false) ∨ t.house = .fan
           ∨ (s.house = .shed ∧ t.house = .shed ∧ t.command.airMode = .fan)
         (¬published → t.channels = s.channels ∧ t.queue = s.queue)
         ∧ (published → ∃ v, t.computation.openings = some v ∧ ∀ c : ChannelId,
            let r := s.channel c
            let u := t.channel c
            let cfg := s.damperCfg c
            let p := look v c
            let kept := { r with target := some p, taken := false }
            let settled := r.state = .settling ∧ ∃ e, r.deadDue = some e ∧ e ≤ now
            let g := goalFor cfg p
            let ahead := TargetMoves cfg p r.count ∧ r.dir = some (g.dirFrom r.count)
            (r.state = .fault → u = kept)
            ∧ (r.state ≠ .fault → r.homed = false → u.target = some p ∧ u.taken = false ∧ u.homed = false
                ∧ (r.state = .unhomed ∨ settled → u.state = .unhomed ∨ JoinedFor u .home)
                ∧ (r.state = .queued → JoinedFor u .home)
                ∧ (r.state ≠ .unhomed → r.state ≠ .queued → ¬settled → u = kept))
            ∧ (r.state ≠ .fault → r.homed = true →
                (r.state = .idle → AdoptsTarget s.supply.latch now cfg p r u)
                ∧ (settled → AdoptsTarget s.supply.latch now cfg p { r with deadDue := none } u)
                ∧ (r.state = .settling → ¬settled → u = kept)
                ∧ (r.state = .queued → TargetMoves cfg p r.count →
                    JoinedFor u g ∧ u.target = some p ∧ u.taken = true)
                ∧ (r.state = .queued → ¬TargetMoves cfg p r.count → c ∉ t.queue
                    ∧ u = { r with state := .idle, goal := none, target := some p, taken := true, retry := false })
                ∧ (r.dir.isSome = true → ahead → u = { r with
                    goal := some g, target := some p, taken := true
                    state := if g.isMove then .moving else .seeking
                    seekDue := if g.isMove then none
                      else if r.state = .moving then some (now + sec cfg.seekS) else r.seekDue
                    level := cfg.levelFor g r.count })
                ∧ (r.dir.isSome = true → ¬ahead → u = { r with
                    state := .settling, goal := none, target := some p, taken := false, dir := none, lastOff := now
                    restMs := cfg.deadMs, silenceDue := none, seekDue := none
                    deadDue := some (now + ms cfg.deadMs) })))))

/-! ### Curtailment -/

/-- CURTAIL INPUT ASSERTED, COUNTED PULSE, PULSE SPOILED and CURTAIL INPUT AT REST (R168, R169): an assertion opens a pulse;
at 50 ms it belongs to the train, at more than 500 ms it spoils it; and an assertion of 50 to 500 ms that began the train
or followed a gap of at most 1 s is counted at its end, with the gap timer started; a longer one spoils the train, is not
counted, and starts the gap timer too. A shorter one is a glitch: the decoder is back in QUIET or in GAP, where a train whose
2 s have passed ends as by TRAIN END. In WAIT REST an assertion that ends gives QUIET. Where the manual says more than 500 ms
and no unit of time, the model takes one tick more, and 50 ms and 500 ms to the tick count (the model's choice, log entry
39); an assertion that begins as the gap timer reaches 2 s, before TRAIN END, stays in the train (log entry 46). -/
def Obligations.PulsesFormATrain : Prop :=
  ∀ (s : State) (dt : Nat), s.phase = .running →
    let d := s.decoder
    let now := s.now + dt
    (d.pin = false → d.train = .quiet ∨ d.train = .gap →
      exec (.curtailInputAsserted dt) s = .next
        { s.elapse dt with decoder := { d with pin := true, train := .pulse, pulseStart := some now, reached := false } })
    ∧ (∀ p, d.train = .pulse → d.pulseStart = some p → d.reached = false → p + ms 50 ≤ now →
      exec (.countedPulse dt) s = .next
        { s.elapse dt with
          decoder := { d with
            reached := true
            pulses := if d.gapStart = none then 0 else d.pulses
            spoiled := if d.gapStart = none then false else d.spoiled || d.gapTooLong } })
    ∧ (∀ p, d.train = .pulse → d.pulseStart = some p → d.reached = true → p + ms 500 < now →
      exec (.pulseSpoiled dt) s = .next { s.elapse dt with decoder := { d with spoiled := true } })
    ∧ (∀ p, d.pin = true → d.train = .pulse → d.pulseStart = some p → d.reached = true → p + ms 50 ≤ now →
      now ≤ p + ms 500 →
      exec (.curtailInputAtRest dt) s = .next
        { s.elapse dt with
          decoder := { d with
            pin := false, train := .gap, pulses := satInc 255 d.pulses, pulseStart := none, reached := false,
            gapStart := some now } })
    ∧ (∀ p, d.pin = true → d.train = .pulse → d.pulseStart = some p → d.reached = true → p + ms 500 < now →
      exec (.curtailInputAtRest dt) s = .next
        { s.elapse dt with
          decoder := { d with
            pin := false, train := .gap, spoiled := true, pulseStart := none, reached := false, gapStart := some now } })
    ∧ (∀ p, d.pin = true → d.train = .pulse → d.pulseStart = some p → now < p + ms 50 →
      (d.gapStart = none → exec (.curtailInputAtRest dt) s = .next
        { s.elapse dt with decoder := { d with pin := false, train := .quiet, pulseStart := none, reached := false } })
      ∧ ∀ g, d.gapStart = some g →
        let back : Decoder := { d with pin := false, train := .gap, pulseStart := none, reached := false }
        (now < g + sec 2 → exec (.curtailInputAtRest dt) s = .next { s.elapse dt with decoder := back })
        ∧ (g + sec 2 ≤ now → exec (.curtailInputAtRest dt) s = exec (.trainEnd dt) { s with decoder := back }))
    ∧ (d.pin = true → d.train = .waitRest →
      exec (.curtailInputAtRest dt) s = .next
        { s.elapse dt with decoder := { d with pin := false, train := .quiet } })

/-- TRAIN END (R169 to R173): 3, 5, 7 and 9 unspoiled pulses order LEVEL 1, LEVEL 2, LEVEL 3 and RELEASE, start or stop the
hold, and write the retained area; a new level raises CURTAIL CHANGE and leaves no compressor state with a capacity above the
new cap; a cap below the bound Cmin brings SHED from every state but HALT and UNCOMMISSIONED (R46), and one at Cmin or above
ends it (R47). Any other train counts as invalid and changes nothing but the decoder. HOLD TIMER EXPIRY (R171 to R173): the
level becomes RELEASE, the timer is stopped, the retained area follows, and a level that stood raises CURTAIL CHANGE; a house
in SHED leaves it for IDLE with both nodes OFF. -/
def Obligations.TrainsAndHoldSetTheLevel : Prop :=
  (∀ (s : State) (dt : Nat) (g : Time), s.phase = .running → s.decoder.train = .gap → s.decoder.gapStart = some g →
      g + sec 2 ≤ s.now + dt →
      let d := s.decoder
      let ended : TrainOutcome → Decoder := fun o =>
        { d with train := .quiet, pulses := 0, spoiled := false, gapStart := none, lastTrain := some (d.pulses, o) }
      (∀ l : CurtailLevel, d.spoiled = false → (d.pulses, l) ∈ [(3, .level1), (5, .level2), (7, .level3), (9, .release)] →
        ∃ t, exec (.trainEnd dt) s = .next t
          ∧ t.decoder = { ended (.valid l) with
              level := l
              holdDue := if l = .release then none else some (s.now + dt + sec (60 * s.profile.holdMin)) }
          ∧ t.retained = { s.retained with
              level := l, holdLeft := if l = .release then 0 else max 1 (60 * s.profile.holdMin) }
          ∧ (l = d.level → t = { s.elapse dt with decoder := t.decoder, retained := t.retained })
          ∧ (l ≠ d.level → marked t.events.raised .curtailChange = true
              ∧ (t.house.compressor = true → t.command.capacity ≤ l.cap)
              ∧ (∀ c, s.cmin = some c → l.cap < c → s.house ≠ .uncommissioned → s.house ≠ .halt → s.house ≠ .shed →
                  EntersShed s t (s.now + dt))
              ∧ ((∀ c, s.cmin = some c → c ≤ l.cap) → s.house = .shed → t.house = .idle ∧ t.command = commandOff))
          ∧ t = { s.elapse dt with
              decoder := t.decoder, retained := t.retained, arbiter := t.arbiter,
              command := t.command, links := t.links, relay := t.relay, events := t.events })
      ∧ ((d.spoiled = true ∨ d.pulses ∉ [3, 5, 7, 9]) →
        exec (.trainEnd dt) s = .next
          { s.elapse dt with
            decoder := { ended .invalid with invalidTrains := satInc 65535 d.invalidTrains } }))
  ∧ (∀ (s : State) (dt : Nat) (h : Time), s.phase = .running → s.decoder.holdDue = some h → h ≤ s.now + dt →
      s.decoder.level ≠ .release →
      (∀ c, s.cmin = some c → c ≤ 100) →
      ∃ t, exec (.holdTimerExpiry dt) s = .next t
        ∧ t.decoder = { s.decoder with level := .release, holdDue := none }
        ∧ t.retained = { s.retained with level := .release, holdLeft := 0 }
        ∧ marked t.events.raised .curtailChange = true
        ∧ (s.house = .shed → t.house = .idle ∧ t.command = commandOff)
        ∧ (s.house ≠ .shed → s.command.capacity ≤ 100 →
            t = { s.elapse dt with
              decoder := t.decoder, retained := t.retained,
              events := afterRaise s.events .curtailChange })
        ∧ t = { s.elapse dt with
            decoder := t.decoder, retained := t.retained, arbiter := t.arbiter,
            command := t.command, links := t.links, relay := t.relay, events := t.events })

/-! ### Supply, resets, shutdown and the store -/

/-- SAG ENTRY and SAG EXIT (R84, R101, R174 to R176): SAG raises SUPPLY SAG; NORMAL lets the drives grant again from the head
of the queue. Neither reaches any other block. In SAG no command makes a channel drive that did not. In a hold in reset the
supply state alone changes, and the 100 ms above the start level begin anew. The field holdFrom, from which these 100 ms
count, is the model's own: that a finding of SAG moves it is DEDUCED (log entry 20), and that at the exit it may lie up to 1
ms before the finding is the model's choice (log entry 28). -/
def Obligations.SagIsFollowed : Prop :=
  (∀ (s : State) (dt : Nat), s.phase = .running →
    (s.supply.supply = .normal → exec (.sagEntry dt) s = .next
      { s.elapse dt with
        supply := { s.supply with supply := .sag, holdFrom := max s.supply.holdFrom (s.now + dt) }
        events := afterRaise s.events .supplySag })
    ∧ (s.supply.supply = .sag → ∃ t, exec (.sagExit dt) s = .next t
      ∧ t = { s.elapse dt with
          supply := { s.supply with supply := .normal, holdFrom := t.supply.holdFrom }
          channels := t.channels
          queue := t.queue
          slotLimit := t.slotLimit }
      ∧ (∀ c, c ∉ s.queue → t.channel c = s.channel c)
      ∧ (∀ c rest, s.queue = c :: rest → (s.channel c).goal = some .home → s.supply.latch = false →
          s.drivingCount < s.slotLimit → s.drivingCount < s.profile.slots → c ∉ rest →
          (t.channel c).state = .seeking ∧ (t.channel c).dir = some .closing ∧ c ∉ t.queue)))
  ∧ (∀ (i : Instr) (s t : State), s.supply.supply = .sag → exec i s = .next t → t.supply.supply = .sag →
      ∀ c : ChannelId, (t.channel c).driving = true → (s.channel c).driving = true)
  ∧ (∀ (s : State) (dt : Nat), s.phase ≠ .running →
    (s.supply.supply = .normal → exec (.sagEntry dt) s = .next
      { s.elapse dt with
        supply := { s.supply with supply := .sag, holdFrom := max s.supply.holdFrom (s.now + dt) } })
    ∧ (s.supply.supply = .sag → ∃ x, s.supply.holdFrom ≤ x ∧ s.now + dt ≤ x + ms 1 ∧ exec (.sagExit dt) s = .next
      { s.elapse dt with supply := { s.supply with supply := .normal, holdFrom := x } }))

/-- DROPOUT RESET and POWER-ON RESET (R173, R176 to R178, R188): every block takes its reset values; the retained area keeps
the curtail level and the time left and takes the cause; a save under way leaves the image not good; the inputs stay as they
stand (DEDUCED, log entry 11); until the load the default tables, the slot limit 2 (log entry 44) and the store state DEFAULTS
(log entry 10) are the model's choice. START UP (R174, R176, R178, R179): after 100 ms in reset, above the start level and in
NORMAL, and unless the reset was a line reset after 100 ms above it without a break; a retained area whose check fails, or
that follows a power-on reset, is cleared; a good image gives its tables and the store state VALID, any other the defaults and
DEFAULTS. -/
def Obligations.ResetsAndStartUp : Prop :=
  (∀ (s : State) (dt : Nat),
      let area : ResetCause → Retained := fun c =>
        if s.phase = .running then ⟨s.decoder.level, s.decoder.holdLeft (s.now + dt), c⟩
        else { s.retained with cause := c }
      let image := if s.storeState = .saving then { s.store with checkGood := false } else s.store
      let after : ResetCause → State := fun c =>
        State.blank (s.now + dt) s.pending s.supply.supply s.supply.input s.decoder.pin (area c) image
      exec (.dropoutReset dt) s = .next (after .dropout) ∧ exec (.powerOnReset dt) s = .next (after .powerOn))
  ∧ (∀ (s : State) (dt above : Nat) (good : Bool),
      let ends := s.phase = .held ∧ s.resetAt + ms 100 ≤ s.now + dt ∧ s.supply.supply = .normal
        ∧ (s.retained.cause = .line → 0 < above)
        ∧ (s.retained.cause ≠ .line → ms 100 ≤ above ∧ s.supply.holdFrom + ms 100 ≤ s.now + dt)
      let fine := s.store.markGood = true ∧ s.store.checkGood = true ∧ s.store.tables.valid = true
      (¬ends → exec (.startUp ⟨dt, above⟩ good) s = .next (s.elapse dt))
      ∧ (ends → ∃ t, exec (.startUp ⟨dt, above⟩ good) s = .next t
        ∧ t = { s.elapse dt with
            phase := .loading, retained := t.retained, tables := t.tables, storeState := t.storeState }
        ∧ (good = true → s.retained.cause ≠ .powerOn → t.retained = s.retained)
        ∧ (good = false ∨ s.retained.cause = .powerOn → t.retained = ⟨.release, 0, .powerOn⟩)
        ∧ (fine → t.tables = s.store.tables ∧ t.storeState = .valid)
        ∧ (¬fine → t.tables = defaultTables ∧ t.storeState = .defaults)))

/-- START-UP COMPLETION (R4, R23, R28, R31, R85, R102, R115, R167, R173, R180, R182): the part runs; the house state follows
the store and the shutdown input; every zone has its stored setpoints and its status; the level is the retained one; the
events are RESTART and the conditions that hold; the cycle begins, and the plant round with its first slot in which a frame
goes out. -/
def Obligations.StartUpCompletes : Prop :=
  ∀ (s : State) (dt : Nat), s.phase = .loading →
    let now := s.now + dt
    let latch := s.supply.input = .asserted
    let sends : Node → Prop := fun n =>
      (s.link n).state ≠ .down ∨ ∀ w, s.plant.lastWake.get n = some w → w + sec 2 ≤ now
    ∃ t, exec (.startUpCompletion dt) s = .next t
      ∧ t = { s.elapse dt with
          phase := .running, supply := t.supply, arbiter := t.arbiter, zones := t.zones, slotLimit := s.profile.slots,
          decoder := t.decoder, retained := t.retained, events := t.events
          homingDue := if latch then none else some (max now (s.resetAt + sec 2))
          channels := t.channels
          room := { s.room with dueSince := now }
          plant := { s.plant with roundDue := some (now + ms 500), slot := t.plant.slot, dueSince := now } }
      ∧ (sends .airHandler → t.plant.slot = .airHandler)
      ∧ (¬sends .airHandler → sends .outdoorUnit → t.plant.slot = .outdoorUnit)
      ∧ (¬sends .airHandler → ¬sends .outdoorUnit →
          (t.plant.slot = .query ∨ t.plant.slot = .over)
          ∧ (t.plant.slot = .query ↔
            ∃ e ∈ s.relay.entries, e.state = .waiting ∧ s.relay.onLine ≠ some e.tag))
      ∧ (∀ c : ChannelId, t.channel c = { s.channel c with restMs := (s.damperCfg c).deadMs })
      ∧ t.supply = { s.supply with latch := decide latch }
      ∧ t.house = (if s.storeState = .valid then (if latch then .halt else .idle) else .uncommissioned)
      ∧ t.arbiter.cycleDue = some (now + sec s.profile.cycle) ∧ t.arbiter.restStart = some now
      ∧ t.arbiter.runStart = none ∧ t.arbiter.lastRun = none ∧ t.arbiter.pendingTarget = none
      ∧ (∀ z : ZoneId, (t.zone z).sh = (s.zoneCfg z).shSt ∧ (t.zone z).sc = (s.zoneCfg z).scSt
          ∧ (t.zone z).hd = (s.zoneCfg z).hdSt ∧ (t.zone z).call = .none ∧ (t.zone z).confirmed = false
          ∧ (t.zone z).switchOn = true
          ∧ ((t.zone z).loss = if s.hasSource z then .running (now + sec 60) else .stopped)
          ∧ (look s.computation.spill z = false → (t.zone z).status =
            if (s.zoneCfg z).enabled = false then .disabled else if s.hasSource z then .satisfied else .noSource))
      ∧ t.decoder.level = s.retained.level
      ∧ t.decoder.holdDue =
        (if s.retained.level = .release then none else some (now + sec s.retained.holdLeft))
      ∧ t.decoder.train = (if s.decoder.pin = true then .waitRest else .quiet)
      ∧ ((s.retained.level = .release ↔ s.retained.holdLeft = 0) → t.retained = s.retained)
      ∧ (∀ e : Event, marked t.events.raised e =
          (decide (e = .restart) || (decide (e = .shutdown) && decide latch)
            || (decide (e = .supplySag) && decide (s.supply.supply = .sag))))
      ∧ t.events.undelivered = t.events.raised ∧ t.events.offer = none

/-- SHUTDOWN INPUT ASSERTED and SHUTDOWN INPUT RELEASED (R48, R99, R181): the latch sets, SHUTDOWN is raised, a commissioned
house enters HALT with both nodes OFF, every drive output is off and the queue empty; with the latch set already, or at the
release of the input, only the input state changes. -/
def Obligations.ShutdownInputSetsTheLatch : Prop :=
  ∀ (s : State) (dt : Nat), s.phase = .running →
    (s.supply.latch = false → ∃ t, exec (.shutdownInputAsserted dt) s = .next t
      ∧ t.supply = { s.supply with input := .asserted, latch := true }
      ∧ marked t.events.raised .shutdown = true
      ∧ (s.house ≠ .uncommissioned → t.house = .halt ∧ t.command = commandOff ∧ t.arbiter.pendingTarget = none)
      ∧ (s.house = .uncommissioned → t.arbiter = s.arbiter ∧ t.command = s.command)
      ∧ t.queue = []
      ∧ (∀ c : ChannelId, (t.channel c).driving = false ∧ (t.channel c).state ≠ .queued
          ∧ ((s.channel c).driving = true → (t.channel c).state = .settling ∧ (t.channel c).dir = none
              ∧ (t.channel c).lastOff = s.now + dt ∧ (t.channel c).homed = (s.channel c).homed
              ∧ (t.channel c).target = (s.channel c).target ∧ (t.channel c).taken = false))
      ∧ t = { s.elapse dt with
          supply := t.supply, arbiter := t.arbiter, command := t.command, channels := t.channels,
          queue := t.queue, slotLimit := t.slotLimit, links := t.links, relay := t.relay, events := t.events })
    ∧ (s.supply.latch = true → exec (.shutdownInputAsserted dt) s = .next
      { s.elapse dt with supply := { s.supply with input := .asserted } })
    ∧ exec (.shutdownInputReleased dt) s = .next
      { s.elapse dt with supply := { s.supply with input := .released } }
end

