-- ==== Sys2Proof/Laws/State.lean ====
section
/-! SUPPORT. What each named write of State does to each field: one lemma for each field and each write, true by rfl, and the reads
after writes of the fixed-size tables. -/

namespace Sys2Proof.Machine

@[simp] theorem State.elapse_now (s : State) (dt : Nat) : (s.elapse dt).now = s.now + dt := rfl
@[simp] theorem State.elapse_pending (s : State) (dt : Nat) : (s.elapse dt).pending = s.pending := rfl
@[simp] theorem State.elapse_phase (s : State) (dt : Nat) : (s.elapse dt).phase = s.phase := rfl
@[simp] theorem State.elapse_resetAt (s : State) (dt : Nat) : (s.elapse dt).resetAt = s.resetAt := rfl
@[simp] theorem State.elapse_supply (s : State) (dt : Nat) : (s.elapse dt).supply = s.supply := rfl
@[simp] theorem State.elapse_retained (s : State) (dt : Nat) : (s.elapse dt).retained = s.areaAt (s.now + dt) := rfl
@[simp] theorem State.elapse_store (s : State) (dt : Nat) : (s.elapse dt).store = s.store := rfl
@[simp] theorem State.elapse_storeState (s : State) (dt : Nat) : (s.elapse dt).storeState = s.storeState := rfl
@[simp] theorem State.elapse_saving (s : State) (dt : Nat) : (s.elapse dt).saving = s.saving := rfl
@[simp] theorem State.elapse_tables (s : State) (dt : Nat) : (s.elapse dt).tables = s.tables := rfl
@[simp] theorem State.elapse_routes (s : State) (dt : Nat) : (s.elapse dt).routes = s.routes := rfl
@[simp] theorem State.elapse_serviceHeld (s : State) (dt : Nat) : (s.elapse dt).serviceHeld = s.serviceHeld := rfl
@[simp] theorem State.elapse_zones (s : State) (dt : Nat) : (s.elapse dt).zones = s.zones := rfl
@[simp] theorem State.elapse_arbiter (s : State) (dt : Nat) : (s.elapse dt).arbiter = s.arbiter := rfl
@[simp] theorem State.elapse_command (s : State) (dt : Nat) : (s.elapse dt).command = s.command := rfl
@[simp] theorem State.elapse_computation (s : State) (dt : Nat) : (s.elapse dt).computation = s.computation := rfl
@[simp] theorem State.elapse_channels (s : State) (dt : Nat) : (s.elapse dt).channels = s.channels := rfl
@[simp] theorem State.elapse_queue (s : State) (dt : Nat) : (s.elapse dt).queue = s.queue := rfl
@[simp] theorem State.elapse_slotLimit (s : State) (dt : Nat) : (s.elapse dt).slotLimit = s.slotLimit := rfl
@[simp] theorem State.elapse_homingDue (s : State) (dt : Nat) : (s.elapse dt).homingDue = s.homingDue := rfl
@[simp] theorem State.elapse_links (s : State) (dt : Nat) : (s.elapse dt).links = s.links := rfl
@[simp] theorem State.elapse_room (s : State) (dt : Nat) : (s.elapse dt).room = s.room := rfl
@[simp] theorem State.elapse_plant (s : State) (dt : Nat) : (s.elapse dt).plant = s.plant := rfl
@[simp] theorem State.elapse_relay (s : State) (dt : Nat) : (s.elapse dt).relay = s.relay := rfl
@[simp] theorem State.elapse_decoder (s : State) (dt : Nat) : (s.elapse dt).decoder = s.decoder := rfl
@[simp] theorem State.elapse_events (s : State) (dt : Nat) : (s.elapse dt).events = s.events := rfl

@[simp] theorem State.setRoute_now (s : State) (i : RouteId) (r : RouteRun) : (s.setRoute i r).now = s.now := rfl
@[simp] theorem State.setRoute_pending (s : State) (i : RouteId) (r : RouteRun) : (s.setRoute i r).pending = s.pending := rfl
@[simp] theorem State.setRoute_phase (s : State) (i : RouteId) (r : RouteRun) : (s.setRoute i r).phase = s.phase := rfl
@[simp] theorem State.setRoute_resetAt (s : State) (i : RouteId) (r : RouteRun) : (s.setRoute i r).resetAt = s.resetAt := rfl
@[simp] theorem State.setRoute_supply (s : State) (i : RouteId) (r : RouteRun) : (s.setRoute i r).supply = s.supply := rfl
@[simp] theorem State.setRoute_retained (s : State) (i : RouteId) (r : RouteRun) : (s.setRoute i r).retained = s.retained := rfl
@[simp] theorem State.setRoute_store (s : State) (i : RouteId) (r : RouteRun) : (s.setRoute i r).store = s.store := rfl
@[simp] theorem State.setRoute_storeState (s : State) (i : RouteId) (r : RouteRun) : (s.setRoute i r).storeState = s.storeState := rfl
@[simp] theorem State.setRoute_saving (s : State) (i : RouteId) (r : RouteRun) : (s.setRoute i r).saving = s.saving := rfl
@[simp] theorem State.setRoute_tables (s : State) (i : RouteId) (r : RouteRun) : (s.setRoute i r).tables = s.tables := rfl
@[simp] theorem State.setRoute_routes (s : State) (i : RouteId) (r : RouteRun) : (s.setRoute i r).routes = put s.routes i r := rfl
@[simp] theorem State.setRoute_serviceHeld (s : State) (i : RouteId) (r : RouteRun) : (s.setRoute i r).serviceHeld = s.serviceHeld := rfl
@[simp] theorem State.setRoute_zones (s : State) (i : RouteId) (r : RouteRun) : (s.setRoute i r).zones = s.zones := rfl
@[simp] theorem State.setRoute_arbiter (s : State) (i : RouteId) (r : RouteRun) : (s.setRoute i r).arbiter = s.arbiter := rfl
@[simp] theorem State.setRoute_command (s : State) (i : RouteId) (r : RouteRun) : (s.setRoute i r).command = s.command := rfl
@[simp] theorem State.setRoute_computation (s : State) (i : RouteId) (r : RouteRun) : (s.setRoute i r).computation = s.computation := rfl
@[simp] theorem State.setRoute_channels (s : State) (i : RouteId) (r : RouteRun) : (s.setRoute i r).channels = s.channels := rfl
@[simp] theorem State.setRoute_queue (s : State) (i : RouteId) (r : RouteRun) : (s.setRoute i r).queue = s.queue := rfl
@[simp] theorem State.setRoute_slotLimit (s : State) (i : RouteId) (r : RouteRun) : (s.setRoute i r).slotLimit = s.slotLimit := rfl
@[simp] theorem State.setRoute_homingDue (s : State) (i : RouteId) (r : RouteRun) : (s.setRoute i r).homingDue = s.homingDue := rfl
@[simp] theorem State.setRoute_links (s : State) (i : RouteId) (r : RouteRun) : (s.setRoute i r).links = s.links := rfl
@[simp] theorem State.setRoute_room (s : State) (i : RouteId) (r : RouteRun) : (s.setRoute i r).room = s.room := rfl
@[simp] theorem State.setRoute_plant (s : State) (i : RouteId) (r : RouteRun) : (s.setRoute i r).plant = s.plant := rfl
@[simp] theorem State.setRoute_relay (s : State) (i : RouteId) (r : RouteRun) : (s.setRoute i r).relay = s.relay := rfl
@[simp] theorem State.setRoute_decoder (s : State) (i : RouteId) (r : RouteRun) : (s.setRoute i r).decoder = s.decoder := rfl
@[simp] theorem State.setRoute_events (s : State) (i : RouteId) (r : RouteRun) : (s.setRoute i r).events = s.events := rfl

@[simp] theorem State.setZone_now (s : State) (z : ZoneId) (r : ZoneRun) : (s.setZone z r).now = s.now := rfl
@[simp] theorem State.setZone_pending (s : State) (z : ZoneId) (r : ZoneRun) : (s.setZone z r).pending = s.pending := rfl
@[simp] theorem State.setZone_phase (s : State) (z : ZoneId) (r : ZoneRun) : (s.setZone z r).phase = s.phase := rfl
@[simp] theorem State.setZone_resetAt (s : State) (z : ZoneId) (r : ZoneRun) : (s.setZone z r).resetAt = s.resetAt := rfl
@[simp] theorem State.setZone_supply (s : State) (z : ZoneId) (r : ZoneRun) : (s.setZone z r).supply = s.supply := rfl
@[simp] theorem State.setZone_retained (s : State) (z : ZoneId) (r : ZoneRun) : (s.setZone z r).retained = s.retained := rfl
@[simp] theorem State.setZone_store (s : State) (z : ZoneId) (r : ZoneRun) : (s.setZone z r).store = s.store := rfl
@[simp] theorem State.setZone_storeState (s : State) (z : ZoneId) (r : ZoneRun) : (s.setZone z r).storeState = s.storeState := rfl
@[simp] theorem State.setZone_saving (s : State) (z : ZoneId) (r : ZoneRun) : (s.setZone z r).saving = s.saving := rfl
@[simp] theorem State.setZone_tables (s : State) (z : ZoneId) (r : ZoneRun) : (s.setZone z r).tables = s.tables := rfl
@[simp] theorem State.setZone_routes (s : State) (z : ZoneId) (r : ZoneRun) : (s.setZone z r).routes = s.routes := rfl
@[simp] theorem State.setZone_serviceHeld (s : State) (z : ZoneId) (r : ZoneRun) : (s.setZone z r).serviceHeld = s.serviceHeld := rfl
@[simp] theorem State.setZone_zones (s : State) (z : ZoneId) (r : ZoneRun) : (s.setZone z r).zones = put s.zones z r := rfl
@[simp] theorem State.setZone_arbiter (s : State) (z : ZoneId) (r : ZoneRun) : (s.setZone z r).arbiter = s.arbiter := rfl
@[simp] theorem State.setZone_command (s : State) (z : ZoneId) (r : ZoneRun) : (s.setZone z r).command = s.command := rfl
@[simp] theorem State.setZone_computation (s : State) (z : ZoneId) (r : ZoneRun) : (s.setZone z r).computation = s.computation := rfl
@[simp] theorem State.setZone_channels (s : State) (z : ZoneId) (r : ZoneRun) : (s.setZone z r).channels = s.channels := rfl
@[simp] theorem State.setZone_queue (s : State) (z : ZoneId) (r : ZoneRun) : (s.setZone z r).queue = s.queue := rfl
@[simp] theorem State.setZone_slotLimit (s : State) (z : ZoneId) (r : ZoneRun) : (s.setZone z r).slotLimit = s.slotLimit := rfl
@[simp] theorem State.setZone_homingDue (s : State) (z : ZoneId) (r : ZoneRun) : (s.setZone z r).homingDue = s.homingDue := rfl
@[simp] theorem State.setZone_links (s : State) (z : ZoneId) (r : ZoneRun) : (s.setZone z r).links = s.links := rfl
@[simp] theorem State.setZone_room (s : State) (z : ZoneId) (r : ZoneRun) : (s.setZone z r).room = s.room := rfl
@[simp] theorem State.setZone_plant (s : State) (z : ZoneId) (r : ZoneRun) : (s.setZone z r).plant = s.plant := rfl
@[simp] theorem State.setZone_relay (s : State) (z : ZoneId) (r : ZoneRun) : (s.setZone z r).relay = s.relay := rfl
@[simp] theorem State.setZone_decoder (s : State) (z : ZoneId) (r : ZoneRun) : (s.setZone z r).decoder = s.decoder := rfl
@[simp] theorem State.setZone_events (s : State) (z : ZoneId) (r : ZoneRun) : (s.setZone z r).events = s.events := rfl

@[simp] theorem State.setChannel_now (s : State) (c : ChannelId) (r : Channel) : (s.setChannel c r).now = s.now := rfl
@[simp] theorem State.setChannel_pending (s : State) (c : ChannelId) (r : Channel) : (s.setChannel c r).pending = s.pending := rfl
@[simp] theorem State.setChannel_phase (s : State) (c : ChannelId) (r : Channel) : (s.setChannel c r).phase = s.phase := rfl
@[simp] theorem State.setChannel_resetAt (s : State) (c : ChannelId) (r : Channel) : (s.setChannel c r).resetAt = s.resetAt := rfl
@[simp] theorem State.setChannel_supply (s : State) (c : ChannelId) (r : Channel) : (s.setChannel c r).supply = s.supply := rfl
@[simp] theorem State.setChannel_retained (s : State) (c : ChannelId) (r : Channel) : (s.setChannel c r).retained = s.retained := rfl
@[simp] theorem State.setChannel_store (s : State) (c : ChannelId) (r : Channel) : (s.setChannel c r).store = s.store := rfl
@[simp] theorem State.setChannel_storeState (s : State) (c : ChannelId) (r : Channel) : (s.setChannel c r).storeState = s.storeState := rfl
@[simp] theorem State.setChannel_saving (s : State) (c : ChannelId) (r : Channel) : (s.setChannel c r).saving = s.saving := rfl
@[simp] theorem State.setChannel_tables (s : State) (c : ChannelId) (r : Channel) : (s.setChannel c r).tables = s.tables := rfl
@[simp] theorem State.setChannel_routes (s : State) (c : ChannelId) (r : Channel) : (s.setChannel c r).routes = s.routes := rfl
@[simp] theorem State.setChannel_serviceHeld (s : State) (c : ChannelId) (r : Channel) : (s.setChannel c r).serviceHeld = s.serviceHeld := rfl
@[simp] theorem State.setChannel_zones (s : State) (c : ChannelId) (r : Channel) : (s.setChannel c r).zones = s.zones := rfl
@[simp] theorem State.setChannel_arbiter (s : State) (c : ChannelId) (r : Channel) : (s.setChannel c r).arbiter = s.arbiter := rfl
@[simp] theorem State.setChannel_command (s : State) (c : ChannelId) (r : Channel) : (s.setChannel c r).command = s.command := rfl
@[simp] theorem State.setChannel_computation (s : State) (c : ChannelId) (r : Channel) : (s.setChannel c r).computation = s.computation := rfl
@[simp] theorem State.setChannel_channels (s : State) (c : ChannelId) (r : Channel) : (s.setChannel c r).channels = put s.channels c r := rfl
@[simp] theorem State.setChannel_queue (s : State) (c : ChannelId) (r : Channel) : (s.setChannel c r).queue = s.queue := rfl
@[simp] theorem State.setChannel_slotLimit (s : State) (c : ChannelId) (r : Channel) : (s.setChannel c r).slotLimit = s.slotLimit := rfl
@[simp] theorem State.setChannel_homingDue (s : State) (c : ChannelId) (r : Channel) : (s.setChannel c r).homingDue = s.homingDue := rfl
@[simp] theorem State.setChannel_links (s : State) (c : ChannelId) (r : Channel) : (s.setChannel c r).links = s.links := rfl
@[simp] theorem State.setChannel_room (s : State) (c : ChannelId) (r : Channel) : (s.setChannel c r).room = s.room := rfl
@[simp] theorem State.setChannel_plant (s : State) (c : ChannelId) (r : Channel) : (s.setChannel c r).plant = s.plant := rfl
@[simp] theorem State.setChannel_relay (s : State) (c : ChannelId) (r : Channel) : (s.setChannel c r).relay = s.relay := rfl
@[simp] theorem State.setChannel_decoder (s : State) (c : ChannelId) (r : Channel) : (s.setChannel c r).decoder = s.decoder := rfl
@[simp] theorem State.setChannel_events (s : State) (c : ChannelId) (r : Channel) : (s.setChannel c r).events = s.events := rfl

@[simp] theorem State.setLink_now (s : State) (n : Node) (l : Link) : (s.setLink n l).now = s.now := rfl
@[simp] theorem State.setLink_pending (s : State) (n : Node) (l : Link) : (s.setLink n l).pending = s.pending := rfl
@[simp] theorem State.setLink_phase (s : State) (n : Node) (l : Link) : (s.setLink n l).phase = s.phase := rfl
@[simp] theorem State.setLink_resetAt (s : State) (n : Node) (l : Link) : (s.setLink n l).resetAt = s.resetAt := rfl
@[simp] theorem State.setLink_supply (s : State) (n : Node) (l : Link) : (s.setLink n l).supply = s.supply := rfl
@[simp] theorem State.setLink_retained (s : State) (n : Node) (l : Link) : (s.setLink n l).retained = s.retained := rfl
@[simp] theorem State.setLink_store (s : State) (n : Node) (l : Link) : (s.setLink n l).store = s.store := rfl
@[simp] theorem State.setLink_storeState (s : State) (n : Node) (l : Link) : (s.setLink n l).storeState = s.storeState := rfl
@[simp] theorem State.setLink_saving (s : State) (n : Node) (l : Link) : (s.setLink n l).saving = s.saving := rfl
@[simp] theorem State.setLink_tables (s : State) (n : Node) (l : Link) : (s.setLink n l).tables = s.tables := rfl
@[simp] theorem State.setLink_routes (s : State) (n : Node) (l : Link) : (s.setLink n l).routes = s.routes := rfl
@[simp] theorem State.setLink_serviceHeld (s : State) (n : Node) (l : Link) : (s.setLink n l).serviceHeld = s.serviceHeld := rfl
@[simp] theorem State.setLink_zones (s : State) (n : Node) (l : Link) : (s.setLink n l).zones = s.zones := rfl
@[simp] theorem State.setLink_arbiter (s : State) (n : Node) (l : Link) : (s.setLink n l).arbiter = s.arbiter := rfl
@[simp] theorem State.setLink_command (s : State) (n : Node) (l : Link) : (s.setLink n l).command = s.command := rfl
@[simp] theorem State.setLink_computation (s : State) (n : Node) (l : Link) : (s.setLink n l).computation = s.computation := rfl
@[simp] theorem State.setLink_channels (s : State) (n : Node) (l : Link) : (s.setLink n l).channels = s.channels := rfl
@[simp] theorem State.setLink_queue (s : State) (n : Node) (l : Link) : (s.setLink n l).queue = s.queue := rfl
@[simp] theorem State.setLink_slotLimit (s : State) (n : Node) (l : Link) : (s.setLink n l).slotLimit = s.slotLimit := rfl
@[simp] theorem State.setLink_homingDue (s : State) (n : Node) (l : Link) : (s.setLink n l).homingDue = s.homingDue := rfl
@[simp] theorem State.setLink_links (s : State) (n : Node) (l : Link) : (s.setLink n l).links = s.links.set n l := rfl
@[simp] theorem State.setLink_room (s : State) (n : Node) (l : Link) : (s.setLink n l).room = s.room := rfl
@[simp] theorem State.setLink_plant (s : State) (n : Node) (l : Link) : (s.setLink n l).plant = s.plant := rfl
@[simp] theorem State.setLink_relay (s : State) (n : Node) (l : Link) : (s.setLink n l).relay = s.relay := rfl
@[simp] theorem State.setLink_decoder (s : State) (n : Node) (l : Link) : (s.setLink n l).decoder = s.decoder := rfl
@[simp] theorem State.setLink_events (s : State) (n : Node) (l : Link) : (s.setLink n l).events = s.events := rfl

@[simp] theorem State.setArbiter_now (s : State) (a : Arbiter) : (s.setArbiter a).now = s.now := rfl
@[simp] theorem State.setArbiter_pending (s : State) (a : Arbiter) : (s.setArbiter a).pending = s.pending := rfl
@[simp] theorem State.setArbiter_phase (s : State) (a : Arbiter) : (s.setArbiter a).phase = s.phase := rfl
@[simp] theorem State.setArbiter_resetAt (s : State) (a : Arbiter) : (s.setArbiter a).resetAt = s.resetAt := rfl
@[simp] theorem State.setArbiter_supply (s : State) (a : Arbiter) : (s.setArbiter a).supply = s.supply := rfl
@[simp] theorem State.setArbiter_retained (s : State) (a : Arbiter) : (s.setArbiter a).retained = s.retained := rfl
@[simp] theorem State.setArbiter_store (s : State) (a : Arbiter) : (s.setArbiter a).store = s.store := rfl
@[simp] theorem State.setArbiter_storeState (s : State) (a : Arbiter) : (s.setArbiter a).storeState = s.storeState := rfl
@[simp] theorem State.setArbiter_saving (s : State) (a : Arbiter) : (s.setArbiter a).saving = s.saving := rfl
@[simp] theorem State.setArbiter_tables (s : State) (a : Arbiter) : (s.setArbiter a).tables = s.tables := rfl
@[simp] theorem State.setArbiter_routes (s : State) (a : Arbiter) : (s.setArbiter a).routes = s.routes := rfl
@[simp] theorem State.setArbiter_serviceHeld (s : State) (a : Arbiter) : (s.setArbiter a).serviceHeld = s.serviceHeld := rfl
@[simp] theorem State.setArbiter_zones (s : State) (a : Arbiter) : (s.setArbiter a).zones = s.zones := rfl
@[simp] theorem State.setArbiter_arbiter (s : State) (a : Arbiter) : (s.setArbiter a).arbiter = a := rfl
@[simp] theorem State.setArbiter_command (s : State) (a : Arbiter) : (s.setArbiter a).command = s.command := rfl
@[simp] theorem State.setArbiter_computation (s : State) (a : Arbiter) : (s.setArbiter a).computation = s.computation := rfl
@[simp] theorem State.setArbiter_channels (s : State) (a : Arbiter) : (s.setArbiter a).channels = s.channels := rfl
@[simp] theorem State.setArbiter_queue (s : State) (a : Arbiter) : (s.setArbiter a).queue = s.queue := rfl
@[simp] theorem State.setArbiter_slotLimit (s : State) (a : Arbiter) : (s.setArbiter a).slotLimit = s.slotLimit := rfl
@[simp] theorem State.setArbiter_homingDue (s : State) (a : Arbiter) : (s.setArbiter a).homingDue = s.homingDue := rfl
@[simp] theorem State.setArbiter_links (s : State) (a : Arbiter) : (s.setArbiter a).links = s.links := rfl
@[simp] theorem State.setArbiter_room (s : State) (a : Arbiter) : (s.setArbiter a).room = s.room := rfl
@[simp] theorem State.setArbiter_plant (s : State) (a : Arbiter) : (s.setArbiter a).plant = s.plant := rfl
@[simp] theorem State.setArbiter_relay (s : State) (a : Arbiter) : (s.setArbiter a).relay = s.relay := rfl
@[simp] theorem State.setArbiter_decoder (s : State) (a : Arbiter) : (s.setArbiter a).decoder = s.decoder := rfl
@[simp] theorem State.setArbiter_events (s : State) (a : Arbiter) : (s.setArbiter a).events = s.events := rfl

@[simp] theorem State.setRoom_now (s : State) (r : RoomPort) : (s.setRoom r).now = s.now := rfl
@[simp] theorem State.setRoom_pending (s : State) (r : RoomPort) : (s.setRoom r).pending = s.pending := rfl
@[simp] theorem State.setRoom_phase (s : State) (r : RoomPort) : (s.setRoom r).phase = s.phase := rfl
@[simp] theorem State.setRoom_resetAt (s : State) (r : RoomPort) : (s.setRoom r).resetAt = s.resetAt := rfl
@[simp] theorem State.setRoom_supply (s : State) (r : RoomPort) : (s.setRoom r).supply = s.supply := rfl
@[simp] theorem State.setRoom_retained (s : State) (r : RoomPort) : (s.setRoom r).retained = s.retained := rfl
@[simp] theorem State.setRoom_store (s : State) (r : RoomPort) : (s.setRoom r).store = s.store := rfl
@[simp] theorem State.setRoom_storeState (s : State) (r : RoomPort) : (s.setRoom r).storeState = s.storeState := rfl
@[simp] theorem State.setRoom_saving (s : State) (r : RoomPort) : (s.setRoom r).saving = s.saving := rfl
@[simp] theorem State.setRoom_tables (s : State) (r : RoomPort) : (s.setRoom r).tables = s.tables := rfl
@[simp] theorem State.setRoom_routes (s : State) (r : RoomPort) : (s.setRoom r).routes = s.routes := rfl
@[simp] theorem State.setRoom_serviceHeld (s : State) (r : RoomPort) : (s.setRoom r).serviceHeld = s.serviceHeld := rfl
@[simp] theorem State.setRoom_zones (s : State) (r : RoomPort) : (s.setRoom r).zones = s.zones := rfl
@[simp] theorem State.setRoom_arbiter (s : State) (r : RoomPort) : (s.setRoom r).arbiter = s.arbiter := rfl
@[simp] theorem State.setRoom_command (s : State) (r : RoomPort) : (s.setRoom r).command = s.command := rfl
@[simp] theorem State.setRoom_computation (s : State) (r : RoomPort) : (s.setRoom r).computation = s.computation := rfl
@[simp] theorem State.setRoom_channels (s : State) (r : RoomPort) : (s.setRoom r).channels = s.channels := rfl
@[simp] theorem State.setRoom_queue (s : State) (r : RoomPort) : (s.setRoom r).queue = s.queue := rfl
@[simp] theorem State.setRoom_slotLimit (s : State) (r : RoomPort) : (s.setRoom r).slotLimit = s.slotLimit := rfl
@[simp] theorem State.setRoom_homingDue (s : State) (r : RoomPort) : (s.setRoom r).homingDue = s.homingDue := rfl
@[simp] theorem State.setRoom_links (s : State) (r : RoomPort) : (s.setRoom r).links = s.links := rfl
@[simp] theorem State.setRoom_room (s : State) (r : RoomPort) : (s.setRoom r).room = r := rfl
@[simp] theorem State.setRoom_plant (s : State) (r : RoomPort) : (s.setRoom r).plant = s.plant := rfl
@[simp] theorem State.setRoom_relay (s : State) (r : RoomPort) : (s.setRoom r).relay = s.relay := rfl
@[simp] theorem State.setRoom_decoder (s : State) (r : RoomPort) : (s.setRoom r).decoder = s.decoder := rfl
@[simp] theorem State.setRoom_events (s : State) (r : RoomPort) : (s.setRoom r).events = s.events := rfl

@[simp] theorem State.setPlant_now (s : State) (p : PlantPort) : (s.setPlant p).now = s.now := rfl
@[simp] theorem State.setPlant_pending (s : State) (p : PlantPort) : (s.setPlant p).pending = s.pending := rfl
@[simp] theorem State.setPlant_phase (s : State) (p : PlantPort) : (s.setPlant p).phase = s.phase := rfl
@[simp] theorem State.setPlant_resetAt (s : State) (p : PlantPort) : (s.setPlant p).resetAt = s.resetAt := rfl
@[simp] theorem State.setPlant_supply (s : State) (p : PlantPort) : (s.setPlant p).supply = s.supply := rfl
@[simp] theorem State.setPlant_retained (s : State) (p : PlantPort) : (s.setPlant p).retained = s.retained := rfl
@[simp] theorem State.setPlant_store (s : State) (p : PlantPort) : (s.setPlant p).store = s.store := rfl
@[simp] theorem State.setPlant_storeState (s : State) (p : PlantPort) : (s.setPlant p).storeState = s.storeState := rfl
@[simp] theorem State.setPlant_saving (s : State) (p : PlantPort) : (s.setPlant p).saving = s.saving := rfl
@[simp] theorem State.setPlant_tables (s : State) (p : PlantPort) : (s.setPlant p).tables = s.tables := rfl
@[simp] theorem State.setPlant_routes (s : State) (p : PlantPort) : (s.setPlant p).routes = s.routes := rfl
@[simp] theorem State.setPlant_serviceHeld (s : State) (p : PlantPort) : (s.setPlant p).serviceHeld = s.serviceHeld := rfl
@[simp] theorem State.setPlant_zones (s : State) (p : PlantPort) : (s.setPlant p).zones = s.zones := rfl
@[simp] theorem State.setPlant_arbiter (s : State) (p : PlantPort) : (s.setPlant p).arbiter = s.arbiter := rfl
@[simp] theorem State.setPlant_command (s : State) (p : PlantPort) : (s.setPlant p).command = s.command := rfl
@[simp] theorem State.setPlant_computation (s : State) (p : PlantPort) : (s.setPlant p).computation = s.computation := rfl
@[simp] theorem State.setPlant_channels (s : State) (p : PlantPort) : (s.setPlant p).channels = s.channels := rfl
@[simp] theorem State.setPlant_queue (s : State) (p : PlantPort) : (s.setPlant p).queue = s.queue := rfl
@[simp] theorem State.setPlant_slotLimit (s : State) (p : PlantPort) : (s.setPlant p).slotLimit = s.slotLimit := rfl
@[simp] theorem State.setPlant_homingDue (s : State) (p : PlantPort) : (s.setPlant p).homingDue = s.homingDue := rfl
@[simp] theorem State.setPlant_links (s : State) (p : PlantPort) : (s.setPlant p).links = s.links := rfl
@[simp] theorem State.setPlant_room (s : State) (p : PlantPort) : (s.setPlant p).room = s.room := rfl
@[simp] theorem State.setPlant_plant (s : State) (p : PlantPort) : (s.setPlant p).plant = p := rfl
@[simp] theorem State.setPlant_relay (s : State) (p : PlantPort) : (s.setPlant p).relay = s.relay := rfl
@[simp] theorem State.setPlant_decoder (s : State) (p : PlantPort) : (s.setPlant p).decoder = s.decoder := rfl
@[simp] theorem State.setPlant_events (s : State) (p : PlantPort) : (s.setPlant p).events = s.events := rfl

@[simp] theorem State.setDecoder_now (s : State) (d : Decoder) : (s.setDecoder d).now = s.now := rfl
@[simp] theorem State.setDecoder_pending (s : State) (d : Decoder) : (s.setDecoder d).pending = s.pending := rfl
@[simp] theorem State.setDecoder_phase (s : State) (d : Decoder) : (s.setDecoder d).phase = s.phase := rfl
@[simp] theorem State.setDecoder_resetAt (s : State) (d : Decoder) : (s.setDecoder d).resetAt = s.resetAt := rfl
@[simp] theorem State.setDecoder_supply (s : State) (d : Decoder) : (s.setDecoder d).supply = s.supply := rfl
@[simp] theorem State.setDecoder_retained (s : State) (d : Decoder) : (s.setDecoder d).retained = s.retained := rfl
@[simp] theorem State.setDecoder_store (s : State) (d : Decoder) : (s.setDecoder d).store = s.store := rfl
@[simp] theorem State.setDecoder_storeState (s : State) (d : Decoder) : (s.setDecoder d).storeState = s.storeState := rfl
@[simp] theorem State.setDecoder_saving (s : State) (d : Decoder) : (s.setDecoder d).saving = s.saving := rfl
@[simp] theorem State.setDecoder_tables (s : State) (d : Decoder) : (s.setDecoder d).tables = s.tables := rfl
@[simp] theorem State.setDecoder_routes (s : State) (d : Decoder) : (s.setDecoder d).routes = s.routes := rfl
@[simp] theorem State.setDecoder_serviceHeld (s : State) (d : Decoder) : (s.setDecoder d).serviceHeld = s.serviceHeld := rfl
@[simp] theorem State.setDecoder_zones (s : State) (d : Decoder) : (s.setDecoder d).zones = s.zones := rfl
@[simp] theorem State.setDecoder_arbiter (s : State) (d : Decoder) : (s.setDecoder d).arbiter = s.arbiter := rfl
@[simp] theorem State.setDecoder_command (s : State) (d : Decoder) : (s.setDecoder d).command = s.command := rfl
@[simp] theorem State.setDecoder_computation (s : State) (d : Decoder) : (s.setDecoder d).computation = s.computation := rfl
@[simp] theorem State.setDecoder_channels (s : State) (d : Decoder) : (s.setDecoder d).channels = s.channels := rfl
@[simp] theorem State.setDecoder_queue (s : State) (d : Decoder) : (s.setDecoder d).queue = s.queue := rfl
@[simp] theorem State.setDecoder_slotLimit (s : State) (d : Decoder) : (s.setDecoder d).slotLimit = s.slotLimit := rfl
@[simp] theorem State.setDecoder_homingDue (s : State) (d : Decoder) : (s.setDecoder d).homingDue = s.homingDue := rfl
@[simp] theorem State.setDecoder_links (s : State) (d : Decoder) : (s.setDecoder d).links = s.links := rfl
@[simp] theorem State.setDecoder_room (s : State) (d : Decoder) : (s.setDecoder d).room = s.room := rfl
@[simp] theorem State.setDecoder_plant (s : State) (d : Decoder) : (s.setDecoder d).plant = s.plant := rfl
@[simp] theorem State.setDecoder_relay (s : State) (d : Decoder) : (s.setDecoder d).relay = s.relay := rfl
@[simp] theorem State.setDecoder_decoder (s : State) (d : Decoder) : (s.setDecoder d).decoder = d := rfl
@[simp] theorem State.setDecoder_events (s : State) (d : Decoder) : (s.setDecoder d).events = s.events := rfl

@[simp] theorem State.setRelay_now (s : State) (r : Relay) : (s.setRelay r).now = s.now := rfl
@[simp] theorem State.setRelay_pending (s : State) (r : Relay) : (s.setRelay r).pending = s.pending := rfl
@[simp] theorem State.setRelay_phase (s : State) (r : Relay) : (s.setRelay r).phase = s.phase := rfl
@[simp] theorem State.setRelay_resetAt (s : State) (r : Relay) : (s.setRelay r).resetAt = s.resetAt := rfl
@[simp] theorem State.setRelay_supply (s : State) (r : Relay) : (s.setRelay r).supply = s.supply := rfl
@[simp] theorem State.setRelay_retained (s : State) (r : Relay) : (s.setRelay r).retained = s.retained := rfl
@[simp] theorem State.setRelay_store (s : State) (r : Relay) : (s.setRelay r).store = s.store := rfl
@[simp] theorem State.setRelay_storeState (s : State) (r : Relay) : (s.setRelay r).storeState = s.storeState := rfl
@[simp] theorem State.setRelay_saving (s : State) (r : Relay) : (s.setRelay r).saving = s.saving := rfl
@[simp] theorem State.setRelay_tables (s : State) (r : Relay) : (s.setRelay r).tables = s.tables := rfl
@[simp] theorem State.setRelay_routes (s : State) (r : Relay) : (s.setRelay r).routes = s.routes := rfl
@[simp] theorem State.setRelay_serviceHeld (s : State) (r : Relay) : (s.setRelay r).serviceHeld = s.serviceHeld := rfl
@[simp] theorem State.setRelay_zones (s : State) (r : Relay) : (s.setRelay r).zones = s.zones := rfl
@[simp] theorem State.setRelay_arbiter (s : State) (r : Relay) : (s.setRelay r).arbiter = s.arbiter := rfl
@[simp] theorem State.setRelay_command (s : State) (r : Relay) : (s.setRelay r).command = s.command := rfl
@[simp] theorem State.setRelay_computation (s : State) (r : Relay) : (s.setRelay r).computation = s.computation := rfl
@[simp] theorem State.setRelay_channels (s : State) (r : Relay) : (s.setRelay r).channels = s.channels := rfl
@[simp] theorem State.setRelay_queue (s : State) (r : Relay) : (s.setRelay r).queue = s.queue := rfl
@[simp] theorem State.setRelay_slotLimit (s : State) (r : Relay) : (s.setRelay r).slotLimit = s.slotLimit := rfl
@[simp] theorem State.setRelay_homingDue (s : State) (r : Relay) : (s.setRelay r).homingDue = s.homingDue := rfl
@[simp] theorem State.setRelay_links (s : State) (r : Relay) : (s.setRelay r).links = s.links := rfl
@[simp] theorem State.setRelay_room (s : State) (r : Relay) : (s.setRelay r).room = s.room := rfl
@[simp] theorem State.setRelay_plant (s : State) (r : Relay) : (s.setRelay r).plant = s.plant := rfl
@[simp] theorem State.setRelay_relay (s : State) (r : Relay) : (s.setRelay r).relay = r := rfl
@[simp] theorem State.setRelay_decoder (s : State) (r : Relay) : (s.setRelay r).decoder = s.decoder := rfl
@[simp] theorem State.setRelay_events (s : State) (r : Relay) : (s.setRelay r).events = s.events := rfl

@[simp] theorem State.setComputation_now (s : State) (c : Computation) : (s.setComputation c).now = s.now := rfl
@[simp] theorem State.setComputation_pending (s : State) (c : Computation) : (s.setComputation c).pending = s.pending := rfl
@[simp] theorem State.setComputation_phase (s : State) (c : Computation) : (s.setComputation c).phase = s.phase := rfl
@[simp] theorem State.setComputation_resetAt (s : State) (c : Computation) : (s.setComputation c).resetAt = s.resetAt := rfl
@[simp] theorem State.setComputation_supply (s : State) (c : Computation) : (s.setComputation c).supply = s.supply := rfl
@[simp] theorem State.setComputation_retained (s : State) (c : Computation) : (s.setComputation c).retained = s.retained := rfl
@[simp] theorem State.setComputation_store (s : State) (c : Computation) : (s.setComputation c).store = s.store := rfl
@[simp] theorem State.setComputation_storeState (s : State) (c : Computation) : (s.setComputation c).storeState = s.storeState := rfl
@[simp] theorem State.setComputation_saving (s : State) (c : Computation) : (s.setComputation c).saving = s.saving := rfl
@[simp] theorem State.setComputation_tables (s : State) (c : Computation) : (s.setComputation c).tables = s.tables := rfl
@[simp] theorem State.setComputation_routes (s : State) (c : Computation) : (s.setComputation c).routes = s.routes := rfl
@[simp] theorem State.setComputation_serviceHeld (s : State) (c : Computation) : (s.setComputation c).serviceHeld = s.serviceHeld := rfl
@[simp] theorem State.setComputation_zones (s : State) (c : Computation) : (s.setComputation c).zones = s.zones := rfl
@[simp] theorem State.setComputation_arbiter (s : State) (c : Computation) : (s.setComputation c).arbiter = s.arbiter := rfl
@[simp] theorem State.setComputation_command (s : State) (c : Computation) : (s.setComputation c).command = s.command := rfl
@[simp] theorem State.setComputation_computation (s : State) (c : Computation) : (s.setComputation c).computation = c := rfl
@[simp] theorem State.setComputation_channels (s : State) (c : Computation) : (s.setComputation c).channels = s.channels := rfl
@[simp] theorem State.setComputation_queue (s : State) (c : Computation) : (s.setComputation c).queue = s.queue := rfl
@[simp] theorem State.setComputation_slotLimit (s : State) (c : Computation) : (s.setComputation c).slotLimit = s.slotLimit := rfl
@[simp] theorem State.setComputation_homingDue (s : State) (c : Computation) : (s.setComputation c).homingDue = s.homingDue := rfl
@[simp] theorem State.setComputation_links (s : State) (c : Computation) : (s.setComputation c).links = s.links := rfl
@[simp] theorem State.setComputation_room (s : State) (c : Computation) : (s.setComputation c).room = s.room := rfl
@[simp] theorem State.setComputation_plant (s : State) (c : Computation) : (s.setComputation c).plant = s.plant := rfl
@[simp] theorem State.setComputation_relay (s : State) (c : Computation) : (s.setComputation c).relay = s.relay := rfl
@[simp] theorem State.setComputation_decoder (s : State) (c : Computation) : (s.setComputation c).decoder = s.decoder := rfl
@[simp] theorem State.setComputation_events (s : State) (c : Computation) : (s.setComputation c).events = s.events := rfl

@[simp] theorem State.setEvents_now (s : State) (e : EventList) : (s.setEvents e).now = s.now := rfl
@[simp] theorem State.setEvents_pending (s : State) (e : EventList) : (s.setEvents e).pending = s.pending := rfl
@[simp] theorem State.setEvents_phase (s : State) (e : EventList) : (s.setEvents e).phase = s.phase := rfl
@[simp] theorem State.setEvents_resetAt (s : State) (e : EventList) : (s.setEvents e).resetAt = s.resetAt := rfl
@[simp] theorem State.setEvents_supply (s : State) (e : EventList) : (s.setEvents e).supply = s.supply := rfl
@[simp] theorem State.setEvents_retained (s : State) (e : EventList) : (s.setEvents e).retained = s.retained := rfl
@[simp] theorem State.setEvents_store (s : State) (e : EventList) : (s.setEvents e).store = s.store := rfl
@[simp] theorem State.setEvents_storeState (s : State) (e : EventList) : (s.setEvents e).storeState = s.storeState := rfl
@[simp] theorem State.setEvents_saving (s : State) (e : EventList) : (s.setEvents e).saving = s.saving := rfl
@[simp] theorem State.setEvents_tables (s : State) (e : EventList) : (s.setEvents e).tables = s.tables := rfl
@[simp] theorem State.setEvents_routes (s : State) (e : EventList) : (s.setEvents e).routes = s.routes := rfl
@[simp] theorem State.setEvents_serviceHeld (s : State) (e : EventList) : (s.setEvents e).serviceHeld = s.serviceHeld := rfl
@[simp] theorem State.setEvents_zones (s : State) (e : EventList) : (s.setEvents e).zones = s.zones := rfl
@[simp] theorem State.setEvents_arbiter (s : State) (e : EventList) : (s.setEvents e).arbiter = s.arbiter := rfl
@[simp] theorem State.setEvents_command (s : State) (e : EventList) : (s.setEvents e).command = s.command := rfl
@[simp] theorem State.setEvents_computation (s : State) (e : EventList) : (s.setEvents e).computation = s.computation := rfl
@[simp] theorem State.setEvents_channels (s : State) (e : EventList) : (s.setEvents e).channels = s.channels := rfl
@[simp] theorem State.setEvents_queue (s : State) (e : EventList) : (s.setEvents e).queue = s.queue := rfl
@[simp] theorem State.setEvents_slotLimit (s : State) (e : EventList) : (s.setEvents e).slotLimit = s.slotLimit := rfl
@[simp] theorem State.setEvents_homingDue (s : State) (e : EventList) : (s.setEvents e).homingDue = s.homingDue := rfl
@[simp] theorem State.setEvents_links (s : State) (e : EventList) : (s.setEvents e).links = s.links := rfl
@[simp] theorem State.setEvents_room (s : State) (e : EventList) : (s.setEvents e).room = s.room := rfl
@[simp] theorem State.setEvents_plant (s : State) (e : EventList) : (s.setEvents e).plant = s.plant := rfl
@[simp] theorem State.setEvents_relay (s : State) (e : EventList) : (s.setEvents e).relay = s.relay := rfl
@[simp] theorem State.setEvents_decoder (s : State) (e : EventList) : (s.setEvents e).decoder = s.decoder := rfl
@[simp] theorem State.setEvents_events (s : State) (e : EventList) : (s.setEvents e).events = e := rfl

@[simp] theorem State.setTables_now (s : State) (t : Tables) : (s.setTables t).now = s.now := rfl
@[simp] theorem State.setTables_pending (s : State) (t : Tables) : (s.setTables t).pending = s.pending := rfl
@[simp] theorem State.setTables_phase (s : State) (t : Tables) : (s.setTables t).phase = s.phase := rfl
@[simp] theorem State.setTables_resetAt (s : State) (t : Tables) : (s.setTables t).resetAt = s.resetAt := rfl
@[simp] theorem State.setTables_supply (s : State) (t : Tables) : (s.setTables t).supply = s.supply := rfl
@[simp] theorem State.setTables_retained (s : State) (t : Tables) : (s.setTables t).retained = s.retained := rfl
@[simp] theorem State.setTables_store (s : State) (t : Tables) : (s.setTables t).store = s.store := rfl
@[simp] theorem State.setTables_storeState (s : State) (t : Tables) : (s.setTables t).storeState = s.storeState := rfl
@[simp] theorem State.setTables_saving (s : State) (t : Tables) : (s.setTables t).saving = s.saving := rfl
@[simp] theorem State.setTables_tables (s : State) (t : Tables) : (s.setTables t).tables = t := rfl
@[simp] theorem State.setTables_routes (s : State) (t : Tables) : (s.setTables t).routes = s.routes := rfl
@[simp] theorem State.setTables_serviceHeld (s : State) (t : Tables) : (s.setTables t).serviceHeld = s.serviceHeld := rfl
@[simp] theorem State.setTables_zones (s : State) (t : Tables) : (s.setTables t).zones = s.zones := rfl
@[simp] theorem State.setTables_arbiter (s : State) (t : Tables) : (s.setTables t).arbiter = s.arbiter := rfl
@[simp] theorem State.setTables_command (s : State) (t : Tables) : (s.setTables t).command = s.command := rfl
@[simp] theorem State.setTables_computation (s : State) (t : Tables) : (s.setTables t).computation = s.computation := rfl
@[simp] theorem State.setTables_channels (s : State) (t : Tables) : (s.setTables t).channels = s.channels := rfl
@[simp] theorem State.setTables_queue (s : State) (t : Tables) : (s.setTables t).queue = s.queue := rfl
@[simp] theorem State.setTables_slotLimit (s : State) (t : Tables) : (s.setTables t).slotLimit = s.slotLimit := rfl
@[simp] theorem State.setTables_homingDue (s : State) (t : Tables) : (s.setTables t).homingDue = s.homingDue := rfl
@[simp] theorem State.setTables_links (s : State) (t : Tables) : (s.setTables t).links = s.links := rfl
@[simp] theorem State.setTables_room (s : State) (t : Tables) : (s.setTables t).room = s.room := rfl
@[simp] theorem State.setTables_plant (s : State) (t : Tables) : (s.setTables t).plant = s.plant := rfl
@[simp] theorem State.setTables_relay (s : State) (t : Tables) : (s.setTables t).relay = s.relay := rfl
@[simp] theorem State.setTables_decoder (s : State) (t : Tables) : (s.setTables t).decoder = s.decoder := rfl
@[simp] theorem State.setTables_events (s : State) (t : Tables) : (s.setTables t).events = s.events := rfl

@[simp] theorem State.setSupply_now (s : State) (x : SupplyState) (t : Time) : (s.setSupply x t).now = s.now := rfl
@[simp] theorem State.setSupply_pending (s : State) (x : SupplyState) (t : Time) : (s.setSupply x t).pending = s.pending := rfl
@[simp] theorem State.setSupply_phase (s : State) (x : SupplyState) (t : Time) : (s.setSupply x t).phase = s.phase := rfl
@[simp] theorem State.setSupply_resetAt (s : State) (x : SupplyState) (t : Time) : (s.setSupply x t).resetAt = s.resetAt := rfl
@[simp] theorem State.setSupply_supply (s : State) (x : SupplyState) (t : Time) : (s.setSupply x t).supply = { s.supply with supply := x, holdFrom := max s.supply.holdFrom t } := rfl
@[simp] theorem State.setSupply_retained (s : State) (x : SupplyState) (t : Time) : (s.setSupply x t).retained = s.retained := rfl
@[simp] theorem State.setSupply_store (s : State) (x : SupplyState) (t : Time) : (s.setSupply x t).store = s.store := rfl
@[simp] theorem State.setSupply_storeState (s : State) (x : SupplyState) (t : Time) : (s.setSupply x t).storeState = s.storeState := rfl
@[simp] theorem State.setSupply_saving (s : State) (x : SupplyState) (t : Time) : (s.setSupply x t).saving = s.saving := rfl
@[simp] theorem State.setSupply_tables (s : State) (x : SupplyState) (t : Time) : (s.setSupply x t).tables = s.tables := rfl
@[simp] theorem State.setSupply_routes (s : State) (x : SupplyState) (t : Time) : (s.setSupply x t).routes = s.routes := rfl
@[simp] theorem State.setSupply_serviceHeld (s : State) (x : SupplyState) (t : Time) : (s.setSupply x t).serviceHeld = s.serviceHeld := rfl
@[simp] theorem State.setSupply_zones (s : State) (x : SupplyState) (t : Time) : (s.setSupply x t).zones = s.zones := rfl
@[simp] theorem State.setSupply_arbiter (s : State) (x : SupplyState) (t : Time) : (s.setSupply x t).arbiter = s.arbiter := rfl
@[simp] theorem State.setSupply_command (s : State) (x : SupplyState) (t : Time) : (s.setSupply x t).command = s.command := rfl
@[simp] theorem State.setSupply_computation (s : State) (x : SupplyState) (t : Time) : (s.setSupply x t).computation = s.computation := rfl
@[simp] theorem State.setSupply_channels (s : State) (x : SupplyState) (t : Time) : (s.setSupply x t).channels = s.channels := rfl
@[simp] theorem State.setSupply_queue (s : State) (x : SupplyState) (t : Time) : (s.setSupply x t).queue = s.queue := rfl
@[simp] theorem State.setSupply_slotLimit (s : State) (x : SupplyState) (t : Time) : (s.setSupply x t).slotLimit = s.slotLimit := rfl
@[simp] theorem State.setSupply_homingDue (s : State) (x : SupplyState) (t : Time) : (s.setSupply x t).homingDue = s.homingDue := rfl
@[simp] theorem State.setSupply_links (s : State) (x : SupplyState) (t : Time) : (s.setSupply x t).links = s.links := rfl
@[simp] theorem State.setSupply_room (s : State) (x : SupplyState) (t : Time) : (s.setSupply x t).room = s.room := rfl
@[simp] theorem State.setSupply_plant (s : State) (x : SupplyState) (t : Time) : (s.setSupply x t).plant = s.plant := rfl
@[simp] theorem State.setSupply_relay (s : State) (x : SupplyState) (t : Time) : (s.setSupply x t).relay = s.relay := rfl
@[simp] theorem State.setSupply_decoder (s : State) (x : SupplyState) (t : Time) : (s.setSupply x t).decoder = s.decoder := rfl
@[simp] theorem State.setSupply_events (s : State) (x : SupplyState) (t : Time) : (s.setSupply x t).events = s.events := rfl

@[simp] theorem State.setInput_now (s : State) (x : InputState) : (s.setInput x).now = s.now := rfl
@[simp] theorem State.setInput_pending (s : State) (x : InputState) : (s.setInput x).pending = s.pending := rfl
@[simp] theorem State.setInput_phase (s : State) (x : InputState) : (s.setInput x).phase = s.phase := rfl
@[simp] theorem State.setInput_resetAt (s : State) (x : InputState) : (s.setInput x).resetAt = s.resetAt := rfl
@[simp] theorem State.setInput_supply (s : State) (x : InputState) : (s.setInput x).supply = { s.supply with input := x } := rfl
@[simp] theorem State.setInput_retained (s : State) (x : InputState) : (s.setInput x).retained = s.retained := rfl
@[simp] theorem State.setInput_store (s : State) (x : InputState) : (s.setInput x).store = s.store := rfl
@[simp] theorem State.setInput_storeState (s : State) (x : InputState) : (s.setInput x).storeState = s.storeState := rfl
@[simp] theorem State.setInput_saving (s : State) (x : InputState) : (s.setInput x).saving = s.saving := rfl
@[simp] theorem State.setInput_tables (s : State) (x : InputState) : (s.setInput x).tables = s.tables := rfl
@[simp] theorem State.setInput_routes (s : State) (x : InputState) : (s.setInput x).routes = s.routes := rfl
@[simp] theorem State.setInput_serviceHeld (s : State) (x : InputState) : (s.setInput x).serviceHeld = s.serviceHeld := rfl
@[simp] theorem State.setInput_zones (s : State) (x : InputState) : (s.setInput x).zones = s.zones := rfl
@[simp] theorem State.setInput_arbiter (s : State) (x : InputState) : (s.setInput x).arbiter = s.arbiter := rfl
@[simp] theorem State.setInput_command (s : State) (x : InputState) : (s.setInput x).command = s.command := rfl
@[simp] theorem State.setInput_computation (s : State) (x : InputState) : (s.setInput x).computation = s.computation := rfl
@[simp] theorem State.setInput_channels (s : State) (x : InputState) : (s.setInput x).channels = s.channels := rfl
@[simp] theorem State.setInput_queue (s : State) (x : InputState) : (s.setInput x).queue = s.queue := rfl
@[simp] theorem State.setInput_slotLimit (s : State) (x : InputState) : (s.setInput x).slotLimit = s.slotLimit := rfl
@[simp] theorem State.setInput_homingDue (s : State) (x : InputState) : (s.setInput x).homingDue = s.homingDue := rfl
@[simp] theorem State.setInput_links (s : State) (x : InputState) : (s.setInput x).links = s.links := rfl
@[simp] theorem State.setInput_room (s : State) (x : InputState) : (s.setInput x).room = s.room := rfl
@[simp] theorem State.setInput_plant (s : State) (x : InputState) : (s.setInput x).plant = s.plant := rfl
@[simp] theorem State.setInput_relay (s : State) (x : InputState) : (s.setInput x).relay = s.relay := rfl
@[simp] theorem State.setInput_decoder (s : State) (x : InputState) : (s.setInput x).decoder = s.decoder := rfl
@[simp] theorem State.setInput_events (s : State) (x : InputState) : (s.setInput x).events = s.events := rfl

end Sys2Proof.Machine
end

