-- ==== Sys2Proof/Laws/Tables.lean ====
section
/-! SUPPORT. Reads after writes of the tables of fixed size, and what an operation made for every index keeps. -/

namespace Sys2Proof.Machine

@[simp] theorem look_put_same {α : Type} {n : Nat} (v : Vector α n) (i : Fin n) (x : α) : look (put v i x) i = x := by
  simp [look, put]

theorem look_put_other {α : Type} {n : Nat} (v : Vector α n) (i j : Fin n) (x : α) (h : j ≠ i) :
    look (put v i x) j = look v j := by
  have : i.val ≠ j.val := fun e => h (Fin.ext e.symm)
  simp [look, put, this]

theorem look_put {α : Type} {n : Nat} (v : Vector α n) (i j : Fin n) (x : α) :
    look (put v i x) j = if j = i then x else look v j := by
  split
  · next h => simp [h]
  · next h => exact look_put_other v i j x h

@[simp] theorem look_tab {α : Type} {n : Nat} (f : Fin n → α) (i : Fin n) : look (tab f) i = f i := by
  simp [look, tab]

@[simp] theorem look_replicate {α : Type} {n : Nat} (x : α) (i : Fin n) : look (Vector.replicate n x) i = x := by
  simp [look]

@[simp] theorem PerNode.get_set_same {α : Type} (p : PerNode α) (n : Node) (x : α) : (p.set n x).get n = x := by
  cases n <;> rfl

theorem PerNode.get_set_other {α : Type} (p : PerNode α) (n m : Node) (x : α) (h : m ≠ n) :
    (p.set n x).get m = p.get m := by
  cases n <;> cases m <;> first | rfl | exact absurd rfl h

@[simp] theorem State.zone_setZone_same (s : State) (z : ZoneId) (r : ZoneRun) : (s.setZone z r).zone z = r := by
  simp [State.zone]

@[simp] theorem State.channel_setChannel_same (s : State) (c : ChannelId) (r : Channel) :
    (s.setChannel c r).channel c = r := by
  simp [State.channel]

@[simp] theorem State.routeRun_setRoute_same (s : State) (i : RouteId) (r : RouteRun) :
    (s.setRoute i r).routeRun i = r := by
  simp [State.routeRun]

@[simp] theorem State.link_setLink_same (s : State) (n : Node) (l : Link) : (s.setLink n l).link n = l := by
  simp [State.link]

/-- What every step of an operation made for every index keeps, the operation keeps. -/
theorem State.forIx_keeps {n : Nat} {β : Type} (g : State → β) (f : Fin n → State → State) (s : State)
    (h : ∀ i t, g (f i t) = g t) : g (s.forIx f) = g s := by
  unfold State.forIx
  generalize List.finRange n = l
  induction l generalizing s with
  | nil => rfl
  | cons i l ih => rw [List.foldl_cons, ih, h]

/-- What holds of a state and of every step of an operation made for every index holds of the operation. -/
theorem State.forIx_induct {n : Nat} (p : State → Prop) (f : Fin n → State → State) (s : State) (h0 : p s)
    (h : ∀ i t, p t → p (f i t)) : p (s.forIx f) := by
  unfold State.forIx
  generalize List.finRange n = l
  induction l generalizing s with
  | nil => exact h0
  | cons i l ih => exact ih _ (h _ _ h0)

/-- What every step of a fold keeps, the fold keeps. -/
theorem foldl_keeps {α β : Type} (g : State → β) (f : State → α → State) (l : List α) (s : State)
    (h : ∀ t a, g (f t a) = g t) : g (l.foldl f s) = g s := by
  induction l generalizing s with
  | nil => rfl
  | cons i l ih => rw [List.foldl_cons, ih, h]

/-! ### A field of State after a choice, and after an operation made for every index -/

@[simp] theorem State.ite_now (p : Prop) [Decidable p] (a b : State) :
    (if p then a else b).now = if p then a.now else b.now := apply_ite State.now p a b
@[simp] theorem State.forIx_now {n : Nat} (f : Fin n → State → State) (s : State) (h : ∀ i t, (f i t).now = t.now) :
    (s.forIx f).now = s.now := State.forIx_keeps State.now f s h
@[simp] theorem State.foldl_now {α : Type} (f : State → α → State) (l : List α) (s : State)
    (h : ∀ t a, (f t a).now = t.now) : (l.foldl f s).now = s.now := foldl_keeps State.now f l s h
@[simp] theorem State.ite_pending (p : Prop) [Decidable p] (a b : State) :
    (if p then a else b).pending = if p then a.pending else b.pending := apply_ite State.pending p a b
@[simp] theorem State.forIx_pending {n : Nat} (f : Fin n → State → State) (s : State) (h : ∀ i t, (f i t).pending = t.pending) :
    (s.forIx f).pending = s.pending := State.forIx_keeps State.pending f s h
@[simp] theorem State.foldl_pending {α : Type} (f : State → α → State) (l : List α) (s : State)
    (h : ∀ t a, (f t a).pending = t.pending) : (l.foldl f s).pending = s.pending := foldl_keeps State.pending f l s h
@[simp] theorem State.ite_phase (p : Prop) [Decidable p] (a b : State) :
    (if p then a else b).phase = if p then a.phase else b.phase := apply_ite State.phase p a b
@[simp] theorem State.forIx_phase {n : Nat} (f : Fin n → State → State) (s : State) (h : ∀ i t, (f i t).phase = t.phase) :
    (s.forIx f).phase = s.phase := State.forIx_keeps State.phase f s h
@[simp] theorem State.foldl_phase {α : Type} (f : State → α → State) (l : List α) (s : State)
    (h : ∀ t a, (f t a).phase = t.phase) : (l.foldl f s).phase = s.phase := foldl_keeps State.phase f l s h
@[simp] theorem State.ite_resetAt (p : Prop) [Decidable p] (a b : State) :
    (if p then a else b).resetAt = if p then a.resetAt else b.resetAt := apply_ite State.resetAt p a b
@[simp] theorem State.forIx_resetAt {n : Nat} (f : Fin n → State → State) (s : State) (h : ∀ i t, (f i t).resetAt = t.resetAt) :
    (s.forIx f).resetAt = s.resetAt := State.forIx_keeps State.resetAt f s h
@[simp] theorem State.foldl_resetAt {α : Type} (f : State → α → State) (l : List α) (s : State)
    (h : ∀ t a, (f t a).resetAt = t.resetAt) : (l.foldl f s).resetAt = s.resetAt := foldl_keeps State.resetAt f l s h
@[simp] theorem State.ite_supply (p : Prop) [Decidable p] (a b : State) :
    (if p then a else b).supply = if p then a.supply else b.supply := apply_ite State.supply p a b
@[simp] theorem State.forIx_supply {n : Nat} (f : Fin n → State → State) (s : State) (h : ∀ i t, (f i t).supply = t.supply) :
    (s.forIx f).supply = s.supply := State.forIx_keeps State.supply f s h
@[simp] theorem State.foldl_supply {α : Type} (f : State → α → State) (l : List α) (s : State)
    (h : ∀ t a, (f t a).supply = t.supply) : (l.foldl f s).supply = s.supply := foldl_keeps State.supply f l s h
@[simp] theorem State.ite_retained (p : Prop) [Decidable p] (a b : State) :
    (if p then a else b).retained = if p then a.retained else b.retained := apply_ite State.retained p a b
@[simp] theorem State.forIx_retained {n : Nat} (f : Fin n → State → State) (s : State) (h : ∀ i t, (f i t).retained = t.retained) :
    (s.forIx f).retained = s.retained := State.forIx_keeps State.retained f s h
@[simp] theorem State.foldl_retained {α : Type} (f : State → α → State) (l : List α) (s : State)
    (h : ∀ t a, (f t a).retained = t.retained) : (l.foldl f s).retained = s.retained := foldl_keeps State.retained f l s h
@[simp] theorem State.ite_store (p : Prop) [Decidable p] (a b : State) :
    (if p then a else b).store = if p then a.store else b.store := apply_ite State.store p a b
@[simp] theorem State.forIx_store {n : Nat} (f : Fin n → State → State) (s : State) (h : ∀ i t, (f i t).store = t.store) :
    (s.forIx f).store = s.store := State.forIx_keeps State.store f s h
@[simp] theorem State.foldl_store {α : Type} (f : State → α → State) (l : List α) (s : State)
    (h : ∀ t a, (f t a).store = t.store) : (l.foldl f s).store = s.store := foldl_keeps State.store f l s h
@[simp] theorem State.ite_storeState (p : Prop) [Decidable p] (a b : State) :
    (if p then a else b).storeState = if p then a.storeState else b.storeState := apply_ite State.storeState p a b
@[simp] theorem State.forIx_storeState {n : Nat} (f : Fin n → State → State) (s : State) (h : ∀ i t, (f i t).storeState = t.storeState) :
    (s.forIx f).storeState = s.storeState := State.forIx_keeps State.storeState f s h
@[simp] theorem State.foldl_storeState {α : Type} (f : State → α → State) (l : List α) (s : State)
    (h : ∀ t a, (f t a).storeState = t.storeState) : (l.foldl f s).storeState = s.storeState := foldl_keeps State.storeState f l s h
@[simp] theorem State.ite_saving (p : Prop) [Decidable p] (a b : State) :
    (if p then a else b).saving = if p then a.saving else b.saving := apply_ite State.saving p a b
@[simp] theorem State.forIx_saving {n : Nat} (f : Fin n → State → State) (s : State) (h : ∀ i t, (f i t).saving = t.saving) :
    (s.forIx f).saving = s.saving := State.forIx_keeps State.saving f s h
@[simp] theorem State.foldl_saving {α : Type} (f : State → α → State) (l : List α) (s : State)
    (h : ∀ t a, (f t a).saving = t.saving) : (l.foldl f s).saving = s.saving := foldl_keeps State.saving f l s h
@[simp] theorem State.ite_tables (p : Prop) [Decidable p] (a b : State) :
    (if p then a else b).tables = if p then a.tables else b.tables := apply_ite State.tables p a b
@[simp] theorem State.forIx_tables {n : Nat} (f : Fin n → State → State) (s : State) (h : ∀ i t, (f i t).tables = t.tables) :
    (s.forIx f).tables = s.tables := State.forIx_keeps State.tables f s h
@[simp] theorem State.foldl_tables {α : Type} (f : State → α → State) (l : List α) (s : State)
    (h : ∀ t a, (f t a).tables = t.tables) : (l.foldl f s).tables = s.tables := foldl_keeps State.tables f l s h
@[simp] theorem State.ite_routes (p : Prop) [Decidable p] (a b : State) :
    (if p then a else b).routes = if p then a.routes else b.routes := apply_ite State.routes p a b
@[simp] theorem State.forIx_routes {n : Nat} (f : Fin n → State → State) (s : State) (h : ∀ i t, (f i t).routes = t.routes) :
    (s.forIx f).routes = s.routes := State.forIx_keeps State.routes f s h
@[simp] theorem State.foldl_routes {α : Type} (f : State → α → State) (l : List α) (s : State)
    (h : ∀ t a, (f t a).routes = t.routes) : (l.foldl f s).routes = s.routes := foldl_keeps State.routes f l s h
@[simp] theorem State.ite_serviceHeld (p : Prop) [Decidable p] (a b : State) :
    (if p then a else b).serviceHeld = if p then a.serviceHeld else b.serviceHeld := apply_ite State.serviceHeld p a b
@[simp] theorem State.forIx_serviceHeld {n : Nat} (f : Fin n → State → State) (s : State) (h : ∀ i t, (f i t).serviceHeld = t.serviceHeld) :
    (s.forIx f).serviceHeld = s.serviceHeld := State.forIx_keeps State.serviceHeld f s h
@[simp] theorem State.foldl_serviceHeld {α : Type} (f : State → α → State) (l : List α) (s : State)
    (h : ∀ t a, (f t a).serviceHeld = t.serviceHeld) : (l.foldl f s).serviceHeld = s.serviceHeld := foldl_keeps State.serviceHeld f l s h
@[simp] theorem State.ite_zones (p : Prop) [Decidable p] (a b : State) :
    (if p then a else b).zones = if p then a.zones else b.zones := apply_ite State.zones p a b
@[simp] theorem State.forIx_zones {n : Nat} (f : Fin n → State → State) (s : State) (h : ∀ i t, (f i t).zones = t.zones) :
    (s.forIx f).zones = s.zones := State.forIx_keeps State.zones f s h
@[simp] theorem State.foldl_zones {α : Type} (f : State → α → State) (l : List α) (s : State)
    (h : ∀ t a, (f t a).zones = t.zones) : (l.foldl f s).zones = s.zones := foldl_keeps State.zones f l s h
@[simp] theorem State.ite_arbiter (p : Prop) [Decidable p] (a b : State) :
    (if p then a else b).arbiter = if p then a.arbiter else b.arbiter := apply_ite State.arbiter p a b
@[simp] theorem State.forIx_arbiter {n : Nat} (f : Fin n → State → State) (s : State) (h : ∀ i t, (f i t).arbiter = t.arbiter) :
    (s.forIx f).arbiter = s.arbiter := State.forIx_keeps State.arbiter f s h
@[simp] theorem State.foldl_arbiter {α : Type} (f : State → α → State) (l : List α) (s : State)
    (h : ∀ t a, (f t a).arbiter = t.arbiter) : (l.foldl f s).arbiter = s.arbiter := foldl_keeps State.arbiter f l s h
@[simp] theorem State.ite_command (p : Prop) [Decidable p] (a b : State) :
    (if p then a else b).command = if p then a.command else b.command := apply_ite State.command p a b
@[simp] theorem State.forIx_command {n : Nat} (f : Fin n → State → State) (s : State) (h : ∀ i t, (f i t).command = t.command) :
    (s.forIx f).command = s.command := State.forIx_keeps State.command f s h
@[simp] theorem State.foldl_command {α : Type} (f : State → α → State) (l : List α) (s : State)
    (h : ∀ t a, (f t a).command = t.command) : (l.foldl f s).command = s.command := foldl_keeps State.command f l s h
@[simp] theorem State.ite_computation (p : Prop) [Decidable p] (a b : State) :
    (if p then a else b).computation = if p then a.computation else b.computation := apply_ite State.computation p a b
@[simp] theorem State.forIx_computation {n : Nat} (f : Fin n → State → State) (s : State) (h : ∀ i t, (f i t).computation = t.computation) :
    (s.forIx f).computation = s.computation := State.forIx_keeps State.computation f s h
@[simp] theorem State.foldl_computation {α : Type} (f : State → α → State) (l : List α) (s : State)
    (h : ∀ t a, (f t a).computation = t.computation) : (l.foldl f s).computation = s.computation := foldl_keeps State.computation f l s h
@[simp] theorem State.ite_channels (p : Prop) [Decidable p] (a b : State) :
    (if p then a else b).channels = if p then a.channels else b.channels := apply_ite State.channels p a b
@[simp] theorem State.forIx_channels {n : Nat} (f : Fin n → State → State) (s : State) (h : ∀ i t, (f i t).channels = t.channels) :
    (s.forIx f).channels = s.channels := State.forIx_keeps State.channels f s h
@[simp] theorem State.foldl_channels {α : Type} (f : State → α → State) (l : List α) (s : State)
    (h : ∀ t a, (f t a).channels = t.channels) : (l.foldl f s).channels = s.channels := foldl_keeps State.channels f l s h
@[simp] theorem State.ite_queue (p : Prop) [Decidable p] (a b : State) :
    (if p then a else b).queue = if p then a.queue else b.queue := apply_ite State.queue p a b
@[simp] theorem State.forIx_queue {n : Nat} (f : Fin n → State → State) (s : State) (h : ∀ i t, (f i t).queue = t.queue) :
    (s.forIx f).queue = s.queue := State.forIx_keeps State.queue f s h
@[simp] theorem State.foldl_queue {α : Type} (f : State → α → State) (l : List α) (s : State)
    (h : ∀ t a, (f t a).queue = t.queue) : (l.foldl f s).queue = s.queue := foldl_keeps State.queue f l s h
@[simp] theorem State.ite_slotLimit (p : Prop) [Decidable p] (a b : State) :
    (if p then a else b).slotLimit = if p then a.slotLimit else b.slotLimit := apply_ite State.slotLimit p a b
@[simp] theorem State.forIx_slotLimit {n : Nat} (f : Fin n → State → State) (s : State) (h : ∀ i t, (f i t).slotLimit = t.slotLimit) :
    (s.forIx f).slotLimit = s.slotLimit := State.forIx_keeps State.slotLimit f s h
@[simp] theorem State.foldl_slotLimit {α : Type} (f : State → α → State) (l : List α) (s : State)
    (h : ∀ t a, (f t a).slotLimit = t.slotLimit) : (l.foldl f s).slotLimit = s.slotLimit := foldl_keeps State.slotLimit f l s h
@[simp] theorem State.ite_homingDue (p : Prop) [Decidable p] (a b : State) :
    (if p then a else b).homingDue = if p then a.homingDue else b.homingDue := apply_ite State.homingDue p a b
@[simp] theorem State.forIx_homingDue {n : Nat} (f : Fin n → State → State) (s : State) (h : ∀ i t, (f i t).homingDue = t.homingDue) :
    (s.forIx f).homingDue = s.homingDue := State.forIx_keeps State.homingDue f s h
@[simp] theorem State.foldl_homingDue {α : Type} (f : State → α → State) (l : List α) (s : State)
    (h : ∀ t a, (f t a).homingDue = t.homingDue) : (l.foldl f s).homingDue = s.homingDue := foldl_keeps State.homingDue f l s h
@[simp] theorem State.ite_links (p : Prop) [Decidable p] (a b : State) :
    (if p then a else b).links = if p then a.links else b.links := apply_ite State.links p a b
@[simp] theorem State.forIx_links {n : Nat} (f : Fin n → State → State) (s : State) (h : ∀ i t, (f i t).links = t.links) :
    (s.forIx f).links = s.links := State.forIx_keeps State.links f s h
@[simp] theorem State.foldl_links {α : Type} (f : State → α → State) (l : List α) (s : State)
    (h : ∀ t a, (f t a).links = t.links) : (l.foldl f s).links = s.links := foldl_keeps State.links f l s h
@[simp] theorem State.ite_room (p : Prop) [Decidable p] (a b : State) :
    (if p then a else b).room = if p then a.room else b.room := apply_ite State.room p a b
@[simp] theorem State.forIx_room {n : Nat} (f : Fin n → State → State) (s : State) (h : ∀ i t, (f i t).room = t.room) :
    (s.forIx f).room = s.room := State.forIx_keeps State.room f s h
@[simp] theorem State.foldl_room {α : Type} (f : State → α → State) (l : List α) (s : State)
    (h : ∀ t a, (f t a).room = t.room) : (l.foldl f s).room = s.room := foldl_keeps State.room f l s h
@[simp] theorem State.ite_plant (p : Prop) [Decidable p] (a b : State) :
    (if p then a else b).plant = if p then a.plant else b.plant := apply_ite State.plant p a b
@[simp] theorem State.forIx_plant {n : Nat} (f : Fin n → State → State) (s : State) (h : ∀ i t, (f i t).plant = t.plant) :
    (s.forIx f).plant = s.plant := State.forIx_keeps State.plant f s h
@[simp] theorem State.foldl_plant {α : Type} (f : State → α → State) (l : List α) (s : State)
    (h : ∀ t a, (f t a).plant = t.plant) : (l.foldl f s).plant = s.plant := foldl_keeps State.plant f l s h
@[simp] theorem State.ite_relay (p : Prop) [Decidable p] (a b : State) :
    (if p then a else b).relay = if p then a.relay else b.relay := apply_ite State.relay p a b
@[simp] theorem State.forIx_relay {n : Nat} (f : Fin n → State → State) (s : State) (h : ∀ i t, (f i t).relay = t.relay) :
    (s.forIx f).relay = s.relay := State.forIx_keeps State.relay f s h
@[simp] theorem State.foldl_relay {α : Type} (f : State → α → State) (l : List α) (s : State)
    (h : ∀ t a, (f t a).relay = t.relay) : (l.foldl f s).relay = s.relay := foldl_keeps State.relay f l s h
@[simp] theorem State.ite_decoder (p : Prop) [Decidable p] (a b : State) :
    (if p then a else b).decoder = if p then a.decoder else b.decoder := apply_ite State.decoder p a b
@[simp] theorem State.forIx_decoder {n : Nat} (f : Fin n → State → State) (s : State) (h : ∀ i t, (f i t).decoder = t.decoder) :
    (s.forIx f).decoder = s.decoder := State.forIx_keeps State.decoder f s h
@[simp] theorem State.foldl_decoder {α : Type} (f : State → α → State) (l : List α) (s : State)
    (h : ∀ t a, (f t a).decoder = t.decoder) : (l.foldl f s).decoder = s.decoder := foldl_keeps State.decoder f l s h
@[simp] theorem State.ite_events (p : Prop) [Decidable p] (a b : State) :
    (if p then a else b).events = if p then a.events else b.events := apply_ite State.events p a b
@[simp] theorem State.forIx_events {n : Nat} (f : Fin n → State → State) (s : State) (h : ∀ i t, (f i t).events = t.events) :
    (s.forIx f).events = s.events := State.forIx_keeps State.events f s h
@[simp] theorem State.foldl_events {α : Type} (f : State → α → State) (l : List α) (s : State)
    (h : ∀ t a, (f t a).events = t.events) : (l.foldl f s).events = s.events := foldl_keeps State.events f l s h

end Sys2Proof.Machine
end

