-- ==== Sys2Proof/Laws/FrameRecord.lean ====
section
/-! SUPPORT. What the operations of the event marks, the query relay and the plant command record leave alone: for each operation, every field of State that it does not
write. -/

namespace Sys2Proof.Machine

@[simp] theorem State.raise_frame (s : State) (e : Event) :
    (s.raise e).now = s.now ∧ (s.raise e).pending = s.pending ∧ (s.raise e).phase = s.phase ∧
      (s.raise e).resetAt = s.resetAt ∧ (s.raise e).supply = s.supply ∧ (s.raise e).retained = s.retained ∧
      (s.raise e).store = s.store ∧ (s.raise e).storeState = s.storeState ∧ (s.raise e).saving = s.saving ∧
      (s.raise e).tables = s.tables ∧ (s.raise e).routes = s.routes ∧ (s.raise e).serviceHeld = s.serviceHeld ∧
      (s.raise e).zones = s.zones ∧ (s.raise e).arbiter = s.arbiter ∧ (s.raise e).command = s.command ∧
      (s.raise e).computation = s.computation ∧ (s.raise e).channels = s.channels ∧ (s.raise e).queue = s.queue ∧
      (s.raise e).slotLimit = s.slotLimit ∧ (s.raise e).homingDue = s.homingDue ∧ (s.raise e).links = s.links ∧
      (s.raise e).room = s.room ∧ (s.raise e).plant = s.plant ∧ (s.raise e).relay = s.relay ∧
      (s.raise e).decoder = s.decoder := by
  simp [State.raise]

@[simp] theorem State.unraise_frame (s : State) (e : Event) :
    (s.unraise e).now = s.now ∧ (s.unraise e).pending = s.pending ∧ (s.unraise e).phase = s.phase ∧
      (s.unraise e).resetAt = s.resetAt ∧ (s.unraise e).supply = s.supply ∧ (s.unraise e).retained = s.retained ∧
      (s.unraise e).store = s.store ∧ (s.unraise e).storeState = s.storeState ∧ (s.unraise e).saving = s.saving ∧
      (s.unraise e).tables = s.tables ∧ (s.unraise e).routes = s.routes ∧ (s.unraise e).serviceHeld = s.serviceHeld ∧
      (s.unraise e).zones = s.zones ∧ (s.unraise e).arbiter = s.arbiter ∧ (s.unraise e).command = s.command ∧
      (s.unraise e).computation = s.computation ∧ (s.unraise e).channels = s.channels ∧
      (s.unraise e).queue = s.queue ∧ (s.unraise e).slotLimit = s.slotLimit ∧ (s.unraise e).homingDue = s.homingDue ∧
      (s.unraise e).links = s.links ∧ (s.unraise e).room = s.room ∧ (s.unraise e).plant = s.plant ∧
      (s.unraise e).relay = s.relay ∧ (s.unraise e).decoder = s.decoder := by
  simp [State.unraise]

@[simp] theorem State.endOffer_frame (s : State) (taken : Bool) :
    (s.endOffer taken).now = s.now ∧ (s.endOffer taken).pending = s.pending ∧ (s.endOffer taken).phase = s.phase ∧
      (s.endOffer taken).resetAt = s.resetAt ∧ (s.endOffer taken).supply = s.supply ∧
      (s.endOffer taken).retained = s.retained ∧ (s.endOffer taken).store = s.store ∧
      (s.endOffer taken).storeState = s.storeState ∧ (s.endOffer taken).saving = s.saving ∧
      (s.endOffer taken).tables = s.tables ∧ (s.endOffer taken).routes = s.routes ∧
      (s.endOffer taken).serviceHeld = s.serviceHeld ∧ (s.endOffer taken).zones = s.zones ∧
      (s.endOffer taken).arbiter = s.arbiter ∧ (s.endOffer taken).command = s.command ∧
      (s.endOffer taken).computation = s.computation ∧ (s.endOffer taken).channels = s.channels ∧
      (s.endOffer taken).queue = s.queue ∧ (s.endOffer taken).slotLimit = s.slotLimit ∧
      (s.endOffer taken).homingDue = s.homingDue ∧ (s.endOffer taken).links = s.links ∧
      (s.endOffer taken).room = s.room ∧ (s.endOffer taken).plant = s.plant ∧ (s.endOffer taken).relay = s.relay ∧
      (s.endOffer taken).decoder = s.decoder := by
  unfold State.endOffer
  dsimp only
  (repeat' split) <;> simp

@[simp] theorem State.clearEvent_frame (s : State) (e : Event) :
    (s.clearEvent e).now = s.now ∧ (s.clearEvent e).pending = s.pending ∧ (s.clearEvent e).phase = s.phase ∧
      (s.clearEvent e).resetAt = s.resetAt ∧ (s.clearEvent e).supply = s.supply ∧
      (s.clearEvent e).retained = s.retained ∧ (s.clearEvent e).store = s.store ∧
      (s.clearEvent e).storeState = s.storeState ∧ (s.clearEvent e).saving = s.saving ∧
      (s.clearEvent e).tables = s.tables ∧ (s.clearEvent e).routes = s.routes ∧
      (s.clearEvent e).serviceHeld = s.serviceHeld ∧ (s.clearEvent e).zones = s.zones ∧
      (s.clearEvent e).arbiter = s.arbiter ∧ (s.clearEvent e).command = s.command ∧
      (s.clearEvent e).computation = s.computation ∧ (s.clearEvent e).channels = s.channels ∧
      (s.clearEvent e).queue = s.queue ∧ (s.clearEvent e).slotLimit = s.slotLimit ∧
      (s.clearEvent e).homingDue = s.homingDue ∧ (s.clearEvent e).links = s.links ∧ (s.clearEvent e).room = s.room ∧
      (s.clearEvent e).plant = s.plant ∧ (s.clearEvent e).relay = s.relay ∧ (s.clearEvent e).decoder = s.decoder := by
  simp [State.clearEvent]

@[simp] theorem State.takeQuery_frame (s : State) (requester target item : Byte) (argument : BitVec 16) :
    (s.takeQuery requester target item argument).2.now = s.now ∧
      (s.takeQuery requester target item argument).2.pending = s.pending ∧
      (s.takeQuery requester target item argument).2.phase = s.phase ∧
      (s.takeQuery requester target item argument).2.resetAt = s.resetAt ∧
      (s.takeQuery requester target item argument).2.supply = s.supply ∧
      (s.takeQuery requester target item argument).2.retained = s.retained ∧
      (s.takeQuery requester target item argument).2.store = s.store ∧
      (s.takeQuery requester target item argument).2.storeState = s.storeState ∧
      (s.takeQuery requester target item argument).2.saving = s.saving ∧
      (s.takeQuery requester target item argument).2.tables = s.tables ∧
      (s.takeQuery requester target item argument).2.routes = s.routes ∧
      (s.takeQuery requester target item argument).2.serviceHeld = s.serviceHeld ∧
      (s.takeQuery requester target item argument).2.zones = s.zones ∧
      (s.takeQuery requester target item argument).2.arbiter = s.arbiter ∧
      (s.takeQuery requester target item argument).2.command = s.command ∧
      (s.takeQuery requester target item argument).2.computation = s.computation ∧
      (s.takeQuery requester target item argument).2.channels = s.channels ∧
      (s.takeQuery requester target item argument).2.queue = s.queue ∧
      (s.takeQuery requester target item argument).2.slotLimit = s.slotLimit ∧
      (s.takeQuery requester target item argument).2.homingDue = s.homingDue ∧
      (s.takeQuery requester target item argument).2.links = s.links ∧
      (s.takeQuery requester target item argument).2.room = s.room ∧
      (s.takeQuery requester target item argument).2.plant = s.plant ∧
      (s.takeQuery requester target item argument).2.decoder = s.decoder ∧
      (s.takeQuery requester target item argument).2.events = s.events := by
  unfold State.takeQuery
  dsimp only
  (repeat' split) <;> simp

@[simp] theorem State.queryOnLine_frame (s : State) (tag : Nat) :
    (s.queryOnLine tag).now = s.now ∧ (s.queryOnLine tag).pending = s.pending ∧ (s.queryOnLine tag).phase = s.phase ∧
      (s.queryOnLine tag).resetAt = s.resetAt ∧ (s.queryOnLine tag).supply = s.supply ∧
      (s.queryOnLine tag).retained = s.retained ∧ (s.queryOnLine tag).store = s.store ∧
      (s.queryOnLine tag).storeState = s.storeState ∧ (s.queryOnLine tag).saving = s.saving ∧
      (s.queryOnLine tag).tables = s.tables ∧ (s.queryOnLine tag).routes = s.routes ∧
      (s.queryOnLine tag).serviceHeld = s.serviceHeld ∧ (s.queryOnLine tag).zones = s.zones ∧
      (s.queryOnLine tag).arbiter = s.arbiter ∧ (s.queryOnLine tag).command = s.command ∧
      (s.queryOnLine tag).computation = s.computation ∧ (s.queryOnLine tag).channels = s.channels ∧
      (s.queryOnLine tag).queue = s.queue ∧ (s.queryOnLine tag).slotLimit = s.slotLimit ∧
      (s.queryOnLine tag).homingDue = s.homingDue ∧ (s.queryOnLine tag).links = s.links ∧
      (s.queryOnLine tag).room = s.room ∧ (s.queryOnLine tag).plant = s.plant ∧
      (s.queryOnLine tag).decoder = s.decoder ∧ (s.queryOnLine tag).events = s.events := by
  simp [State.queryOnLine]

@[simp] theorem State.queryOffLine_frame (s : State) :
    (s.queryOffLine).now = s.now ∧ (s.queryOffLine).pending = s.pending ∧ (s.queryOffLine).phase = s.phase ∧
      (s.queryOffLine).resetAt = s.resetAt ∧ (s.queryOffLine).supply = s.supply ∧
      (s.queryOffLine).retained = s.retained ∧ (s.queryOffLine).store = s.store ∧
      (s.queryOffLine).storeState = s.storeState ∧ (s.queryOffLine).saving = s.saving ∧
      (s.queryOffLine).tables = s.tables ∧ (s.queryOffLine).routes = s.routes ∧
      (s.queryOffLine).serviceHeld = s.serviceHeld ∧ (s.queryOffLine).zones = s.zones ∧
      (s.queryOffLine).arbiter = s.arbiter ∧ (s.queryOffLine).command = s.command ∧
      (s.queryOffLine).computation = s.computation ∧ (s.queryOffLine).channels = s.channels ∧
      (s.queryOffLine).queue = s.queue ∧ (s.queryOffLine).slotLimit = s.slotLimit ∧
      (s.queryOffLine).homingDue = s.homingDue ∧ (s.queryOffLine).links = s.links ∧ (s.queryOffLine).room = s.room ∧
      (s.queryOffLine).plant = s.plant ∧ (s.queryOffLine).decoder = s.decoder ∧ (s.queryOffLine).events = s.events := by
  simp [State.queryOffLine]

@[simp] theorem State.queryAccepted_frame (s : State) (tag : Nat) :
    (s.queryAccepted tag).now = s.now ∧ (s.queryAccepted tag).pending = s.pending ∧
      (s.queryAccepted tag).phase = s.phase ∧ (s.queryAccepted tag).resetAt = s.resetAt ∧
      (s.queryAccepted tag).supply = s.supply ∧ (s.queryAccepted tag).retained = s.retained ∧
      (s.queryAccepted tag).store = s.store ∧ (s.queryAccepted tag).storeState = s.storeState ∧
      (s.queryAccepted tag).saving = s.saving ∧ (s.queryAccepted tag).tables = s.tables ∧
      (s.queryAccepted tag).routes = s.routes ∧ (s.queryAccepted tag).serviceHeld = s.serviceHeld ∧
      (s.queryAccepted tag).zones = s.zones ∧ (s.queryAccepted tag).arbiter = s.arbiter ∧
      (s.queryAccepted tag).command = s.command ∧ (s.queryAccepted tag).computation = s.computation ∧
      (s.queryAccepted tag).channels = s.channels ∧ (s.queryAccepted tag).queue = s.queue ∧
      (s.queryAccepted tag).slotLimit = s.slotLimit ∧ (s.queryAccepted tag).homingDue = s.homingDue ∧
      (s.queryAccepted tag).links = s.links ∧ (s.queryAccepted tag).room = s.room ∧
      (s.queryAccepted tag).plant = s.plant ∧ (s.queryAccepted tag).decoder = s.decoder ∧
      (s.queryAccepted tag).events = s.events := by
  unfold State.queryAccepted
  dsimp only
  (repeat' split) <;> simp

@[simp] theorem State.takeAnswer_frame (s : State) (n : Node) (a : AnswerPart) :
    (s.takeAnswer n a).now = s.now ∧ (s.takeAnswer n a).pending = s.pending ∧ (s.takeAnswer n a).phase = s.phase ∧
      (s.takeAnswer n a).resetAt = s.resetAt ∧ (s.takeAnswer n a).supply = s.supply ∧
      (s.takeAnswer n a).retained = s.retained ∧ (s.takeAnswer n a).store = s.store ∧
      (s.takeAnswer n a).storeState = s.storeState ∧ (s.takeAnswer n a).saving = s.saving ∧
      (s.takeAnswer n a).tables = s.tables ∧ (s.takeAnswer n a).routes = s.routes ∧
      (s.takeAnswer n a).serviceHeld = s.serviceHeld ∧ (s.takeAnswer n a).zones = s.zones ∧
      (s.takeAnswer n a).arbiter = s.arbiter ∧ (s.takeAnswer n a).command = s.command ∧
      (s.takeAnswer n a).computation = s.computation ∧ (s.takeAnswer n a).channels = s.channels ∧
      (s.takeAnswer n a).queue = s.queue ∧ (s.takeAnswer n a).slotLimit = s.slotLimit ∧
      (s.takeAnswer n a).homingDue = s.homingDue ∧ (s.takeAnswer n a).links = s.links ∧
      (s.takeAnswer n a).room = s.room ∧ (s.takeAnswer n a).plant = s.plant ∧
      (s.takeAnswer n a).decoder = s.decoder ∧ (s.takeAnswer n a).events = s.events := by
  simp [State.takeAnswer]

@[simp] theorem State.answerTimerExpired_frame (s : State) (tag : Nat) :
    (s.answerTimerExpired tag).now = s.now ∧ (s.answerTimerExpired tag).pending = s.pending ∧
      (s.answerTimerExpired tag).phase = s.phase ∧ (s.answerTimerExpired tag).resetAt = s.resetAt ∧
      (s.answerTimerExpired tag).supply = s.supply ∧ (s.answerTimerExpired tag).retained = s.retained ∧
      (s.answerTimerExpired tag).store = s.store ∧ (s.answerTimerExpired tag).storeState = s.storeState ∧
      (s.answerTimerExpired tag).saving = s.saving ∧ (s.answerTimerExpired tag).tables = s.tables ∧
      (s.answerTimerExpired tag).routes = s.routes ∧ (s.answerTimerExpired tag).serviceHeld = s.serviceHeld ∧
      (s.answerTimerExpired tag).zones = s.zones ∧ (s.answerTimerExpired tag).arbiter = s.arbiter ∧
      (s.answerTimerExpired tag).command = s.command ∧ (s.answerTimerExpired tag).computation = s.computation ∧
      (s.answerTimerExpired tag).channels = s.channels ∧ (s.answerTimerExpired tag).queue = s.queue ∧
      (s.answerTimerExpired tag).slotLimit = s.slotLimit ∧ (s.answerTimerExpired tag).homingDue = s.homingDue ∧
      (s.answerTimerExpired tag).links = s.links ∧ (s.answerTimerExpired tag).room = s.room ∧
      (s.answerTimerExpired tag).plant = s.plant ∧ (s.answerTimerExpired tag).decoder = s.decoder := by
  simp [State.answerTimerExpired]

@[simp] theorem State.expireQueries_frame (s : State) (n : Node) :
    (s.expireQueries n).now = s.now ∧ (s.expireQueries n).pending = s.pending ∧ (s.expireQueries n).phase = s.phase ∧
      (s.expireQueries n).resetAt = s.resetAt ∧ (s.expireQueries n).supply = s.supply ∧
      (s.expireQueries n).retained = s.retained ∧ (s.expireQueries n).store = s.store ∧
      (s.expireQueries n).storeState = s.storeState ∧ (s.expireQueries n).saving = s.saving ∧
      (s.expireQueries n).tables = s.tables ∧ (s.expireQueries n).routes = s.routes ∧
      (s.expireQueries n).serviceHeld = s.serviceHeld ∧ (s.expireQueries n).zones = s.zones ∧
      (s.expireQueries n).arbiter = s.arbiter ∧ (s.expireQueries n).command = s.command ∧
      (s.expireQueries n).computation = s.computation ∧ (s.expireQueries n).channels = s.channels ∧
      (s.expireQueries n).queue = s.queue ∧ (s.expireQueries n).slotLimit = s.slotLimit ∧
      (s.expireQueries n).homingDue = s.homingDue ∧ (s.expireQueries n).links = s.links ∧
      (s.expireQueries n).room = s.room ∧ (s.expireQueries n).plant = s.plant ∧
      (s.expireQueries n).decoder = s.decoder ∧ (s.expireQueries n).events = s.events := by
  simp [State.expireQueries]

@[simp] theorem State.freeQueriesOf_frame (s : State) (a : Byte) :
    (s.freeQueriesOf a).now = s.now ∧ (s.freeQueriesOf a).pending = s.pending ∧ (s.freeQueriesOf a).phase = s.phase ∧
      (s.freeQueriesOf a).resetAt = s.resetAt ∧ (s.freeQueriesOf a).supply = s.supply ∧
      (s.freeQueriesOf a).retained = s.retained ∧ (s.freeQueriesOf a).store = s.store ∧
      (s.freeQueriesOf a).storeState = s.storeState ∧ (s.freeQueriesOf a).saving = s.saving ∧
      (s.freeQueriesOf a).tables = s.tables ∧ (s.freeQueriesOf a).routes = s.routes ∧
      (s.freeQueriesOf a).serviceHeld = s.serviceHeld ∧ (s.freeQueriesOf a).zones = s.zones ∧
      (s.freeQueriesOf a).arbiter = s.arbiter ∧ (s.freeQueriesOf a).command = s.command ∧
      (s.freeQueriesOf a).computation = s.computation ∧ (s.freeQueriesOf a).channels = s.channels ∧
      (s.freeQueriesOf a).queue = s.queue ∧ (s.freeQueriesOf a).slotLimit = s.slotLimit ∧
      (s.freeQueriesOf a).homingDue = s.homingDue ∧ (s.freeQueriesOf a).links = s.links ∧
      (s.freeQueriesOf a).room = s.room ∧ (s.freeQueriesOf a).plant = s.plant ∧
      (s.freeQueriesOf a).decoder = s.decoder ∧ (s.freeQueriesOf a).events = s.events := by
  simp [State.freeQueriesOf]

@[simp] theorem State.freeDelivered_frame (s : State) (a : Byte) :
    (s.freeDelivered a).now = s.now ∧ (s.freeDelivered a).pending = s.pending ∧ (s.freeDelivered a).phase = s.phase ∧
      (s.freeDelivered a).resetAt = s.resetAt ∧ (s.freeDelivered a).supply = s.supply ∧
      (s.freeDelivered a).retained = s.retained ∧ (s.freeDelivered a).store = s.store ∧
      (s.freeDelivered a).storeState = s.storeState ∧ (s.freeDelivered a).saving = s.saving ∧
      (s.freeDelivered a).tables = s.tables ∧ (s.freeDelivered a).routes = s.routes ∧
      (s.freeDelivered a).serviceHeld = s.serviceHeld ∧ (s.freeDelivered a).zones = s.zones ∧
      (s.freeDelivered a).arbiter = s.arbiter ∧ (s.freeDelivered a).command = s.command ∧
      (s.freeDelivered a).computation = s.computation ∧ (s.freeDelivered a).channels = s.channels ∧
      (s.freeDelivered a).queue = s.queue ∧ (s.freeDelivered a).slotLimit = s.slotLimit ∧
      (s.freeDelivered a).homingDue = s.homingDue ∧ (s.freeDelivered a).links = s.links ∧
      (s.freeDelivered a).room = s.room ∧ (s.freeDelivered a).plant = s.plant ∧
      (s.freeDelivered a).decoder = s.decoder ∧ (s.freeDelivered a).events = s.events := by
  simp [State.freeDelivered]

@[simp] theorem State.setLinkState_frame (s : State) (n : Node) (st : LinkState) :
    (s.setLinkState n st).now = s.now ∧ (s.setLinkState n st).pending = s.pending ∧
      (s.setLinkState n st).phase = s.phase ∧ (s.setLinkState n st).resetAt = s.resetAt ∧
      (s.setLinkState n st).supply = s.supply ∧ (s.setLinkState n st).retained = s.retained ∧
      (s.setLinkState n st).store = s.store ∧ (s.setLinkState n st).storeState = s.storeState ∧
      (s.setLinkState n st).saving = s.saving ∧ (s.setLinkState n st).tables = s.tables ∧
      (s.setLinkState n st).routes = s.routes ∧ (s.setLinkState n st).serviceHeld = s.serviceHeld ∧
      (s.setLinkState n st).zones = s.zones ∧ (s.setLinkState n st).arbiter = s.arbiter ∧
      (s.setLinkState n st).command = s.command ∧ (s.setLinkState n st).computation = s.computation ∧
      (s.setLinkState n st).channels = s.channels ∧ (s.setLinkState n st).queue = s.queue ∧
      (s.setLinkState n st).slotLimit = s.slotLimit ∧ (s.setLinkState n st).homingDue = s.homingDue ∧
      (s.setLinkState n st).room = s.room ∧ (s.setLinkState n st).plant = s.plant ∧
      (s.setLinkState n st).decoder = s.decoder ∧ (s.setLinkState n st).events = s.events := by
  simp [State.setLinkState]

@[simp] theorem State.closeStop_frame (s : State) (n : Node) :
    (s.closeStop n).now = s.now ∧ (s.closeStop n).pending = s.pending ∧ (s.closeStop n).phase = s.phase ∧
      (s.closeStop n).resetAt = s.resetAt ∧ (s.closeStop n).supply = s.supply ∧
      (s.closeStop n).retained = s.retained ∧ (s.closeStop n).store = s.store ∧
      (s.closeStop n).storeState = s.storeState ∧ (s.closeStop n).saving = s.saving ∧
      (s.closeStop n).tables = s.tables ∧ (s.closeStop n).routes = s.routes ∧
      (s.closeStop n).serviceHeld = s.serviceHeld ∧ (s.closeStop n).zones = s.zones ∧
      (s.closeStop n).arbiter = s.arbiter ∧ (s.closeStop n).command = s.command ∧
      (s.closeStop n).computation = s.computation ∧ (s.closeStop n).channels = s.channels ∧
      (s.closeStop n).queue = s.queue ∧ (s.closeStop n).slotLimit = s.slotLimit ∧
      (s.closeStop n).homingDue = s.homingDue ∧ (s.closeStop n).room = s.room ∧ (s.closeStop n).plant = s.plant ∧
      (s.closeStop n).relay = s.relay ∧ (s.closeStop n).decoder = s.decoder ∧ (s.closeStop n).events = s.events := by
  simp [State.closeStop]

@[simp] theorem State.openStop_frame (s : State) (n : Node) :
    (s.openStop n).now = s.now ∧ (s.openStop n).pending = s.pending ∧ (s.openStop n).phase = s.phase ∧
      (s.openStop n).resetAt = s.resetAt ∧ (s.openStop n).supply = s.supply ∧ (s.openStop n).retained = s.retained ∧
      (s.openStop n).store = s.store ∧ (s.openStop n).storeState = s.storeState ∧ (s.openStop n).saving = s.saving ∧
      (s.openStop n).tables = s.tables ∧ (s.openStop n).routes = s.routes ∧
      (s.openStop n).serviceHeld = s.serviceHeld ∧ (s.openStop n).zones = s.zones ∧
      (s.openStop n).arbiter = s.arbiter ∧ (s.openStop n).command = s.command ∧
      (s.openStop n).computation = s.computation ∧ (s.openStop n).channels = s.channels ∧
      (s.openStop n).queue = s.queue ∧ (s.openStop n).slotLimit = s.slotLimit ∧
      (s.openStop n).homingDue = s.homingDue ∧ (s.openStop n).room = s.room ∧ (s.openStop n).plant = s.plant ∧
      (s.openStop n).relay = s.relay ∧ (s.openStop n).decoder = s.decoder ∧ (s.openStop n).events = s.events := by
  simp [State.openStop]

@[simp] theorem State.modeTurnedOff_frame (s : State) (n : Node) :
    (s.modeTurnedOff n).now = s.now ∧ (s.modeTurnedOff n).pending = s.pending ∧ (s.modeTurnedOff n).phase = s.phase ∧
      (s.modeTurnedOff n).resetAt = s.resetAt ∧ (s.modeTurnedOff n).supply = s.supply ∧
      (s.modeTurnedOff n).retained = s.retained ∧ (s.modeTurnedOff n).store = s.store ∧
      (s.modeTurnedOff n).storeState = s.storeState ∧ (s.modeTurnedOff n).saving = s.saving ∧
      (s.modeTurnedOff n).tables = s.tables ∧ (s.modeTurnedOff n).routes = s.routes ∧
      (s.modeTurnedOff n).serviceHeld = s.serviceHeld ∧ (s.modeTurnedOff n).zones = s.zones ∧
      (s.modeTurnedOff n).arbiter = s.arbiter ∧ (s.modeTurnedOff n).command = s.command ∧
      (s.modeTurnedOff n).computation = s.computation ∧ (s.modeTurnedOff n).channels = s.channels ∧
      (s.modeTurnedOff n).queue = s.queue ∧ (s.modeTurnedOff n).slotLimit = s.slotLimit ∧
      (s.modeTurnedOff n).homingDue = s.homingDue ∧ (s.modeTurnedOff n).room = s.room ∧
      (s.modeTurnedOff n).plant = s.plant ∧ (s.modeTurnedOff n).decoder = s.decoder ∧
      (s.modeTurnedOff n).events = s.events := by
  unfold State.modeTurnedOff
  (repeat' split) <;> simp

@[simp] theorem State.modeTurnedOn_frame (s : State) (n : Node) :
    (s.modeTurnedOn n).now = s.now ∧ (s.modeTurnedOn n).pending = s.pending ∧ (s.modeTurnedOn n).phase = s.phase ∧
      (s.modeTurnedOn n).resetAt = s.resetAt ∧ (s.modeTurnedOn n).supply = s.supply ∧
      (s.modeTurnedOn n).retained = s.retained ∧ (s.modeTurnedOn n).store = s.store ∧
      (s.modeTurnedOn n).storeState = s.storeState ∧ (s.modeTurnedOn n).saving = s.saving ∧
      (s.modeTurnedOn n).tables = s.tables ∧ (s.modeTurnedOn n).routes = s.routes ∧
      (s.modeTurnedOn n).serviceHeld = s.serviceHeld ∧ (s.modeTurnedOn n).zones = s.zones ∧
      (s.modeTurnedOn n).arbiter = s.arbiter ∧ (s.modeTurnedOn n).command = s.command ∧
      (s.modeTurnedOn n).computation = s.computation ∧ (s.modeTurnedOn n).channels = s.channels ∧
      (s.modeTurnedOn n).queue = s.queue ∧ (s.modeTurnedOn n).slotLimit = s.slotLimit ∧
      (s.modeTurnedOn n).homingDue = s.homingDue ∧ (s.modeTurnedOn n).room = s.room ∧
      (s.modeTurnedOn n).plant = s.plant ∧ (s.modeTurnedOn n).decoder = s.decoder ∧
      (s.modeTurnedOn n).events = s.events := by
  simp [State.modeTurnedOn]

@[simp] theorem State.watchMode_frame (s : State) (n : Node) (was is : Bool) :
    (s.watchMode n was is).now = s.now ∧ (s.watchMode n was is).pending = s.pending ∧
      (s.watchMode n was is).phase = s.phase ∧ (s.watchMode n was is).resetAt = s.resetAt ∧
      (s.watchMode n was is).supply = s.supply ∧ (s.watchMode n was is).retained = s.retained ∧
      (s.watchMode n was is).store = s.store ∧ (s.watchMode n was is).storeState = s.storeState ∧
      (s.watchMode n was is).saving = s.saving ∧ (s.watchMode n was is).tables = s.tables ∧
      (s.watchMode n was is).routes = s.routes ∧ (s.watchMode n was is).serviceHeld = s.serviceHeld ∧
      (s.watchMode n was is).zones = s.zones ∧ (s.watchMode n was is).arbiter = s.arbiter ∧
      (s.watchMode n was is).command = s.command ∧ (s.watchMode n was is).computation = s.computation ∧
      (s.watchMode n was is).channels = s.channels ∧ (s.watchMode n was is).queue = s.queue ∧
      (s.watchMode n was is).slotLimit = s.slotLimit ∧ (s.watchMode n was is).homingDue = s.homingDue ∧
      (s.watchMode n was is).room = s.room ∧ (s.watchMode n was is).plant = s.plant ∧
      (s.watchMode n was is).decoder = s.decoder ∧ (s.watchMode n was is).events = s.events := by
  simp [State.watchMode]

@[simp] theorem State.writeCommand_frame (s : State) (c : Command) :
    (s.writeCommand c).now = s.now ∧ (s.writeCommand c).pending = s.pending ∧ (s.writeCommand c).phase = s.phase ∧
      (s.writeCommand c).resetAt = s.resetAt ∧ (s.writeCommand c).supply = s.supply ∧
      (s.writeCommand c).retained = s.retained ∧ (s.writeCommand c).store = s.store ∧
      (s.writeCommand c).storeState = s.storeState ∧ (s.writeCommand c).saving = s.saving ∧
      (s.writeCommand c).tables = s.tables ∧ (s.writeCommand c).routes = s.routes ∧
      (s.writeCommand c).serviceHeld = s.serviceHeld ∧ (s.writeCommand c).zones = s.zones ∧
      (s.writeCommand c).computation = s.computation ∧ (s.writeCommand c).channels = s.channels ∧
      (s.writeCommand c).queue = s.queue ∧ (s.writeCommand c).slotLimit = s.slotLimit ∧
      (s.writeCommand c).homingDue = s.homingDue ∧ (s.writeCommand c).room = s.room ∧
      (s.writeCommand c).plant = s.plant ∧ (s.writeCommand c).decoder = s.decoder := by
  simp [State.writeCommand]

@[simp] theorem State.enterHouse_frame (s : State) (h : HouseState) :
    (s.enterHouse h).now = s.now ∧ (s.enterHouse h).pending = s.pending ∧ (s.enterHouse h).phase = s.phase ∧
      (s.enterHouse h).resetAt = s.resetAt ∧ (s.enterHouse h).supply = s.supply ∧
      (s.enterHouse h).retained = s.retained ∧ (s.enterHouse h).store = s.store ∧
      (s.enterHouse h).storeState = s.storeState ∧ (s.enterHouse h).saving = s.saving ∧
      (s.enterHouse h).tables = s.tables ∧ (s.enterHouse h).routes = s.routes ∧
      (s.enterHouse h).serviceHeld = s.serviceHeld ∧ (s.enterHouse h).zones = s.zones ∧
      (s.enterHouse h).command = s.command ∧ (s.enterHouse h).computation = s.computation ∧
      (s.enterHouse h).channels = s.channels ∧ (s.enterHouse h).queue = s.queue ∧
      (s.enterHouse h).slotLimit = s.slotLimit ∧ (s.enterHouse h).homingDue = s.homingDue ∧
      (s.enterHouse h).links = s.links ∧ (s.enterHouse h).room = s.room ∧ (s.enterHouse h).plant = s.plant ∧
      (s.enterHouse h).relay = s.relay ∧ (s.enterHouse h).decoder = s.decoder ∧ (s.enterHouse h).events = s.events := by
  simp [State.enterHouse]

@[simp] theorem State.stopHouseTimers_frame (s : State) :
    (s.stopHouseTimers).now = s.now ∧ (s.stopHouseTimers).pending = s.pending ∧ (s.stopHouseTimers).phase = s.phase ∧
      (s.stopHouseTimers).resetAt = s.resetAt ∧ (s.stopHouseTimers).supply = s.supply ∧
      (s.stopHouseTimers).retained = s.retained ∧ (s.stopHouseTimers).store = s.store ∧
      (s.stopHouseTimers).storeState = s.storeState ∧ (s.stopHouseTimers).saving = s.saving ∧
      (s.stopHouseTimers).tables = s.tables ∧ (s.stopHouseTimers).routes = s.routes ∧
      (s.stopHouseTimers).serviceHeld = s.serviceHeld ∧ (s.stopHouseTimers).zones = s.zones ∧
      (s.stopHouseTimers).command = s.command ∧ (s.stopHouseTimers).computation = s.computation ∧
      (s.stopHouseTimers).channels = s.channels ∧ (s.stopHouseTimers).queue = s.queue ∧
      (s.stopHouseTimers).slotLimit = s.slotLimit ∧ (s.stopHouseTimers).homingDue = s.homingDue ∧
      (s.stopHouseTimers).links = s.links ∧ (s.stopHouseTimers).room = s.room ∧ (s.stopHouseTimers).plant = s.plant ∧
      (s.stopHouseTimers).relay = s.relay ∧ (s.stopHouseTimers).decoder = s.decoder ∧
      (s.stopHouseTimers).events = s.events := by
  simp [State.stopHouseTimers]

@[simp] theorem State.setTarget_frame (s : State) (t : Option Target) :
    (s.setTarget t).now = s.now ∧ (s.setTarget t).pending = s.pending ∧ (s.setTarget t).phase = s.phase ∧
      (s.setTarget t).resetAt = s.resetAt ∧ (s.setTarget t).supply = s.supply ∧
      (s.setTarget t).retained = s.retained ∧ (s.setTarget t).store = s.store ∧
      (s.setTarget t).storeState = s.storeState ∧ (s.setTarget t).saving = s.saving ∧
      (s.setTarget t).tables = s.tables ∧ (s.setTarget t).routes = s.routes ∧
      (s.setTarget t).serviceHeld = s.serviceHeld ∧ (s.setTarget t).zones = s.zones ∧
      (s.setTarget t).command = s.command ∧ (s.setTarget t).computation = s.computation ∧
      (s.setTarget t).channels = s.channels ∧ (s.setTarget t).queue = s.queue ∧
      (s.setTarget t).slotLimit = s.slotLimit ∧ (s.setTarget t).homingDue = s.homingDue ∧
      (s.setTarget t).links = s.links ∧ (s.setTarget t).room = s.room ∧ (s.setTarget t).plant = s.plant ∧
      (s.setTarget t).relay = s.relay ∧ (s.setTarget t).decoder = s.decoder ∧ (s.setTarget t).events = s.events := by
  simp [State.setTarget]

end Sys2Proof.Machine
end

