-- ==== Sys2Proof/Laws/FrameZones.lean ====
section
/-! SUPPORT. What the operations of the zones leave alone: for each operation, every field of State that it does not
write. -/

namespace Sys2Proof.Machine

@[simp] theorem State.deriveStatus_frame (s : State) (z : ZoneId) :
    (s.deriveStatus z).now = s.now ∧ (s.deriveStatus z).pending = s.pending ∧ (s.deriveStatus z).phase = s.phase ∧
      (s.deriveStatus z).resetAt = s.resetAt ∧ (s.deriveStatus z).supply = s.supply ∧
      (s.deriveStatus z).retained = s.retained ∧ (s.deriveStatus z).store = s.store ∧
      (s.deriveStatus z).storeState = s.storeState ∧ (s.deriveStatus z).saving = s.saving ∧
      (s.deriveStatus z).tables = s.tables ∧ (s.deriveStatus z).routes = s.routes ∧
      (s.deriveStatus z).serviceHeld = s.serviceHeld ∧ (s.deriveStatus z).arbiter = s.arbiter ∧
      (s.deriveStatus z).command = s.command ∧ (s.deriveStatus z).computation = s.computation ∧
      (s.deriveStatus z).channels = s.channels ∧ (s.deriveStatus z).queue = s.queue ∧
      (s.deriveStatus z).slotLimit = s.slotLimit ∧ (s.deriveStatus z).homingDue = s.homingDue ∧
      (s.deriveStatus z).links = s.links ∧ (s.deriveStatus z).room = s.room ∧ (s.deriveStatus z).plant = s.plant ∧
      (s.deriveStatus z).relay = s.relay ∧ (s.deriveStatus z).decoder = s.decoder := by
  simp [State.deriveStatus]

@[simp] theorem State.leavePlay_frame (s : State) (z : ZoneId) :
    (s.leavePlay z).now = s.now ∧ (s.leavePlay z).pending = s.pending ∧ (s.leavePlay z).phase = s.phase ∧
      (s.leavePlay z).resetAt = s.resetAt ∧ (s.leavePlay z).supply = s.supply ∧
      (s.leavePlay z).retained = s.retained ∧ (s.leavePlay z).store = s.store ∧
      (s.leavePlay z).storeState = s.storeState ∧ (s.leavePlay z).saving = s.saving ∧
      (s.leavePlay z).tables = s.tables ∧ (s.leavePlay z).routes = s.routes ∧
      (s.leavePlay z).serviceHeld = s.serviceHeld ∧ (s.leavePlay z).arbiter = s.arbiter ∧
      (s.leavePlay z).command = s.command ∧ (s.leavePlay z).computation = s.computation ∧
      (s.leavePlay z).channels = s.channels ∧ (s.leavePlay z).queue = s.queue ∧
      (s.leavePlay z).slotLimit = s.slotLimit ∧ (s.leavePlay z).homingDue = s.homingDue ∧
      (s.leavePlay z).links = s.links ∧ (s.leavePlay z).room = s.room ∧ (s.leavePlay z).plant = s.plant ∧
      (s.leavePlay z).relay = s.relay ∧ (s.leavePlay z).decoder = s.decoder := by
  simp [State.leavePlay]

@[simp] theorem State.recombine_frame (s : State) (z : ZoneId) :
    (s.recombine z).now = s.now ∧ (s.recombine z).pending = s.pending ∧ (s.recombine z).phase = s.phase ∧
      (s.recombine z).resetAt = s.resetAt ∧ (s.recombine z).supply = s.supply ∧
      (s.recombine z).retained = s.retained ∧ (s.recombine z).store = s.store ∧
      (s.recombine z).storeState = s.storeState ∧ (s.recombine z).saving = s.saving ∧
      (s.recombine z).tables = s.tables ∧ (s.recombine z).routes = s.routes ∧
      (s.recombine z).serviceHeld = s.serviceHeld ∧ (s.recombine z).arbiter = s.arbiter ∧
      (s.recombine z).command = s.command ∧ (s.recombine z).computation = s.computation ∧
      (s.recombine z).channels = s.channels ∧ (s.recombine z).queue = s.queue ∧
      (s.recombine z).slotLimit = s.slotLimit ∧ (s.recombine z).homingDue = s.homingDue ∧
      (s.recombine z).links = s.links ∧ (s.recombine z).room = s.room ∧ (s.recombine z).plant = s.plant ∧
      (s.recombine z).relay = s.relay ∧ (s.recombine z).decoder = s.decoder ∧ (s.recombine z).events = s.events := by
  simp [State.recombine]

@[simp] theorem State.heardZone_frame (s : State) (z : ZoneId) :
    (s.heardZone z).now = s.now ∧ (s.heardZone z).pending = s.pending ∧ (s.heardZone z).phase = s.phase ∧
      (s.heardZone z).resetAt = s.resetAt ∧ (s.heardZone z).supply = s.supply ∧
      (s.heardZone z).retained = s.retained ∧ (s.heardZone z).store = s.store ∧
      (s.heardZone z).storeState = s.storeState ∧ (s.heardZone z).saving = s.saving ∧
      (s.heardZone z).tables = s.tables ∧ (s.heardZone z).routes = s.routes ∧
      (s.heardZone z).serviceHeld = s.serviceHeld ∧ (s.heardZone z).arbiter = s.arbiter ∧
      (s.heardZone z).command = s.command ∧ (s.heardZone z).computation = s.computation ∧
      (s.heardZone z).channels = s.channels ∧ (s.heardZone z).queue = s.queue ∧
      (s.heardZone z).slotLimit = s.slotLimit ∧ (s.heardZone z).homingDue = s.homingDue ∧
      (s.heardZone z).links = s.links ∧ (s.heardZone z).room = s.room ∧ (s.heardZone z).plant = s.plant ∧
      (s.heardZone z).relay = s.relay ∧ (s.heardZone z).decoder = s.decoder ∧ (s.heardZone z).events = s.events := by
  simp [State.heardZone]

@[simp] theorem State.takeReadings_frame (s : State) (i : RouteId) (z : ZoneId) (t h : Option Int) :
    (s.takeReadings i z t h).now = s.now ∧ (s.takeReadings i z t h).pending = s.pending ∧
      (s.takeReadings i z t h).phase = s.phase ∧ (s.takeReadings i z t h).resetAt = s.resetAt ∧
      (s.takeReadings i z t h).supply = s.supply ∧ (s.takeReadings i z t h).retained = s.retained ∧
      (s.takeReadings i z t h).store = s.store ∧ (s.takeReadings i z t h).storeState = s.storeState ∧
      (s.takeReadings i z t h).saving = s.saving ∧ (s.takeReadings i z t h).tables = s.tables ∧
      (s.takeReadings i z t h).serviceHeld = s.serviceHeld ∧ (s.takeReadings i z t h).arbiter = s.arbiter ∧
      (s.takeReadings i z t h).command = s.command ∧ (s.takeReadings i z t h).computation = s.computation ∧
      (s.takeReadings i z t h).channels = s.channels ∧ (s.takeReadings i z t h).queue = s.queue ∧
      (s.takeReadings i z t h).slotLimit = s.slotLimit ∧ (s.takeReadings i z t h).homingDue = s.homingDue ∧
      (s.takeReadings i z t h).links = s.links ∧ (s.takeReadings i z t h).room = s.room ∧
      (s.takeReadings i z t h).plant = s.plant ∧ (s.takeReadings i z t h).relay = s.relay ∧
      (s.takeReadings i z t h).decoder = s.decoder := by
  simp [State.takeReadings]

@[simp] theorem State.takeSwitch_frame (s : State) (z : ZoneId) (on fan : Bool) :
    (s.takeSwitch z on fan).now = s.now ∧ (s.takeSwitch z on fan).pending = s.pending ∧
      (s.takeSwitch z on fan).phase = s.phase ∧ (s.takeSwitch z on fan).resetAt = s.resetAt ∧
      (s.takeSwitch z on fan).supply = s.supply ∧ (s.takeSwitch z on fan).retained = s.retained ∧
      (s.takeSwitch z on fan).store = s.store ∧ (s.takeSwitch z on fan).storeState = s.storeState ∧
      (s.takeSwitch z on fan).saving = s.saving ∧ (s.takeSwitch z on fan).tables = s.tables ∧
      (s.takeSwitch z on fan).routes = s.routes ∧ (s.takeSwitch z on fan).serviceHeld = s.serviceHeld ∧
      (s.takeSwitch z on fan).arbiter = s.arbiter ∧ (s.takeSwitch z on fan).command = s.command ∧
      (s.takeSwitch z on fan).computation = s.computation ∧ (s.takeSwitch z on fan).channels = s.channels ∧
      (s.takeSwitch z on fan).queue = s.queue ∧ (s.takeSwitch z on fan).slotLimit = s.slotLimit ∧
      (s.takeSwitch z on fan).homingDue = s.homingDue ∧ (s.takeSwitch z on fan).links = s.links ∧
      (s.takeSwitch z on fan).room = s.room ∧ (s.takeSwitch z on fan).plant = s.plant ∧
      (s.takeSwitch z on fan).relay = s.relay ∧ (s.takeSwitch z on fan).decoder = s.decoder := by
  simp [State.takeSwitch]

@[simp] theorem State.loseZone_frame (s : State) (z : ZoneId) :
    (s.loseZone z).now = s.now ∧ (s.loseZone z).pending = s.pending ∧ (s.loseZone z).phase = s.phase ∧
      (s.loseZone z).resetAt = s.resetAt ∧ (s.loseZone z).supply = s.supply ∧ (s.loseZone z).retained = s.retained ∧
      (s.loseZone z).store = s.store ∧ (s.loseZone z).storeState = s.storeState ∧ (s.loseZone z).saving = s.saving ∧
      (s.loseZone z).tables = s.tables ∧ (s.loseZone z).routes = s.routes ∧
      (s.loseZone z).serviceHeld = s.serviceHeld ∧ (s.loseZone z).arbiter = s.arbiter ∧
      (s.loseZone z).command = s.command ∧ (s.loseZone z).computation = s.computation ∧
      (s.loseZone z).channels = s.channels ∧ (s.loseZone z).queue = s.queue ∧
      (s.loseZone z).slotLimit = s.slotLimit ∧ (s.loseZone z).homingDue = s.homingDue ∧
      (s.loseZone z).links = s.links ∧ (s.loseZone z).room = s.room ∧ (s.loseZone z).plant = s.plant ∧
      (s.loseZone z).relay = s.relay ∧ (s.loseZone z).decoder = s.decoder := by
  simp [State.loseZone]

@[simp] theorem State.changeZone_frame (s : State) (x : Setpoints) (z : ZoneId) :
    (s.changeZone x z).now = s.now ∧ (s.changeZone x z).pending = s.pending ∧ (s.changeZone x z).phase = s.phase ∧
      (s.changeZone x z).resetAt = s.resetAt ∧ (s.changeZone x z).supply = s.supply ∧
      (s.changeZone x z).retained = s.retained ∧ (s.changeZone x z).store = s.store ∧
      (s.changeZone x z).storeState = s.storeState ∧ (s.changeZone x z).saving = s.saving ∧
      (s.changeZone x z).tables = s.tables ∧ (s.changeZone x z).routes = s.routes ∧
      (s.changeZone x z).serviceHeld = s.serviceHeld ∧ (s.changeZone x z).arbiter = s.arbiter ∧
      (s.changeZone x z).command = s.command ∧ (s.changeZone x z).computation = s.computation ∧
      (s.changeZone x z).channels = s.channels ∧ (s.changeZone x z).queue = s.queue ∧
      (s.changeZone x z).slotLimit = s.slotLimit ∧ (s.changeZone x z).homingDue = s.homingDue ∧
      (s.changeZone x z).links = s.links ∧ (s.changeZone x z).room = s.room ∧ (s.changeZone x z).plant = s.plant ∧
      (s.changeZone x z).relay = s.relay ∧ (s.changeZone x z).decoder = s.decoder ∧
      (s.changeZone x z).events = s.events := by
  simp [State.changeZone]

@[simp] theorem State.changeZones_frame (s : State) (x : Setpoints) (p : ZoneCfg → Bool) :
    (s.changeZones x p).now = s.now ∧ (s.changeZones x p).pending = s.pending ∧ (s.changeZones x p).phase = s.phase ∧
      (s.changeZones x p).resetAt = s.resetAt ∧ (s.changeZones x p).supply = s.supply ∧
      (s.changeZones x p).retained = s.retained ∧ (s.changeZones x p).store = s.store ∧
      (s.changeZones x p).storeState = s.storeState ∧ (s.changeZones x p).saving = s.saving ∧
      (s.changeZones x p).tables = s.tables ∧ (s.changeZones x p).routes = s.routes ∧
      (s.changeZones x p).serviceHeld = s.serviceHeld ∧ (s.changeZones x p).arbiter = s.arbiter ∧
      (s.changeZones x p).command = s.command ∧ (s.changeZones x p).computation = s.computation ∧
      (s.changeZones x p).channels = s.channels ∧ (s.changeZones x p).queue = s.queue ∧
      (s.changeZones x p).slotLimit = s.slotLimit ∧ (s.changeZones x p).homingDue = s.homingDue ∧
      (s.changeZones x p).links = s.links ∧ (s.changeZones x p).room = s.room ∧ (s.changeZones x p).plant = s.plant ∧
      (s.changeZones x p).relay = s.relay ∧ (s.changeZones x p).decoder = s.decoder ∧
      (s.changeZones x p).events = s.events := by
  simp [State.changeZones]

@[simp] theorem State.evaluateZones_frame (s : State) :
    (s.evaluateZones).now = s.now ∧ (s.evaluateZones).pending = s.pending ∧ (s.evaluateZones).phase = s.phase ∧
      (s.evaluateZones).resetAt = s.resetAt ∧ (s.evaluateZones).supply = s.supply ∧
      (s.evaluateZones).retained = s.retained ∧ (s.evaluateZones).store = s.store ∧
      (s.evaluateZones).storeState = s.storeState ∧ (s.evaluateZones).saving = s.saving ∧
      (s.evaluateZones).tables = s.tables ∧ (s.evaluateZones).routes = s.routes ∧
      (s.evaluateZones).serviceHeld = s.serviceHeld ∧ (s.evaluateZones).arbiter = s.arbiter ∧
      (s.evaluateZones).command = s.command ∧ (s.evaluateZones).computation = s.computation ∧
      (s.evaluateZones).channels = s.channels ∧ (s.evaluateZones).queue = s.queue ∧
      (s.evaluateZones).slotLimit = s.slotLimit ∧ (s.evaluateZones).homingDue = s.homingDue ∧
      (s.evaluateZones).links = s.links ∧ (s.evaluateZones).room = s.room ∧ (s.evaluateZones).plant = s.plant ∧
      (s.evaluateZones).relay = s.relay ∧ (s.evaluateZones).decoder = s.decoder ∧ (s.evaluateZones).events = s.events := by
  simp [State.evaluateZones]

@[simp] theorem State.updateZones_frame (s : State) :
    (s.updateZones).now = s.now ∧ (s.updateZones).pending = s.pending ∧ (s.updateZones).phase = s.phase ∧
      (s.updateZones).resetAt = s.resetAt ∧ (s.updateZones).supply = s.supply ∧
      (s.updateZones).retained = s.retained ∧ (s.updateZones).store = s.store ∧
      (s.updateZones).storeState = s.storeState ∧ (s.updateZones).saving = s.saving ∧
      (s.updateZones).tables = s.tables ∧ (s.updateZones).routes = s.routes ∧
      (s.updateZones).serviceHeld = s.serviceHeld ∧ (s.updateZones).arbiter = s.arbiter ∧
      (s.updateZones).command = s.command ∧ (s.updateZones).computation = s.computation ∧
      (s.updateZones).channels = s.channels ∧ (s.updateZones).queue = s.queue ∧
      (s.updateZones).slotLimit = s.slotLimit ∧ (s.updateZones).homingDue = s.homingDue ∧
      (s.updateZones).links = s.links ∧ (s.updateZones).room = s.room ∧ (s.updateZones).plant = s.plant ∧
      (s.updateZones).relay = s.relay ∧ (s.updateZones).decoder = s.decoder := by
  simp [State.updateZones]

/-- A record that leaves the stored setpoints as they were leaves the effective ones as they are (R3). -/
theorem ZoneRun.takeStored_unchanged (r : ZoneRun) (old c : ZoneCfg) (hsh : c.shSt = old.shSt) (hsc : c.scSt = old.scSt)
    (hhd : c.hdSt = old.hdSt) (hgap : 10 ≤ r.sc - r.sh) : r.takeStored old c = r := by
  simp [ZoneRun.takeStored, hsh, hsc, hhd, hgap]

/-- After a valid record the effective heat and cool setpoints are 1 °C apart (R12). -/
theorem ZoneRun.takeStored_gap (r : ZoneRun) (old c : ZoneCfg) (hc : 10 ≤ c.scSt - c.shSt) :
    10 ≤ (r.takeStored old c).sc - (r.takeStored old c).sh := by
  simp only [ZoneRun.takeStored]
  split_ifs <;> omega

@[simp] theorem State.zoneWritten_frame (s : State) (z : ZoneId) (old : ZoneCfg) :
    (s.zoneWritten z old).now = s.now ∧ (s.zoneWritten z old).pending = s.pending ∧
      (s.zoneWritten z old).phase = s.phase ∧ (s.zoneWritten z old).resetAt = s.resetAt ∧
      (s.zoneWritten z old).supply = s.supply ∧ (s.zoneWritten z old).retained = s.retained ∧
      (s.zoneWritten z old).store = s.store ∧ (s.zoneWritten z old).storeState = s.storeState ∧
      (s.zoneWritten z old).saving = s.saving ∧ (s.zoneWritten z old).tables = s.tables ∧
      (s.zoneWritten z old).routes = s.routes ∧ (s.zoneWritten z old).serviceHeld = s.serviceHeld ∧
      (s.zoneWritten z old).arbiter = s.arbiter ∧ (s.zoneWritten z old).command = s.command ∧
      (s.zoneWritten z old).computation = s.computation ∧ (s.zoneWritten z old).channels = s.channels ∧
      (s.zoneWritten z old).queue = s.queue ∧ (s.zoneWritten z old).slotLimit = s.slotLimit ∧
      (s.zoneWritten z old).homingDue = s.homingDue ∧ (s.zoneWritten z old).links = s.links ∧
      (s.zoneWritten z old).room = s.room ∧ (s.zoneWritten z old).plant = s.plant ∧
      (s.zoneWritten z old).relay = s.relay ∧ (s.zoneWritten z old).decoder = s.decoder := by
  simp [State.zoneWritten]

end Sys2Proof.Machine
end

