-- ==== Sys2Proof/Laws/FrameDampers.lean ====
section
/-! SUPPORT. What the operations of the damper drives leave alone: for each operation, every field of State that it does not
write. -/

namespace Sys2Proof.Machine

@[simp] theorem State.joinQueue_frame (s : State) (c : ChannelId) (g : Goal) :
    (s.joinQueue c g).now = s.now ∧ (s.joinQueue c g).pending = s.pending ∧ (s.joinQueue c g).phase = s.phase ∧
      (s.joinQueue c g).resetAt = s.resetAt ∧ (s.joinQueue c g).supply = s.supply ∧
      (s.joinQueue c g).retained = s.retained ∧ (s.joinQueue c g).store = s.store ∧
      (s.joinQueue c g).storeState = s.storeState ∧ (s.joinQueue c g).saving = s.saving ∧
      (s.joinQueue c g).tables = s.tables ∧ (s.joinQueue c g).routes = s.routes ∧
      (s.joinQueue c g).serviceHeld = s.serviceHeld ∧ (s.joinQueue c g).zones = s.zones ∧
      (s.joinQueue c g).arbiter = s.arbiter ∧ (s.joinQueue c g).command = s.command ∧
      (s.joinQueue c g).computation = s.computation ∧ (s.joinQueue c g).slotLimit = s.slotLimit ∧
      (s.joinQueue c g).homingDue = s.homingDue ∧ (s.joinQueue c g).links = s.links ∧
      (s.joinQueue c g).room = s.room ∧ (s.joinQueue c g).plant = s.plant ∧ (s.joinQueue c g).relay = s.relay ∧
      (s.joinQueue c g).decoder = s.decoder ∧ (s.joinQueue c g).events = s.events := by
  simp [State.joinQueue]

@[simp] theorem State.joinHome_frame (s : State) (c : ChannelId) :
    (s.joinHome c).now = s.now ∧ (s.joinHome c).pending = s.pending ∧ (s.joinHome c).phase = s.phase ∧
      (s.joinHome c).resetAt = s.resetAt ∧ (s.joinHome c).supply = s.supply ∧ (s.joinHome c).retained = s.retained ∧
      (s.joinHome c).store = s.store ∧ (s.joinHome c).storeState = s.storeState ∧ (s.joinHome c).saving = s.saving ∧
      (s.joinHome c).tables = s.tables ∧ (s.joinHome c).routes = s.routes ∧
      (s.joinHome c).serviceHeld = s.serviceHeld ∧ (s.joinHome c).zones = s.zones ∧
      (s.joinHome c).arbiter = s.arbiter ∧ (s.joinHome c).command = s.command ∧
      (s.joinHome c).computation = s.computation ∧ (s.joinHome c).slotLimit = s.slotLimit ∧
      (s.joinHome c).homingDue = s.homingDue ∧ (s.joinHome c).links = s.links ∧ (s.joinHome c).room = s.room ∧
      (s.joinHome c).plant = s.plant ∧ (s.joinHome c).relay = s.relay ∧ (s.joinHome c).decoder = s.decoder ∧
      (s.joinHome c).events = s.events := by
  simp [State.joinHome]

@[simp] theorem State.adopt_frame (s : State) (c : ChannelId) :
    (s.adopt c).now = s.now ∧ (s.adopt c).pending = s.pending ∧ (s.adopt c).phase = s.phase ∧
      (s.adopt c).resetAt = s.resetAt ∧ (s.adopt c).supply = s.supply ∧ (s.adopt c).retained = s.retained ∧
      (s.adopt c).store = s.store ∧ (s.adopt c).storeState = s.storeState ∧ (s.adopt c).saving = s.saving ∧
      (s.adopt c).tables = s.tables ∧ (s.adopt c).routes = s.routes ∧ (s.adopt c).serviceHeld = s.serviceHeld ∧
      (s.adopt c).zones = s.zones ∧ (s.adopt c).arbiter = s.arbiter ∧ (s.adopt c).command = s.command ∧
      (s.adopt c).computation = s.computation ∧ (s.adopt c).slotLimit = s.slotLimit ∧
      (s.adopt c).homingDue = s.homingDue ∧ (s.adopt c).links = s.links ∧ (s.adopt c).room = s.room ∧
      (s.adopt c).plant = s.plant ∧ (s.adopt c).relay = s.relay ∧ (s.adopt c).decoder = s.decoder ∧
      (s.adopt c).events = s.events := by
  unfold State.adopt
  dsimp only
  (repeat' split) <;> simp

@[simp] theorem State.tryJoin_frame (s : State) (c : ChannelId) :
    (s.tryJoin c).now = s.now ∧ (s.tryJoin c).pending = s.pending ∧ (s.tryJoin c).phase = s.phase ∧
      (s.tryJoin c).resetAt = s.resetAt ∧ (s.tryJoin c).supply = s.supply ∧ (s.tryJoin c).retained = s.retained ∧
      (s.tryJoin c).store = s.store ∧ (s.tryJoin c).storeState = s.storeState ∧ (s.tryJoin c).saving = s.saving ∧
      (s.tryJoin c).tables = s.tables ∧ (s.tryJoin c).routes = s.routes ∧ (s.tryJoin c).serviceHeld = s.serviceHeld ∧
      (s.tryJoin c).zones = s.zones ∧ (s.tryJoin c).arbiter = s.arbiter ∧ (s.tryJoin c).command = s.command ∧
      (s.tryJoin c).computation = s.computation ∧ (s.tryJoin c).slotLimit = s.slotLimit ∧
      (s.tryJoin c).homingDue = s.homingDue ∧ (s.tryJoin c).links = s.links ∧ (s.tryJoin c).room = s.room ∧
      (s.tryJoin c).plant = s.plant ∧ (s.tryJoin c).relay = s.relay ∧ (s.tryJoin c).decoder = s.decoder ∧
      (s.tryJoin c).events = s.events := by
  simp [State.tryJoin]

@[simp] theorem State.leaveQueue_frame (s : State) (c : ChannelId) :
    (s.leaveQueue c).now = s.now ∧ (s.leaveQueue c).pending = s.pending ∧ (s.leaveQueue c).phase = s.phase ∧
      (s.leaveQueue c).resetAt = s.resetAt ∧ (s.leaveQueue c).supply = s.supply ∧
      (s.leaveQueue c).retained = s.retained ∧ (s.leaveQueue c).store = s.store ∧
      (s.leaveQueue c).storeState = s.storeState ∧ (s.leaveQueue c).saving = s.saving ∧
      (s.leaveQueue c).tables = s.tables ∧ (s.leaveQueue c).routes = s.routes ∧
      (s.leaveQueue c).serviceHeld = s.serviceHeld ∧ (s.leaveQueue c).zones = s.zones ∧
      (s.leaveQueue c).arbiter = s.arbiter ∧ (s.leaveQueue c).command = s.command ∧
      (s.leaveQueue c).computation = s.computation ∧ (s.leaveQueue c).slotLimit = s.slotLimit ∧
      (s.leaveQueue c).homingDue = s.homingDue ∧ (s.leaveQueue c).links = s.links ∧ (s.leaveQueue c).room = s.room ∧
      (s.leaveQueue c).plant = s.plant ∧ (s.leaveQueue c).relay = s.relay ∧ (s.leaveQueue c).decoder = s.decoder ∧
      (s.leaveQueue c).events = s.events := by
  simp [State.leaveQueue]

@[simp] theorem State.settleLimit_frame (s : State) :
    (s.settleLimit).now = s.now ∧ (s.settleLimit).pending = s.pending ∧ (s.settleLimit).phase = s.phase ∧
      (s.settleLimit).resetAt = s.resetAt ∧ (s.settleLimit).supply = s.supply ∧
      (s.settleLimit).retained = s.retained ∧ (s.settleLimit).store = s.store ∧
      (s.settleLimit).storeState = s.storeState ∧ (s.settleLimit).saving = s.saving ∧
      (s.settleLimit).tables = s.tables ∧ (s.settleLimit).routes = s.routes ∧
      (s.settleLimit).serviceHeld = s.serviceHeld ∧ (s.settleLimit).zones = s.zones ∧
      (s.settleLimit).arbiter = s.arbiter ∧ (s.settleLimit).command = s.command ∧
      (s.settleLimit).computation = s.computation ∧ (s.settleLimit).channels = s.channels ∧
      (s.settleLimit).queue = s.queue ∧ (s.settleLimit).homingDue = s.homingDue ∧ (s.settleLimit).links = s.links ∧
      (s.settleLimit).room = s.room ∧ (s.settleLimit).plant = s.plant ∧ (s.settleLimit).relay = s.relay ∧
      (s.settleLimit).decoder = s.decoder ∧ (s.settleLimit).events = s.events := by
  simp [State.settleLimit]

@[simp] theorem State.grantHead_frame (s : State) :
    (s.grantHead).now = s.now ∧ (s.grantHead).pending = s.pending ∧ (s.grantHead).phase = s.phase ∧
      (s.grantHead).resetAt = s.resetAt ∧ (s.grantHead).supply = s.supply ∧ (s.grantHead).retained = s.retained ∧
      (s.grantHead).store = s.store ∧ (s.grantHead).storeState = s.storeState ∧ (s.grantHead).saving = s.saving ∧
      (s.grantHead).tables = s.tables ∧ (s.grantHead).routes = s.routes ∧ (s.grantHead).serviceHeld = s.serviceHeld ∧
      (s.grantHead).zones = s.zones ∧ (s.grantHead).arbiter = s.arbiter ∧ (s.grantHead).command = s.command ∧
      (s.grantHead).computation = s.computation ∧ (s.grantHead).slotLimit = s.slotLimit ∧
      (s.grantHead).homingDue = s.homingDue ∧ (s.grantHead).links = s.links ∧ (s.grantHead).room = s.room ∧
      (s.grantHead).plant = s.plant ∧ (s.grantHead).relay = s.relay ∧ (s.grantHead).decoder = s.decoder ∧
      (s.grantHead).events = s.events := by
  unfold State.grantHead
  dsimp only
  (repeat' split) <;> simp

@[simp] theorem State.grantLoop_frame (s : State)  (k : Nat) :
    (s.grantLoop k).now = s.now ∧ (s.grantLoop k).pending = s.pending ∧ (s.grantLoop k).phase = s.phase ∧
      (s.grantLoop k).resetAt = s.resetAt ∧ (s.grantLoop k).supply = s.supply ∧
      (s.grantLoop k).retained = s.retained ∧ (s.grantLoop k).store = s.store ∧
      (s.grantLoop k).storeState = s.storeState ∧ (s.grantLoop k).saving = s.saving ∧
      (s.grantLoop k).tables = s.tables ∧ (s.grantLoop k).routes = s.routes ∧
      (s.grantLoop k).serviceHeld = s.serviceHeld ∧ (s.grantLoop k).zones = s.zones ∧
      (s.grantLoop k).arbiter = s.arbiter ∧ (s.grantLoop k).command = s.command ∧
      (s.grantLoop k).computation = s.computation ∧ (s.grantLoop k).slotLimit = s.slotLimit ∧
      (s.grantLoop k).homingDue = s.homingDue ∧ (s.grantLoop k).links = s.links ∧ (s.grantLoop k).room = s.room ∧
      (s.grantLoop k).plant = s.plant ∧ (s.grantLoop k).relay = s.relay ∧ (s.grantLoop k).decoder = s.decoder ∧
      (s.grantLoop k).events = s.events := by
  induction k generalizing s with
  | zero => simp [State.grantLoop]
  | succ k ih => unfold State.grantLoop; split <;> simp [ih]

@[simp] theorem State.serveQueue_frame (s : State) :
    (s.serveQueue).now = s.now ∧ (s.serveQueue).pending = s.pending ∧ (s.serveQueue).phase = s.phase ∧
      (s.serveQueue).resetAt = s.resetAt ∧ (s.serveQueue).supply = s.supply ∧ (s.serveQueue).retained = s.retained ∧
      (s.serveQueue).store = s.store ∧ (s.serveQueue).storeState = s.storeState ∧ (s.serveQueue).saving = s.saving ∧
      (s.serveQueue).tables = s.tables ∧ (s.serveQueue).routes = s.routes ∧
      (s.serveQueue).serviceHeld = s.serviceHeld ∧ (s.serveQueue).zones = s.zones ∧
      (s.serveQueue).arbiter = s.arbiter ∧ (s.serveQueue).command = s.command ∧
      (s.serveQueue).computation = s.computation ∧ (s.serveQueue).homingDue = s.homingDue ∧
      (s.serveQueue).links = s.links ∧ (s.serveQueue).room = s.room ∧ (s.serveQueue).plant = s.plant ∧
      (s.serveQueue).relay = s.relay ∧ (s.serveQueue).decoder = s.decoder ∧ (s.serveQueue).events = s.events := by
  simp [State.serveQueue]

@[simp] theorem State.endSettling_frame (s : State) (c : ChannelId) :
    (s.endSettling c).now = s.now ∧ (s.endSettling c).pending = s.pending ∧ (s.endSettling c).phase = s.phase ∧
      (s.endSettling c).resetAt = s.resetAt ∧ (s.endSettling c).supply = s.supply ∧
      (s.endSettling c).retained = s.retained ∧ (s.endSettling c).store = s.store ∧
      (s.endSettling c).storeState = s.storeState ∧ (s.endSettling c).saving = s.saving ∧
      (s.endSettling c).tables = s.tables ∧ (s.endSettling c).routes = s.routes ∧
      (s.endSettling c).serviceHeld = s.serviceHeld ∧ (s.endSettling c).zones = s.zones ∧
      (s.endSettling c).arbiter = s.arbiter ∧ (s.endSettling c).command = s.command ∧
      (s.endSettling c).computation = s.computation ∧ (s.endSettling c).slotLimit = s.slotLimit ∧
      (s.endSettling c).homingDue = s.homingDue ∧ (s.endSettling c).links = s.links ∧
      (s.endSettling c).room = s.room ∧ (s.endSettling c).plant = s.plant ∧ (s.endSettling c).relay = s.relay ∧
      (s.endSettling c).decoder = s.decoder ∧ (s.endSettling c).events = s.events := by
  simp [State.endSettling]

@[simp] theorem State.comeToJoin_frame (s : State) (c : ChannelId) :
    (s.comeToJoin c).now = s.now ∧ (s.comeToJoin c).pending = s.pending ∧ (s.comeToJoin c).phase = s.phase ∧
      (s.comeToJoin c).resetAt = s.resetAt ∧ (s.comeToJoin c).supply = s.supply ∧
      (s.comeToJoin c).retained = s.retained ∧ (s.comeToJoin c).store = s.store ∧
      (s.comeToJoin c).storeState = s.storeState ∧ (s.comeToJoin c).saving = s.saving ∧
      (s.comeToJoin c).tables = s.tables ∧ (s.comeToJoin c).routes = s.routes ∧
      (s.comeToJoin c).serviceHeld = s.serviceHeld ∧ (s.comeToJoin c).zones = s.zones ∧
      (s.comeToJoin c).arbiter = s.arbiter ∧ (s.comeToJoin c).command = s.command ∧
      (s.comeToJoin c).computation = s.computation ∧ (s.comeToJoin c).slotLimit = s.slotLimit ∧
      (s.comeToJoin c).homingDue = s.homingDue ∧ (s.comeToJoin c).links = s.links ∧ (s.comeToJoin c).room = s.room ∧
      (s.comeToJoin c).plant = s.plant ∧ (s.comeToJoin c).relay = s.relay ∧ (s.comeToJoin c).decoder = s.decoder ∧
      (s.comeToJoin c).events = s.events := by
  unfold State.comeToJoin
  split <;> simp

@[simp] theorem State.joinBelow_frame (s : State) (c : ChannelId) :
    (s.joinBelow c).now = s.now ∧ (s.joinBelow c).pending = s.pending ∧ (s.joinBelow c).phase = s.phase ∧
      (s.joinBelow c).resetAt = s.resetAt ∧ (s.joinBelow c).supply = s.supply ∧
      (s.joinBelow c).retained = s.retained ∧ (s.joinBelow c).store = s.store ∧
      (s.joinBelow c).storeState = s.storeState ∧ (s.joinBelow c).saving = s.saving ∧
      (s.joinBelow c).tables = s.tables ∧ (s.joinBelow c).routes = s.routes ∧
      (s.joinBelow c).serviceHeld = s.serviceHeld ∧ (s.joinBelow c).zones = s.zones ∧
      (s.joinBelow c).arbiter = s.arbiter ∧ (s.joinBelow c).command = s.command ∧
      (s.joinBelow c).computation = s.computation ∧ (s.joinBelow c).slotLimit = s.slotLimit ∧
      (s.joinBelow c).homingDue = s.homingDue ∧ (s.joinBelow c).links = s.links ∧ (s.joinBelow c).room = s.room ∧
      (s.joinBelow c).plant = s.plant ∧ (s.joinBelow c).relay = s.relay ∧ (s.joinBelow c).decoder = s.decoder ∧
      (s.joinBelow c).events = s.events := by
  simp [State.joinBelow]

@[simp] theorem State.joinInOrder_frame (s : State) (c : ChannelId) :
    (s.joinInOrder c).now = s.now ∧ (s.joinInOrder c).pending = s.pending ∧ (s.joinInOrder c).phase = s.phase ∧
      (s.joinInOrder c).resetAt = s.resetAt ∧ (s.joinInOrder c).supply = s.supply ∧
      (s.joinInOrder c).retained = s.retained ∧ (s.joinInOrder c).store = s.store ∧
      (s.joinInOrder c).storeState = s.storeState ∧ (s.joinInOrder c).saving = s.saving ∧
      (s.joinInOrder c).tables = s.tables ∧ (s.joinInOrder c).routes = s.routes ∧
      (s.joinInOrder c).serviceHeld = s.serviceHeld ∧ (s.joinInOrder c).zones = s.zones ∧
      (s.joinInOrder c).arbiter = s.arbiter ∧ (s.joinInOrder c).command = s.command ∧
      (s.joinInOrder c).computation = s.computation ∧ (s.joinInOrder c).homingDue = s.homingDue ∧
      (s.joinInOrder c).links = s.links ∧ (s.joinInOrder c).room = s.room ∧ (s.joinInOrder c).plant = s.plant ∧
      (s.joinInOrder c).relay = s.relay ∧ (s.joinInOrder c).decoder = s.decoder ∧ (s.joinInOrder c).events = s.events := by
  simp [State.joinInOrder]

@[simp] theorem State.joinHomeInOrder_frame (s : State) (c : ChannelId) :
    (s.joinHomeInOrder c).now = s.now ∧ (s.joinHomeInOrder c).pending = s.pending ∧
      (s.joinHomeInOrder c).phase = s.phase ∧ (s.joinHomeInOrder c).resetAt = s.resetAt ∧
      (s.joinHomeInOrder c).supply = s.supply ∧ (s.joinHomeInOrder c).retained = s.retained ∧
      (s.joinHomeInOrder c).store = s.store ∧ (s.joinHomeInOrder c).storeState = s.storeState ∧
      (s.joinHomeInOrder c).saving = s.saving ∧ (s.joinHomeInOrder c).tables = s.tables ∧
      (s.joinHomeInOrder c).routes = s.routes ∧ (s.joinHomeInOrder c).serviceHeld = s.serviceHeld ∧
      (s.joinHomeInOrder c).zones = s.zones ∧ (s.joinHomeInOrder c).arbiter = s.arbiter ∧
      (s.joinHomeInOrder c).command = s.command ∧ (s.joinHomeInOrder c).computation = s.computation ∧
      (s.joinHomeInOrder c).slotLimit = s.slotLimit ∧ (s.joinHomeInOrder c).homingDue = s.homingDue ∧
      (s.joinHomeInOrder c).links = s.links ∧ (s.joinHomeInOrder c).room = s.room ∧
      (s.joinHomeInOrder c).plant = s.plant ∧ (s.joinHomeInOrder c).relay = s.relay ∧
      (s.joinHomeInOrder c).decoder = s.decoder ∧ (s.joinHomeInOrder c).events = s.events := by
  simp [State.joinHomeInOrder]

@[simp] theorem State.enterFault_frame (s : State) (c : ChannelId) (homed : Bool) :
    (s.enterFault c homed).now = s.now ∧ (s.enterFault c homed).pending = s.pending ∧
      (s.enterFault c homed).phase = s.phase ∧ (s.enterFault c homed).resetAt = s.resetAt ∧
      (s.enterFault c homed).supply = s.supply ∧ (s.enterFault c homed).retained = s.retained ∧
      (s.enterFault c homed).store = s.store ∧ (s.enterFault c homed).storeState = s.storeState ∧
      (s.enterFault c homed).saving = s.saving ∧ (s.enterFault c homed).tables = s.tables ∧
      (s.enterFault c homed).routes = s.routes ∧ (s.enterFault c homed).serviceHeld = s.serviceHeld ∧
      (s.enterFault c homed).arbiter = s.arbiter ∧ (s.enterFault c homed).command = s.command ∧
      (s.enterFault c homed).computation = s.computation ∧ (s.enterFault c homed).queue = s.queue ∧
      (s.enterFault c homed).slotLimit = s.slotLimit ∧ (s.enterFault c homed).homingDue = s.homingDue ∧
      (s.enterFault c homed).links = s.links ∧ (s.enterFault c homed).room = s.room ∧
      (s.enterFault c homed).plant = s.plant ∧ (s.enterFault c homed).relay = s.relay ∧
      (s.enterFault c homed).decoder = s.decoder := by
  simp [State.enterFault]

@[simp] theorem State.retargetQueued_frame (s : State) (c : ChannelId) (g : Goal) :
    (s.retargetQueued c g).now = s.now ∧ (s.retargetQueued c g).pending = s.pending ∧
      (s.retargetQueued c g).phase = s.phase ∧ (s.retargetQueued c g).resetAt = s.resetAt ∧
      (s.retargetQueued c g).supply = s.supply ∧ (s.retargetQueued c g).retained = s.retained ∧
      (s.retargetQueued c g).store = s.store ∧ (s.retargetQueued c g).storeState = s.storeState ∧
      (s.retargetQueued c g).saving = s.saving ∧ (s.retargetQueued c g).tables = s.tables ∧
      (s.retargetQueued c g).routes = s.routes ∧ (s.retargetQueued c g).serviceHeld = s.serviceHeld ∧
      (s.retargetQueued c g).zones = s.zones ∧ (s.retargetQueued c g).arbiter = s.arbiter ∧
      (s.retargetQueued c g).command = s.command ∧ (s.retargetQueued c g).computation = s.computation ∧
      (s.retargetQueued c g).slotLimit = s.slotLimit ∧ (s.retargetQueued c g).homingDue = s.homingDue ∧
      (s.retargetQueued c g).links = s.links ∧ (s.retargetQueued c g).room = s.room ∧
      (s.retargetQueued c g).plant = s.plant ∧ (s.retargetQueued c g).relay = s.relay ∧
      (s.retargetQueued c g).decoder = s.decoder ∧ (s.retargetQueued c g).events = s.events := by
  simp [State.retargetQueued]

@[simp] theorem State.retargetDriving_frame (s : State) (c : ChannelId) (g : Goal) :
    (s.retargetDriving c g).now = s.now ∧ (s.retargetDriving c g).pending = s.pending ∧
      (s.retargetDriving c g).phase = s.phase ∧ (s.retargetDriving c g).resetAt = s.resetAt ∧
      (s.retargetDriving c g).supply = s.supply ∧ (s.retargetDriving c g).retained = s.retained ∧
      (s.retargetDriving c g).store = s.store ∧ (s.retargetDriving c g).storeState = s.storeState ∧
      (s.retargetDriving c g).saving = s.saving ∧ (s.retargetDriving c g).tables = s.tables ∧
      (s.retargetDriving c g).routes = s.routes ∧ (s.retargetDriving c g).serviceHeld = s.serviceHeld ∧
      (s.retargetDriving c g).zones = s.zones ∧ (s.retargetDriving c g).arbiter = s.arbiter ∧
      (s.retargetDriving c g).command = s.command ∧ (s.retargetDriving c g).computation = s.computation ∧
      (s.retargetDriving c g).queue = s.queue ∧ (s.retargetDriving c g).slotLimit = s.slotLimit ∧
      (s.retargetDriving c g).homingDue = s.homingDue ∧ (s.retargetDriving c g).links = s.links ∧
      (s.retargetDriving c g).room = s.room ∧ (s.retargetDriving c g).plant = s.plant ∧
      (s.retargetDriving c g).relay = s.relay ∧ (s.retargetDriving c g).decoder = s.decoder ∧
      (s.retargetDriving c g).events = s.events := by
  unfold State.retargetDriving
  dsimp only
  (repeat' split) <;> simp

@[simp] theorem State.takeTarget_frame (s : State) (c : ChannelId) (p : Nat) :
    (s.takeTarget c p).now = s.now ∧ (s.takeTarget c p).pending = s.pending ∧ (s.takeTarget c p).phase = s.phase ∧
      (s.takeTarget c p).resetAt = s.resetAt ∧ (s.takeTarget c p).supply = s.supply ∧
      (s.takeTarget c p).retained = s.retained ∧ (s.takeTarget c p).store = s.store ∧
      (s.takeTarget c p).storeState = s.storeState ∧ (s.takeTarget c p).saving = s.saving ∧
      (s.takeTarget c p).tables = s.tables ∧ (s.takeTarget c p).routes = s.routes ∧
      (s.takeTarget c p).serviceHeld = s.serviceHeld ∧ (s.takeTarget c p).zones = s.zones ∧
      (s.takeTarget c p).arbiter = s.arbiter ∧ (s.takeTarget c p).command = s.command ∧
      (s.takeTarget c p).computation = s.computation ∧ (s.takeTarget c p).slotLimit = s.slotLimit ∧
      (s.takeTarget c p).homingDue = s.homingDue ∧ (s.takeTarget c p).links = s.links ∧
      (s.takeTarget c p).room = s.room ∧ (s.takeTarget c p).plant = s.plant ∧ (s.takeTarget c p).relay = s.relay ∧
      (s.takeTarget c p).decoder = s.decoder ∧ (s.takeTarget c p).events = s.events := by
  unfold State.takeTarget
  dsimp only
  (repeat' split) <;> simp

@[simp] theorem State.publish_frame (s : State) (p : Vector Nat 8) :
    (s.publish p).now = s.now ∧ (s.publish p).pending = s.pending ∧ (s.publish p).phase = s.phase ∧
      (s.publish p).resetAt = s.resetAt ∧ (s.publish p).supply = s.supply ∧ (s.publish p).retained = s.retained ∧
      (s.publish p).store = s.store ∧ (s.publish p).storeState = s.storeState ∧ (s.publish p).saving = s.saving ∧
      (s.publish p).tables = s.tables ∧ (s.publish p).routes = s.routes ∧ (s.publish p).serviceHeld = s.serviceHeld ∧
      (s.publish p).zones = s.zones ∧ (s.publish p).arbiter = s.arbiter ∧ (s.publish p).command = s.command ∧
      (s.publish p).computation = s.computation ∧ (s.publish p).homingDue = s.homingDue ∧
      (s.publish p).links = s.links ∧ (s.publish p).room = s.room ∧ (s.publish p).plant = s.plant ∧
      (s.publish p).relay = s.relay ∧ (s.publish p).decoder = s.decoder ∧ (s.publish p).events = s.events := by
  simp [State.publish]

@[simp] theorem State.drivePulse_frame (s : State) (c : ChannelId) (d : Dir) :
    (s.drivePulse c d).now = s.now ∧ (s.drivePulse c d).pending = s.pending ∧ (s.drivePulse c d).phase = s.phase ∧
      (s.drivePulse c d).resetAt = s.resetAt ∧ (s.drivePulse c d).supply = s.supply ∧
      (s.drivePulse c d).retained = s.retained ∧ (s.drivePulse c d).store = s.store ∧
      (s.drivePulse c d).storeState = s.storeState ∧ (s.drivePulse c d).saving = s.saving ∧
      (s.drivePulse c d).tables = s.tables ∧ (s.drivePulse c d).routes = s.routes ∧
      (s.drivePulse c d).serviceHeld = s.serviceHeld ∧ (s.drivePulse c d).zones = s.zones ∧
      (s.drivePulse c d).arbiter = s.arbiter ∧ (s.drivePulse c d).command = s.command ∧
      (s.drivePulse c d).computation = s.computation ∧ (s.drivePulse c d).queue = s.queue ∧
      (s.drivePulse c d).slotLimit = s.slotLimit ∧ (s.drivePulse c d).homingDue = s.homingDue ∧
      (s.drivePulse c d).links = s.links ∧ (s.drivePulse c d).room = s.room ∧ (s.drivePulse c d).plant = s.plant ∧
      (s.drivePulse c d).relay = s.relay ∧ (s.drivePulse c d).decoder = s.decoder ∧
      (s.drivePulse c d).events = s.events := by
  unfold State.drivePulse
  dsimp only
  (repeat' split) <;> simp

@[simp] theorem State.recheckQueued_frame (s : State) (c : ChannelId) :
    (s.recheckQueued c).now = s.now ∧ (s.recheckQueued c).pending = s.pending ∧ (s.recheckQueued c).phase = s.phase ∧
      (s.recheckQueued c).resetAt = s.resetAt ∧ (s.recheckQueued c).supply = s.supply ∧
      (s.recheckQueued c).retained = s.retained ∧ (s.recheckQueued c).store = s.store ∧
      (s.recheckQueued c).storeState = s.storeState ∧ (s.recheckQueued c).saving = s.saving ∧
      (s.recheckQueued c).tables = s.tables ∧ (s.recheckQueued c).routes = s.routes ∧
      (s.recheckQueued c).serviceHeld = s.serviceHeld ∧ (s.recheckQueued c).zones = s.zones ∧
      (s.recheckQueued c).arbiter = s.arbiter ∧ (s.recheckQueued c).command = s.command ∧
      (s.recheckQueued c).computation = s.computation ∧ (s.recheckQueued c).slotLimit = s.slotLimit ∧
      (s.recheckQueued c).homingDue = s.homingDue ∧ (s.recheckQueued c).links = s.links ∧
      (s.recheckQueued c).room = s.room ∧ (s.recheckQueued c).plant = s.plant ∧ (s.recheckQueued c).relay = s.relay ∧
      (s.recheckQueued c).decoder = s.decoder ∧ (s.recheckQueued c).events = s.events := by
  unfold State.recheckQueued
  dsimp only
  (repeat' split) <;> simp

@[simp] theorem State.coastPulse_frame (s : State) (c : ChannelId) (d : Dir) :
    (s.coastPulse c d).now = s.now ∧ (s.coastPulse c d).pending = s.pending ∧ (s.coastPulse c d).phase = s.phase ∧
      (s.coastPulse c d).resetAt = s.resetAt ∧ (s.coastPulse c d).supply = s.supply ∧
      (s.coastPulse c d).retained = s.retained ∧ (s.coastPulse c d).store = s.store ∧
      (s.coastPulse c d).storeState = s.storeState ∧ (s.coastPulse c d).saving = s.saving ∧
      (s.coastPulse c d).tables = s.tables ∧ (s.coastPulse c d).routes = s.routes ∧
      (s.coastPulse c d).serviceHeld = s.serviceHeld ∧ (s.coastPulse c d).zones = s.zones ∧
      (s.coastPulse c d).arbiter = s.arbiter ∧ (s.coastPulse c d).command = s.command ∧
      (s.coastPulse c d).computation = s.computation ∧ (s.coastPulse c d).slotLimit = s.slotLimit ∧
      (s.coastPulse c d).homingDue = s.homingDue ∧ (s.coastPulse c d).links = s.links ∧
      (s.coastPulse c d).room = s.room ∧ (s.coastPulse c d).plant = s.plant ∧ (s.coastPulse c d).relay = s.relay ∧
      (s.coastPulse c d).decoder = s.decoder ∧ (s.coastPulse c d).events = s.events := by
  simp [State.coastPulse]

@[simp] theorem State.loseHoming_frame (s : State) (c : ChannelId) :
    (s.loseHoming c).now = s.now ∧ (s.loseHoming c).pending = s.pending ∧ (s.loseHoming c).phase = s.phase ∧
      (s.loseHoming c).resetAt = s.resetAt ∧ (s.loseHoming c).supply = s.supply ∧
      (s.loseHoming c).retained = s.retained ∧ (s.loseHoming c).store = s.store ∧
      (s.loseHoming c).storeState = s.storeState ∧ (s.loseHoming c).saving = s.saving ∧
      (s.loseHoming c).tables = s.tables ∧ (s.loseHoming c).routes = s.routes ∧
      (s.loseHoming c).serviceHeld = s.serviceHeld ∧ (s.loseHoming c).zones = s.zones ∧
      (s.loseHoming c).arbiter = s.arbiter ∧ (s.loseHoming c).command = s.command ∧
      (s.loseHoming c).computation = s.computation ∧ (s.loseHoming c).slotLimit = s.slotLimit ∧
      (s.loseHoming c).homingDue = s.homingDue ∧ (s.loseHoming c).links = s.links ∧ (s.loseHoming c).room = s.room ∧
      (s.loseHoming c).plant = s.plant ∧ (s.loseHoming c).relay = s.relay ∧ (s.loseHoming c).decoder = s.decoder ∧
      (s.loseHoming c).events = s.events := by
  unfold State.loseHoming
  dsimp only
  (repeat' split) <;> simp

@[simp] theorem State.strayPulse_frame (s : State) (c : ChannelId) :
    (s.strayPulse c).now = s.now ∧ (s.strayPulse c).pending = s.pending ∧ (s.strayPulse c).phase = s.phase ∧
      (s.strayPulse c).resetAt = s.resetAt ∧ (s.strayPulse c).supply = s.supply ∧
      (s.strayPulse c).retained = s.retained ∧ (s.strayPulse c).store = s.store ∧
      (s.strayPulse c).storeState = s.storeState ∧ (s.strayPulse c).saving = s.saving ∧
      (s.strayPulse c).tables = s.tables ∧ (s.strayPulse c).routes = s.routes ∧
      (s.strayPulse c).serviceHeld = s.serviceHeld ∧ (s.strayPulse c).zones = s.zones ∧
      (s.strayPulse c).arbiter = s.arbiter ∧ (s.strayPulse c).command = s.command ∧
      (s.strayPulse c).computation = s.computation ∧ (s.strayPulse c).slotLimit = s.slotLimit ∧
      (s.strayPulse c).homingDue = s.homingDue ∧ (s.strayPulse c).links = s.links ∧ (s.strayPulse c).room = s.room ∧
      (s.strayPulse c).plant = s.plant ∧ (s.strayPulse c).relay = s.relay ∧ (s.strayPulse c).decoder = s.decoder ∧
      (s.strayPulse c).events = s.events := by
  simp [State.strayPulse]

@[simp] theorem State.pulse_frame (s : State) (c : ChannelId) :
    (s.pulse c).now = s.now ∧ (s.pulse c).pending = s.pending ∧ (s.pulse c).phase = s.phase ∧
      (s.pulse c).resetAt = s.resetAt ∧ (s.pulse c).supply = s.supply ∧ (s.pulse c).retained = s.retained ∧
      (s.pulse c).store = s.store ∧ (s.pulse c).storeState = s.storeState ∧ (s.pulse c).saving = s.saving ∧
      (s.pulse c).tables = s.tables ∧ (s.pulse c).routes = s.routes ∧ (s.pulse c).serviceHeld = s.serviceHeld ∧
      (s.pulse c).zones = s.zones ∧ (s.pulse c).arbiter = s.arbiter ∧ (s.pulse c).command = s.command ∧
      (s.pulse c).computation = s.computation ∧ (s.pulse c).homingDue = s.homingDue ∧ (s.pulse c).links = s.links ∧
      (s.pulse c).room = s.room ∧ (s.pulse c).plant = s.plant ∧ (s.pulse c).relay = s.relay ∧
      (s.pulse c).decoder = s.decoder ∧ (s.pulse c).events = s.events := by
  unfold State.pulse
  dsimp only
  (repeat' split) <;> simp

@[simp] theorem State.silenceExpired_frame (s : State) (c : ChannelId) :
    (s.silenceExpired c).now = s.now ∧ (s.silenceExpired c).pending = s.pending ∧
      (s.silenceExpired c).phase = s.phase ∧ (s.silenceExpired c).resetAt = s.resetAt ∧
      (s.silenceExpired c).supply = s.supply ∧ (s.silenceExpired c).retained = s.retained ∧
      (s.silenceExpired c).store = s.store ∧ (s.silenceExpired c).storeState = s.storeState ∧
      (s.silenceExpired c).saving = s.saving ∧ (s.silenceExpired c).tables = s.tables ∧
      (s.silenceExpired c).routes = s.routes ∧ (s.silenceExpired c).serviceHeld = s.serviceHeld ∧
      (s.silenceExpired c).arbiter = s.arbiter ∧ (s.silenceExpired c).command = s.command ∧
      (s.silenceExpired c).computation = s.computation ∧ (s.silenceExpired c).homingDue = s.homingDue ∧
      (s.silenceExpired c).links = s.links ∧ (s.silenceExpired c).room = s.room ∧
      (s.silenceExpired c).plant = s.plant ∧ (s.silenceExpired c).relay = s.relay ∧
      (s.silenceExpired c).decoder = s.decoder := by
  unfold State.silenceExpired
  dsimp only
  (repeat' split) <;> simp

@[simp] theorem State.seekExpired_frame (s : State) (c : ChannelId) :
    (s.seekExpired c).now = s.now ∧ (s.seekExpired c).pending = s.pending ∧ (s.seekExpired c).phase = s.phase ∧
      (s.seekExpired c).resetAt = s.resetAt ∧ (s.seekExpired c).supply = s.supply ∧
      (s.seekExpired c).retained = s.retained ∧ (s.seekExpired c).store = s.store ∧
      (s.seekExpired c).storeState = s.storeState ∧ (s.seekExpired c).saving = s.saving ∧
      (s.seekExpired c).tables = s.tables ∧ (s.seekExpired c).routes = s.routes ∧
      (s.seekExpired c).serviceHeld = s.serviceHeld ∧ (s.seekExpired c).arbiter = s.arbiter ∧
      (s.seekExpired c).command = s.command ∧ (s.seekExpired c).computation = s.computation ∧
      (s.seekExpired c).homingDue = s.homingDue ∧ (s.seekExpired c).links = s.links ∧
      (s.seekExpired c).room = s.room ∧ (s.seekExpired c).plant = s.plant ∧ (s.seekExpired c).relay = s.relay ∧
      (s.seekExpired c).decoder = s.decoder := by
  simp [State.seekExpired]

@[simp] theorem State.releaseChannel_frame (s : State) (c : ChannelId) :
    (s.releaseChannel c).now = s.now ∧ (s.releaseChannel c).pending = s.pending ∧
      (s.releaseChannel c).phase = s.phase ∧ (s.releaseChannel c).resetAt = s.resetAt ∧
      (s.releaseChannel c).supply = s.supply ∧ (s.releaseChannel c).retained = s.retained ∧
      (s.releaseChannel c).store = s.store ∧ (s.releaseChannel c).storeState = s.storeState ∧
      (s.releaseChannel c).saving = s.saving ∧ (s.releaseChannel c).tables = s.tables ∧
      (s.releaseChannel c).routes = s.routes ∧ (s.releaseChannel c).serviceHeld = s.serviceHeld ∧
      (s.releaseChannel c).arbiter = s.arbiter ∧ (s.releaseChannel c).command = s.command ∧
      (s.releaseChannel c).computation = s.computation ∧ (s.releaseChannel c).homingDue = s.homingDue ∧
      (s.releaseChannel c).links = s.links ∧ (s.releaseChannel c).room = s.room ∧
      (s.releaseChannel c).plant = s.plant ∧ (s.releaseChannel c).relay = s.relay ∧
      (s.releaseChannel c).decoder = s.decoder ∧ (s.releaseChannel c).events = s.events := by
  simp [State.releaseChannel]

@[simp] theorem State.cutDrives_frame (s : State) :
    (s.cutDrives).now = s.now ∧ (s.cutDrives).pending = s.pending ∧ (s.cutDrives).phase = s.phase ∧
      (s.cutDrives).resetAt = s.resetAt ∧ (s.cutDrives).supply = s.supply ∧ (s.cutDrives).retained = s.retained ∧
      (s.cutDrives).store = s.store ∧ (s.cutDrives).storeState = s.storeState ∧ (s.cutDrives).saving = s.saving ∧
      (s.cutDrives).tables = s.tables ∧ (s.cutDrives).routes = s.routes ∧ (s.cutDrives).serviceHeld = s.serviceHeld ∧
      (s.cutDrives).zones = s.zones ∧ (s.cutDrives).arbiter = s.arbiter ∧ (s.cutDrives).command = s.command ∧
      (s.cutDrives).computation = s.computation ∧ (s.cutDrives).homingDue = s.homingDue ∧
      (s.cutDrives).links = s.links ∧ (s.cutDrives).room = s.room ∧ (s.cutDrives).plant = s.plant ∧
      (s.cutDrives).relay = s.relay ∧ (s.cutDrives).decoder = s.decoder ∧ (s.cutDrives).events = s.events := by
  simp [State.cutDrives]

@[simp] theorem State.resumeDrives_frame (s : State) :
    (s.resumeDrives).now = s.now ∧ (s.resumeDrives).pending = s.pending ∧ (s.resumeDrives).phase = s.phase ∧
      (s.resumeDrives).resetAt = s.resetAt ∧ (s.resumeDrives).supply = s.supply ∧
      (s.resumeDrives).retained = s.retained ∧ (s.resumeDrives).store = s.store ∧
      (s.resumeDrives).storeState = s.storeState ∧ (s.resumeDrives).saving = s.saving ∧
      (s.resumeDrives).tables = s.tables ∧ (s.resumeDrives).routes = s.routes ∧
      (s.resumeDrives).serviceHeld = s.serviceHeld ∧ (s.resumeDrives).zones = s.zones ∧
      (s.resumeDrives).arbiter = s.arbiter ∧ (s.resumeDrives).command = s.command ∧
      (s.resumeDrives).computation = s.computation ∧ (s.resumeDrives).homingDue = s.homingDue ∧
      (s.resumeDrives).links = s.links ∧ (s.resumeDrives).room = s.room ∧ (s.resumeDrives).plant = s.plant ∧
      (s.resumeDrives).relay = s.relay ∧ (s.resumeDrives).decoder = s.decoder ∧ (s.resumeDrives).events = s.events := by
  simp [State.resumeDrives]

@[simp] theorem State.damperWritten_frame (s : State) (c : ChannelId) (old : DamperCfg) :
    (s.damperWritten c old).now = s.now ∧ (s.damperWritten c old).pending = s.pending ∧
      (s.damperWritten c old).phase = s.phase ∧ (s.damperWritten c old).resetAt = s.resetAt ∧
      (s.damperWritten c old).supply = s.supply ∧ (s.damperWritten c old).retained = s.retained ∧
      (s.damperWritten c old).store = s.store ∧ (s.damperWritten c old).storeState = s.storeState ∧
      (s.damperWritten c old).saving = s.saving ∧ (s.damperWritten c old).tables = s.tables ∧
      (s.damperWritten c old).routes = s.routes ∧ (s.damperWritten c old).serviceHeld = s.serviceHeld ∧
      (s.damperWritten c old).zones = s.zones ∧ (s.damperWritten c old).arbiter = s.arbiter ∧
      (s.damperWritten c old).command = s.command ∧ (s.damperWritten c old).computation = s.computation ∧
      (s.damperWritten c old).slotLimit = s.slotLimit ∧ (s.damperWritten c old).homingDue = s.homingDue ∧
      (s.damperWritten c old).links = s.links ∧ (s.damperWritten c old).room = s.room ∧
      (s.damperWritten c old).plant = s.plant ∧ (s.damperWritten c old).relay = s.relay ∧
      (s.damperWritten c old).decoder = s.decoder ∧ (s.damperWritten c old).events = s.events := by
  simp [State.damperWritten]

end Sys2Proof.Machine
end

