-- ==== Sys2Proof/Laws/FrameArbiter.lean ====
section
/-! SUPPORT. What the operations of the house arbiter leave alone: for each operation, every field of State that it does not
write. -/

namespace Sys2Proof.Machine

@[simp] theorem State.goIdle_frame (s : State) :
    (s.goIdle).now = s.now ∧ (s.goIdle).pending = s.pending ∧ (s.goIdle).phase = s.phase ∧
      (s.goIdle).resetAt = s.resetAt ∧ (s.goIdle).supply = s.supply ∧ (s.goIdle).retained = s.retained ∧
      (s.goIdle).store = s.store ∧ (s.goIdle).storeState = s.storeState ∧ (s.goIdle).saving = s.saving ∧
      (s.goIdle).tables = s.tables ∧ (s.goIdle).routes = s.routes ∧ (s.goIdle).serviceHeld = s.serviceHeld ∧
      (s.goIdle).zones = s.zones ∧ (s.goIdle).computation = s.computation ∧ (s.goIdle).channels = s.channels ∧
      (s.goIdle).queue = s.queue ∧ (s.goIdle).slotLimit = s.slotLimit ∧ (s.goIdle).homingDue = s.homingDue ∧
      (s.goIdle).room = s.room ∧ (s.goIdle).plant = s.plant ∧ (s.goIdle).decoder = s.decoder := by
  simp [State.goIdle]

@[simp] theorem State.enterShed_frame (s : State) :
    (s.enterShed).now = s.now ∧ (s.enterShed).pending = s.pending ∧ (s.enterShed).phase = s.phase ∧
      (s.enterShed).resetAt = s.resetAt ∧ (s.enterShed).supply = s.supply ∧ (s.enterShed).retained = s.retained ∧
      (s.enterShed).store = s.store ∧ (s.enterShed).storeState = s.storeState ∧ (s.enterShed).saving = s.saving ∧
      (s.enterShed).tables = s.tables ∧ (s.enterShed).routes = s.routes ∧ (s.enterShed).serviceHeld = s.serviceHeld ∧
      (s.enterShed).zones = s.zones ∧ (s.enterShed).computation = s.computation ∧
      (s.enterShed).channels = s.channels ∧ (s.enterShed).queue = s.queue ∧ (s.enterShed).slotLimit = s.slotLimit ∧
      (s.enterShed).homingDue = s.homingDue ∧ (s.enterShed).room = s.room ∧ (s.enterShed).plant = s.plant ∧
      (s.enterShed).decoder = s.decoder := by
  simp [State.enterShed]

@[simp] theorem State.reviewShed_frame (s : State) :
    (s.reviewShed).now = s.now ∧ (s.reviewShed).pending = s.pending ∧ (s.reviewShed).phase = s.phase ∧
      (s.reviewShed).resetAt = s.resetAt ∧ (s.reviewShed).supply = s.supply ∧ (s.reviewShed).retained = s.retained ∧
      (s.reviewShed).store = s.store ∧ (s.reviewShed).storeState = s.storeState ∧ (s.reviewShed).saving = s.saving ∧
      (s.reviewShed).tables = s.tables ∧ (s.reviewShed).routes = s.routes ∧
      (s.reviewShed).serviceHeld = s.serviceHeld ∧ (s.reviewShed).zones = s.zones ∧
      (s.reviewShed).computation = s.computation ∧ (s.reviewShed).channels = s.channels ∧
      (s.reviewShed).queue = s.queue ∧ (s.reviewShed).slotLimit = s.slotLimit ∧
      (s.reviewShed).homingDue = s.homingDue ∧ (s.reviewShed).room = s.room ∧ (s.reviewShed).plant = s.plant ∧
      (s.reviewShed).decoder = s.decoder := by
  simp [State.reviewShed]

@[simp] theorem State.capChanged_frame (s : State) :
    (s.capChanged).now = s.now ∧ (s.capChanged).pending = s.pending ∧ (s.capChanged).phase = s.phase ∧
      (s.capChanged).resetAt = s.resetAt ∧ (s.capChanged).supply = s.supply ∧ (s.capChanged).retained = s.retained ∧
      (s.capChanged).store = s.store ∧ (s.capChanged).storeState = s.storeState ∧ (s.capChanged).saving = s.saving ∧
      (s.capChanged).tables = s.tables ∧ (s.capChanged).routes = s.routes ∧
      (s.capChanged).serviceHeld = s.serviceHeld ∧ (s.capChanged).zones = s.zones ∧
      (s.capChanged).computation = s.computation ∧ (s.capChanged).channels = s.channels ∧
      (s.capChanged).queue = s.queue ∧ (s.capChanged).slotLimit = s.slotLimit ∧
      (s.capChanged).homingDue = s.homingDue ∧ (s.capChanged).room = s.room ∧ (s.capChanged).plant = s.plant ∧
      (s.capChanged).decoder = s.decoder := by
  simp [State.capChanged]

@[simp] theorem State.cminChanged_frame (s : State) :
    (s.cminChanged).now = s.now ∧ (s.cminChanged).pending = s.pending ∧ (s.cminChanged).phase = s.phase ∧
      (s.cminChanged).resetAt = s.resetAt ∧ (s.cminChanged).supply = s.supply ∧
      (s.cminChanged).retained = s.retained ∧ (s.cminChanged).store = s.store ∧
      (s.cminChanged).storeState = s.storeState ∧ (s.cminChanged).saving = s.saving ∧
      (s.cminChanged).tables = s.tables ∧ (s.cminChanged).routes = s.routes ∧
      (s.cminChanged).serviceHeld = s.serviceHeld ∧ (s.cminChanged).zones = s.zones ∧
      (s.cminChanged).computation = s.computation ∧ (s.cminChanged).channels = s.channels ∧
      (s.cminChanged).queue = s.queue ∧ (s.cminChanged).slotLimit = s.slotLimit ∧
      (s.cminChanged).homingDue = s.homingDue ∧ (s.cminChanged).room = s.room ∧ (s.cminChanged).plant = s.plant ∧
      (s.cminChanged).decoder = s.decoder := by
  unfold State.cminChanged
  dsimp only
  (repeat' split) <;> simp

@[simp] theorem State.nodeUnavailable_frame (s : State) (n : Node) :
    (s.nodeUnavailable n).now = s.now ∧ (s.nodeUnavailable n).pending = s.pending ∧
      (s.nodeUnavailable n).phase = s.phase ∧ (s.nodeUnavailable n).resetAt = s.resetAt ∧
      (s.nodeUnavailable n).supply = s.supply ∧ (s.nodeUnavailable n).retained = s.retained ∧
      (s.nodeUnavailable n).store = s.store ∧ (s.nodeUnavailable n).storeState = s.storeState ∧
      (s.nodeUnavailable n).saving = s.saving ∧ (s.nodeUnavailable n).tables = s.tables ∧
      (s.nodeUnavailable n).routes = s.routes ∧ (s.nodeUnavailable n).serviceHeld = s.serviceHeld ∧
      (s.nodeUnavailable n).zones = s.zones ∧ (s.nodeUnavailable n).computation = s.computation ∧
      (s.nodeUnavailable n).channels = s.channels ∧ (s.nodeUnavailable n).queue = s.queue ∧
      (s.nodeUnavailable n).slotLimit = s.slotLimit ∧ (s.nodeUnavailable n).homingDue = s.homingDue ∧
      (s.nodeUnavailable n).room = s.room ∧ (s.nodeUnavailable n).plant = s.plant ∧
      (s.nodeUnavailable n).decoder = s.decoder := by
  unfold State.nodeUnavailable
  (repeat' split) <;> simp

@[simp] theorem State.enterDefrost_frame (s : State) :
    (s.enterDefrost).now = s.now ∧ (s.enterDefrost).pending = s.pending ∧ (s.enterDefrost).phase = s.phase ∧
      (s.enterDefrost).resetAt = s.resetAt ∧ (s.enterDefrost).supply = s.supply ∧
      (s.enterDefrost).retained = s.retained ∧ (s.enterDefrost).store = s.store ∧
      (s.enterDefrost).storeState = s.storeState ∧ (s.enterDefrost).saving = s.saving ∧
      (s.enterDefrost).tables = s.tables ∧ (s.enterDefrost).routes = s.routes ∧
      (s.enterDefrost).serviceHeld = s.serviceHeld ∧ (s.enterDefrost).zones = s.zones ∧
      (s.enterDefrost).computation = s.computation ∧ (s.enterDefrost).channels = s.channels ∧
      (s.enterDefrost).queue = s.queue ∧ (s.enterDefrost).slotLimit = s.slotLimit ∧
      (s.enterDefrost).homingDue = s.homingDue ∧ (s.enterDefrost).room = s.room ∧ (s.enterDefrost).plant = s.plant ∧
      (s.enterDefrost).decoder = s.decoder := by
  simp [State.enterDefrost]

@[simp] theorem State.leaveDefrost_frame (s : State) :
    (s.leaveDefrost).now = s.now ∧ (s.leaveDefrost).pending = s.pending ∧ (s.leaveDefrost).phase = s.phase ∧
      (s.leaveDefrost).resetAt = s.resetAt ∧ (s.leaveDefrost).supply = s.supply ∧
      (s.leaveDefrost).retained = s.retained ∧ (s.leaveDefrost).store = s.store ∧
      (s.leaveDefrost).storeState = s.storeState ∧ (s.leaveDefrost).saving = s.saving ∧
      (s.leaveDefrost).tables = s.tables ∧ (s.leaveDefrost).routes = s.routes ∧
      (s.leaveDefrost).serviceHeld = s.serviceHeld ∧ (s.leaveDefrost).zones = s.zones ∧
      (s.leaveDefrost).computation = s.computation ∧ (s.leaveDefrost).channels = s.channels ∧
      (s.leaveDefrost).queue = s.queue ∧ (s.leaveDefrost).slotLimit = s.slotLimit ∧
      (s.leaveDefrost).homingDue = s.homingDue ∧ (s.leaveDefrost).room = s.room ∧ (s.leaveDefrost).plant = s.plant ∧
      (s.leaveDefrost).decoder = s.decoder := by
  simp [State.leaveDefrost]

@[simp] theorem State.defrostLong_frame (s : State) :
    (s.defrostLong).now = s.now ∧ (s.defrostLong).pending = s.pending ∧ (s.defrostLong).phase = s.phase ∧
      (s.defrostLong).resetAt = s.resetAt ∧ (s.defrostLong).supply = s.supply ∧
      (s.defrostLong).retained = s.retained ∧ (s.defrostLong).store = s.store ∧
      (s.defrostLong).storeState = s.storeState ∧ (s.defrostLong).saving = s.saving ∧
      (s.defrostLong).tables = s.tables ∧ (s.defrostLong).routes = s.routes ∧
      (s.defrostLong).serviceHeld = s.serviceHeld ∧ (s.defrostLong).zones = s.zones ∧
      (s.defrostLong).command = s.command ∧ (s.defrostLong).computation = s.computation ∧
      (s.defrostLong).channels = s.channels ∧ (s.defrostLong).queue = s.queue ∧
      (s.defrostLong).slotLimit = s.slotLimit ∧ (s.defrostLong).homingDue = s.homingDue ∧
      (s.defrostLong).links = s.links ∧ (s.defrostLong).room = s.room ∧ (s.defrostLong).plant = s.plant ∧
      (s.defrostLong).relay = s.relay ∧ (s.defrostLong).decoder = s.decoder := by
  simp [State.defrostLong]

@[simp] theorem State.outdoorReported_frame (s : State) (st : NodeState) :
    (s.outdoorReported st).now = s.now ∧ (s.outdoorReported st).pending = s.pending ∧
      (s.outdoorReported st).phase = s.phase ∧ (s.outdoorReported st).resetAt = s.resetAt ∧
      (s.outdoorReported st).supply = s.supply ∧ (s.outdoorReported st).retained = s.retained ∧
      (s.outdoorReported st).store = s.store ∧ (s.outdoorReported st).storeState = s.storeState ∧
      (s.outdoorReported st).saving = s.saving ∧ (s.outdoorReported st).tables = s.tables ∧
      (s.outdoorReported st).routes = s.routes ∧ (s.outdoorReported st).serviceHeld = s.serviceHeld ∧
      (s.outdoorReported st).zones = s.zones ∧ (s.outdoorReported st).computation = s.computation ∧
      (s.outdoorReported st).channels = s.channels ∧ (s.outdoorReported st).queue = s.queue ∧
      (s.outdoorReported st).slotLimit = s.slotLimit ∧ (s.outdoorReported st).homingDue = s.homingDue ∧
      (s.outdoorReported st).room = s.room ∧ (s.outdoorReported st).plant = s.plant ∧
      (s.outdoorReported st).decoder = s.decoder := by
  unfold State.outdoorReported
  (repeat' split) <;> simp

@[simp] theorem State.airLimitsChanged_frame (s : State) :
    (s.airLimitsChanged).now = s.now ∧ (s.airLimitsChanged).pending = s.pending ∧
      (s.airLimitsChanged).phase = s.phase ∧ (s.airLimitsChanged).resetAt = s.resetAt ∧
      (s.airLimitsChanged).supply = s.supply ∧ (s.airLimitsChanged).retained = s.retained ∧
      (s.airLimitsChanged).store = s.store ∧ (s.airLimitsChanged).storeState = s.storeState ∧
      (s.airLimitsChanged).saving = s.saving ∧ (s.airLimitsChanged).tables = s.tables ∧
      (s.airLimitsChanged).routes = s.routes ∧ (s.airLimitsChanged).serviceHeld = s.serviceHeld ∧
      (s.airLimitsChanged).zones = s.zones ∧ (s.airLimitsChanged).computation = s.computation ∧
      (s.airLimitsChanged).channels = s.channels ∧ (s.airLimitsChanged).queue = s.queue ∧
      (s.airLimitsChanged).slotLimit = s.slotLimit ∧ (s.airLimitsChanged).homingDue = s.homingDue ∧
      (s.airLimitsChanged).room = s.room ∧ (s.airLimitsChanged).plant = s.plant ∧
      (s.airLimitsChanged).decoder = s.decoder := by
  unfold State.airLimitsChanged
  dsimp only
  (repeat' split) <;> simp

@[simp] theorem State.reheatLost_frame (s : State) :
    (s.reheatLost).now = s.now ∧ (s.reheatLost).pending = s.pending ∧ (s.reheatLost).phase = s.phase ∧
      (s.reheatLost).resetAt = s.resetAt ∧ (s.reheatLost).supply = s.supply ∧ (s.reheatLost).retained = s.retained ∧
      (s.reheatLost).store = s.store ∧ (s.reheatLost).storeState = s.storeState ∧ (s.reheatLost).saving = s.saving ∧
      (s.reheatLost).tables = s.tables ∧ (s.reheatLost).routes = s.routes ∧
      (s.reheatLost).serviceHeld = s.serviceHeld ∧ (s.reheatLost).zones = s.zones ∧
      (s.reheatLost).computation = s.computation ∧ (s.reheatLost).channels = s.channels ∧
      (s.reheatLost).queue = s.queue ∧ (s.reheatLost).slotLimit = s.slotLimit ∧
      (s.reheatLost).homingDue = s.homingDue ∧ (s.reheatLost).room = s.room ∧ (s.reheatLost).plant = s.plant ∧
      (s.reheatLost).decoder = s.decoder := by
  simp [State.reheatLost]

@[simp] theorem State.heatPumpLost_frame (s : State) :
    (s.heatPumpLost).now = s.now ∧ (s.heatPumpLost).pending = s.pending ∧ (s.heatPumpLost).phase = s.phase ∧
      (s.heatPumpLost).resetAt = s.resetAt ∧ (s.heatPumpLost).supply = s.supply ∧
      (s.heatPumpLost).retained = s.retained ∧ (s.heatPumpLost).store = s.store ∧
      (s.heatPumpLost).storeState = s.storeState ∧ (s.heatPumpLost).saving = s.saving ∧
      (s.heatPumpLost).tables = s.tables ∧ (s.heatPumpLost).routes = s.routes ∧
      (s.heatPumpLost).serviceHeld = s.serviceHeld ∧ (s.heatPumpLost).zones = s.zones ∧
      (s.heatPumpLost).computation = s.computation ∧ (s.heatPumpLost).channels = s.channels ∧
      (s.heatPumpLost).queue = s.queue ∧ (s.heatPumpLost).slotLimit = s.slotLimit ∧
      (s.heatPumpLost).homingDue = s.homingDue ∧ (s.heatPumpLost).room = s.room ∧ (s.heatPumpLost).plant = s.plant ∧
      (s.heatPumpLost).decoder = s.decoder := by
  simp [State.heatPumpLost]

@[simp] theorem State.capabilityChanged_frame (s : State) (old new : Capability) :
    (s.capabilityChanged old new).now = s.now ∧ (s.capabilityChanged old new).pending = s.pending ∧
      (s.capabilityChanged old new).phase = s.phase ∧ (s.capabilityChanged old new).resetAt = s.resetAt ∧
      (s.capabilityChanged old new).supply = s.supply ∧ (s.capabilityChanged old new).retained = s.retained ∧
      (s.capabilityChanged old new).store = s.store ∧ (s.capabilityChanged old new).storeState = s.storeState ∧
      (s.capabilityChanged old new).saving = s.saving ∧ (s.capabilityChanged old new).tables = s.tables ∧
      (s.capabilityChanged old new).routes = s.routes ∧ (s.capabilityChanged old new).serviceHeld = s.serviceHeld ∧
      (s.capabilityChanged old new).zones = s.zones ∧ (s.capabilityChanged old new).computation = s.computation ∧
      (s.capabilityChanged old new).channels = s.channels ∧ (s.capabilityChanged old new).queue = s.queue ∧
      (s.capabilityChanged old new).slotLimit = s.slotLimit ∧ (s.capabilityChanged old new).homingDue = s.homingDue ∧
      (s.capabilityChanged old new).room = s.room ∧ (s.capabilityChanged old new).plant = s.plant ∧
      (s.capabilityChanged old new).decoder = s.decoder := by
  unfold State.capabilityChanged
  dsimp only
  (repeat' split) <;> simp

@[simp] theorem State.haltHouse_frame (s : State) :
    (s.haltHouse).now = s.now ∧ (s.haltHouse).pending = s.pending ∧ (s.haltHouse).phase = s.phase ∧
      (s.haltHouse).resetAt = s.resetAt ∧ (s.haltHouse).supply = s.supply ∧ (s.haltHouse).retained = s.retained ∧
      (s.haltHouse).store = s.store ∧ (s.haltHouse).storeState = s.storeState ∧ (s.haltHouse).saving = s.saving ∧
      (s.haltHouse).tables = s.tables ∧ (s.haltHouse).routes = s.routes ∧ (s.haltHouse).serviceHeld = s.serviceHeld ∧
      (s.haltHouse).zones = s.zones ∧ (s.haltHouse).computation = s.computation ∧
      (s.haltHouse).channels = s.channels ∧ (s.haltHouse).queue = s.queue ∧ (s.haltHouse).slotLimit = s.slotLimit ∧
      (s.haltHouse).homingDue = s.homingDue ∧ (s.haltHouse).room = s.room ∧ (s.haltHouse).plant = s.plant ∧
      (s.haltHouse).decoder = s.decoder := by
  simp [State.haltHouse]

@[simp] theorem State.resumeHouse_frame (s : State) :
    (s.resumeHouse).now = s.now ∧ (s.resumeHouse).pending = s.pending ∧ (s.resumeHouse).phase = s.phase ∧
      (s.resumeHouse).resetAt = s.resetAt ∧ (s.resumeHouse).supply = s.supply ∧
      (s.resumeHouse).retained = s.retained ∧ (s.resumeHouse).store = s.store ∧
      (s.resumeHouse).storeState = s.storeState ∧ (s.resumeHouse).saving = s.saving ∧
      (s.resumeHouse).tables = s.tables ∧ (s.resumeHouse).routes = s.routes ∧
      (s.resumeHouse).serviceHeld = s.serviceHeld ∧ (s.resumeHouse).zones = s.zones ∧
      (s.resumeHouse).computation = s.computation ∧ (s.resumeHouse).channels = s.channels ∧
      (s.resumeHouse).queue = s.queue ∧ (s.resumeHouse).slotLimit = s.slotLimit ∧
      (s.resumeHouse).homingDue = s.homingDue ∧ (s.resumeHouse).room = s.room ∧ (s.resumeHouse).plant = s.plant ∧
      (s.resumeHouse).decoder = s.decoder := by
  simp [State.resumeHouse]

@[simp] theorem State.unhaltHouse_frame (s : State) :
    (s.unhaltHouse).now = s.now ∧ (s.unhaltHouse).pending = s.pending ∧ (s.unhaltHouse).phase = s.phase ∧
      (s.unhaltHouse).resetAt = s.resetAt ∧ (s.unhaltHouse).supply = s.supply ∧
      (s.unhaltHouse).retained = s.retained ∧ (s.unhaltHouse).store = s.store ∧
      (s.unhaltHouse).storeState = s.storeState ∧ (s.unhaltHouse).saving = s.saving ∧
      (s.unhaltHouse).tables = s.tables ∧ (s.unhaltHouse).routes = s.routes ∧
      (s.unhaltHouse).serviceHeld = s.serviceHeld ∧ (s.unhaltHouse).zones = s.zones ∧
      (s.unhaltHouse).computation = s.computation ∧ (s.unhaltHouse).channels = s.channels ∧
      (s.unhaltHouse).queue = s.queue ∧ (s.unhaltHouse).slotLimit = s.slotLimit ∧
      (s.unhaltHouse).homingDue = s.homingDue ∧ (s.unhaltHouse).room = s.room ∧ (s.unhaltHouse).plant = s.plant ∧
      (s.unhaltHouse).decoder = s.decoder := by
  simp [State.unhaltHouse]

@[simp] theorem State.commission_frame (s : State) :
    (s.commission).now = s.now ∧ (s.commission).pending = s.pending ∧ (s.commission).phase = s.phase ∧
      (s.commission).resetAt = s.resetAt ∧ (s.commission).supply = s.supply ∧ (s.commission).retained = s.retained ∧
      (s.commission).store = s.store ∧ (s.commission).storeState = s.storeState ∧ (s.commission).saving = s.saving ∧
      (s.commission).tables = s.tables ∧ (s.commission).routes = s.routes ∧
      (s.commission).serviceHeld = s.serviceHeld ∧ (s.commission).zones = s.zones ∧
      (s.commission).computation = s.computation ∧ (s.commission).channels = s.channels ∧
      (s.commission).queue = s.queue ∧ (s.commission).slotLimit = s.slotLimit ∧
      (s.commission).homingDue = s.homingDue ∧ (s.commission).room = s.room ∧ (s.commission).plant = s.plant ∧
      (s.commission).decoder = s.decoder := by
  simp [State.commission]

@[simp] theorem State.enterTarget_frame (s : State) (t : Target) :
    (s.enterTarget t).now = s.now ∧ (s.enterTarget t).pending = s.pending ∧ (s.enterTarget t).phase = s.phase ∧
      (s.enterTarget t).resetAt = s.resetAt ∧ (s.enterTarget t).supply = s.supply ∧
      (s.enterTarget t).retained = s.retained ∧ (s.enterTarget t).store = s.store ∧
      (s.enterTarget t).storeState = s.storeState ∧ (s.enterTarget t).saving = s.saving ∧
      (s.enterTarget t).tables = s.tables ∧ (s.enterTarget t).routes = s.routes ∧
      (s.enterTarget t).serviceHeld = s.serviceHeld ∧ (s.enterTarget t).zones = s.zones ∧
      (s.enterTarget t).command = s.command ∧ (s.enterTarget t).computation = s.computation ∧
      (s.enterTarget t).channels = s.channels ∧ (s.enterTarget t).queue = s.queue ∧
      (s.enterTarget t).slotLimit = s.slotLimit ∧ (s.enterTarget t).homingDue = s.homingDue ∧
      (s.enterTarget t).links = s.links ∧ (s.enterTarget t).room = s.room ∧ (s.enterTarget t).plant = s.plant ∧
      (s.enterTarget t).relay = s.relay ∧ (s.enterTarget t).decoder = s.decoder ∧ (s.enterTarget t).events = s.events := by
  simp [State.enterTarget]

@[simp] theorem State.holdOn_frame (s : State) :
    (s.holdOn).now = s.now ∧ (s.holdOn).pending = s.pending ∧ (s.holdOn).phase = s.phase ∧
      (s.holdOn).resetAt = s.resetAt ∧ (s.holdOn).supply = s.supply ∧ (s.holdOn).retained = s.retained ∧
      (s.holdOn).store = s.store ∧ (s.holdOn).storeState = s.storeState ∧ (s.holdOn).saving = s.saving ∧
      (s.holdOn).tables = s.tables ∧ (s.holdOn).routes = s.routes ∧ (s.holdOn).serviceHeld = s.serviceHeld ∧
      (s.holdOn).zones = s.zones ∧ (s.holdOn).computation = s.computation ∧ (s.holdOn).channels = s.channels ∧
      (s.holdOn).queue = s.queue ∧ (s.holdOn).slotLimit = s.slotLimit ∧ (s.holdOn).homingDue = s.homingDue ∧
      (s.holdOn).room = s.room ∧ (s.holdOn).plant = s.plant ∧ (s.holdOn).decoder = s.decoder := by
  simp [State.holdOn]

@[simp] theorem State.endHold_frame (s : State) :
    (s.endHold).now = s.now ∧ (s.endHold).pending = s.pending ∧ (s.endHold).phase = s.phase ∧
      (s.endHold).resetAt = s.resetAt ∧ (s.endHold).supply = s.supply ∧ (s.endHold).retained = s.retained ∧
      (s.endHold).store = s.store ∧ (s.endHold).storeState = s.storeState ∧ (s.endHold).saving = s.saving ∧
      (s.endHold).tables = s.tables ∧ (s.endHold).routes = s.routes ∧ (s.endHold).serviceHeld = s.serviceHeld ∧
      (s.endHold).zones = s.zones ∧ (s.endHold).command = s.command ∧ (s.endHold).computation = s.computation ∧
      (s.endHold).channels = s.channels ∧ (s.endHold).queue = s.queue ∧ (s.endHold).slotLimit = s.slotLimit ∧
      (s.endHold).homingDue = s.homingDue ∧ (s.endHold).links = s.links ∧ (s.endHold).room = s.room ∧
      (s.endHold).plant = s.plant ∧ (s.endHold).relay = s.relay ∧ (s.endHold).decoder = s.decoder ∧
      (s.endHold).events = s.events := by
  simp [State.endHold]

@[simp] theorem State.enterChangeover_frame (s : State) (t : Target) :
    (s.enterChangeover t).now = s.now ∧ (s.enterChangeover t).pending = s.pending ∧
      (s.enterChangeover t).phase = s.phase ∧ (s.enterChangeover t).resetAt = s.resetAt ∧
      (s.enterChangeover t).supply = s.supply ∧ (s.enterChangeover t).retained = s.retained ∧
      (s.enterChangeover t).store = s.store ∧ (s.enterChangeover t).storeState = s.storeState ∧
      (s.enterChangeover t).saving = s.saving ∧ (s.enterChangeover t).tables = s.tables ∧
      (s.enterChangeover t).routes = s.routes ∧ (s.enterChangeover t).serviceHeld = s.serviceHeld ∧
      (s.enterChangeover t).zones = s.zones ∧ (s.enterChangeover t).computation = s.computation ∧
      (s.enterChangeover t).channels = s.channels ∧ (s.enterChangeover t).queue = s.queue ∧
      (s.enterChangeover t).slotLimit = s.slotLimit ∧ (s.enterChangeover t).homingDue = s.homingDue ∧
      (s.enterChangeover t).room = s.room ∧ (s.enterChangeover t).plant = s.plant ∧
      (s.enterChangeover t).decoder = s.decoder := by
  simp [State.enterChangeover]

@[simp] theorem State.decideIdle_frame (s : State) :
    (s.decideIdle).1.now = s.now ∧ (s.decideIdle).1.pending = s.pending ∧ (s.decideIdle).1.phase = s.phase ∧
      (s.decideIdle).1.resetAt = s.resetAt ∧ (s.decideIdle).1.supply = s.supply ∧
      (s.decideIdle).1.retained = s.retained ∧ (s.decideIdle).1.store = s.store ∧
      (s.decideIdle).1.storeState = s.storeState ∧ (s.decideIdle).1.saving = s.saving ∧
      (s.decideIdle).1.tables = s.tables ∧ (s.decideIdle).1.routes = s.routes ∧
      (s.decideIdle).1.serviceHeld = s.serviceHeld ∧ (s.decideIdle).1.zones = s.zones ∧
      (s.decideIdle).1.command = s.command ∧ (s.decideIdle).1.computation = s.computation ∧
      (s.decideIdle).1.channels = s.channels ∧ (s.decideIdle).1.queue = s.queue ∧
      (s.decideIdle).1.slotLimit = s.slotLimit ∧ (s.decideIdle).1.homingDue = s.homingDue ∧
      (s.decideIdle).1.links = s.links ∧ (s.decideIdle).1.room = s.room ∧ (s.decideIdle).1.plant = s.plant ∧
      (s.decideIdle).1.relay = s.relay ∧ (s.decideIdle).1.decoder = s.decoder ∧ (s.decideIdle).1.events = s.events := by
  unfold State.decideIdle
  dsimp only
  (repeat' split) <;> simp

@[simp] theorem State.fanOrIdle_frame (s : State) :
    (s.fanOrIdle).1.now = s.now ∧ (s.fanOrIdle).1.pending = s.pending ∧ (s.fanOrIdle).1.phase = s.phase ∧
      (s.fanOrIdle).1.resetAt = s.resetAt ∧ (s.fanOrIdle).1.supply = s.supply ∧
      (s.fanOrIdle).1.retained = s.retained ∧ (s.fanOrIdle).1.store = s.store ∧
      (s.fanOrIdle).1.storeState = s.storeState ∧ (s.fanOrIdle).1.saving = s.saving ∧
      (s.fanOrIdle).1.tables = s.tables ∧ (s.fanOrIdle).1.routes = s.routes ∧
      (s.fanOrIdle).1.serviceHeld = s.serviceHeld ∧ (s.fanOrIdle).1.zones = s.zones ∧
      (s.fanOrIdle).1.computation = s.computation ∧ (s.fanOrIdle).1.channels = s.channels ∧
      (s.fanOrIdle).1.queue = s.queue ∧ (s.fanOrIdle).1.slotLimit = s.slotLimit ∧
      (s.fanOrIdle).1.homingDue = s.homingDue ∧ (s.fanOrIdle).1.room = s.room ∧ (s.fanOrIdle).1.plant = s.plant ∧
      (s.fanOrIdle).1.decoder = s.decoder := by
  unfold State.fanOrIdle
  (repeat' split) <;> simp

@[simp] theorem State.decideFan_frame (s : State) :
    (s.decideFan).1.now = s.now ∧ (s.decideFan).1.pending = s.pending ∧ (s.decideFan).1.phase = s.phase ∧
      (s.decideFan).1.resetAt = s.resetAt ∧ (s.decideFan).1.supply = s.supply ∧
      (s.decideFan).1.retained = s.retained ∧ (s.decideFan).1.store = s.store ∧
      (s.decideFan).1.storeState = s.storeState ∧ (s.decideFan).1.saving = s.saving ∧
      (s.decideFan).1.tables = s.tables ∧ (s.decideFan).1.routes = s.routes ∧
      (s.decideFan).1.serviceHeld = s.serviceHeld ∧ (s.decideFan).1.zones = s.zones ∧
      (s.decideFan).1.computation = s.computation ∧ (s.decideFan).1.channels = s.channels ∧
      (s.decideFan).1.queue = s.queue ∧ (s.decideFan).1.slotLimit = s.slotLimit ∧
      (s.decideFan).1.homingDue = s.homingDue ∧ (s.decideFan).1.room = s.room ∧ (s.decideFan).1.plant = s.plant ∧
      (s.decideFan).1.decoder = s.decoder := by
  unfold State.decideFan
  dsimp only
  (repeat' split) <;> simp

@[simp] theorem State.decideCooling_frame (s : State) :
    (s.decideCooling).1.now = s.now ∧ (s.decideCooling).1.pending = s.pending ∧ (s.decideCooling).1.phase = s.phase ∧
      (s.decideCooling).1.resetAt = s.resetAt ∧ (s.decideCooling).1.supply = s.supply ∧
      (s.decideCooling).1.retained = s.retained ∧ (s.decideCooling).1.store = s.store ∧
      (s.decideCooling).1.storeState = s.storeState ∧ (s.decideCooling).1.saving = s.saving ∧
      (s.decideCooling).1.tables = s.tables ∧ (s.decideCooling).1.routes = s.routes ∧
      (s.decideCooling).1.serviceHeld = s.serviceHeld ∧ (s.decideCooling).1.zones = s.zones ∧
      (s.decideCooling).1.computation = s.computation ∧ (s.decideCooling).1.channels = s.channels ∧
      (s.decideCooling).1.queue = s.queue ∧ (s.decideCooling).1.slotLimit = s.slotLimit ∧
      (s.decideCooling).1.homingDue = s.homingDue ∧ (s.decideCooling).1.room = s.room ∧
      (s.decideCooling).1.plant = s.plant ∧ (s.decideCooling).1.decoder = s.decoder := by
  unfold State.decideCooling
  (repeat' split) <;> simp

@[simp] theorem State.decideHeating_frame (s : State) :
    (s.decideHeating).1.now = s.now ∧ (s.decideHeating).1.pending = s.pending ∧ (s.decideHeating).1.phase = s.phase ∧
      (s.decideHeating).1.resetAt = s.resetAt ∧ (s.decideHeating).1.supply = s.supply ∧
      (s.decideHeating).1.retained = s.retained ∧ (s.decideHeating).1.store = s.store ∧
      (s.decideHeating).1.storeState = s.storeState ∧ (s.decideHeating).1.saving = s.saving ∧
      (s.decideHeating).1.tables = s.tables ∧ (s.decideHeating).1.routes = s.routes ∧
      (s.decideHeating).1.serviceHeld = s.serviceHeld ∧ (s.decideHeating).1.zones = s.zones ∧
      (s.decideHeating).1.computation = s.computation ∧ (s.decideHeating).1.channels = s.channels ∧
      (s.decideHeating).1.queue = s.queue ∧ (s.decideHeating).1.slotLimit = s.slotLimit ∧
      (s.decideHeating).1.homingDue = s.homingDue ∧ (s.decideHeating).1.room = s.room ∧
      (s.decideHeating).1.plant = s.plant ∧ (s.decideHeating).1.decoder = s.decoder := by
  unfold State.decideHeating
  (repeat' split) <;> simp

@[simp] theorem State.decideChangeover_frame (s : State) :
    (s.decideChangeover).1.now = s.now ∧ (s.decideChangeover).1.pending = s.pending ∧
      (s.decideChangeover).1.phase = s.phase ∧ (s.decideChangeover).1.resetAt = s.resetAt ∧
      (s.decideChangeover).1.supply = s.supply ∧ (s.decideChangeover).1.retained = s.retained ∧
      (s.decideChangeover).1.store = s.store ∧ (s.decideChangeover).1.storeState = s.storeState ∧
      (s.decideChangeover).1.saving = s.saving ∧ (s.decideChangeover).1.tables = s.tables ∧
      (s.decideChangeover).1.routes = s.routes ∧ (s.decideChangeover).1.serviceHeld = s.serviceHeld ∧
      (s.decideChangeover).1.zones = s.zones ∧ (s.decideChangeover).1.computation = s.computation ∧
      (s.decideChangeover).1.channels = s.channels ∧ (s.decideChangeover).1.queue = s.queue ∧
      (s.decideChangeover).1.slotLimit = s.slotLimit ∧ (s.decideChangeover).1.homingDue = s.homingDue ∧
      (s.decideChangeover).1.room = s.room ∧ (s.decideChangeover).1.plant = s.plant ∧
      (s.decideChangeover).1.decoder = s.decoder := by
  unfold State.decideChangeover
  (repeat' split) <;> simp

@[simp] theorem State.decideShed_frame (s : State) :
    (s.decideShed).1.now = s.now ∧ (s.decideShed).1.pending = s.pending ∧ (s.decideShed).1.phase = s.phase ∧
      (s.decideShed).1.resetAt = s.resetAt ∧ (s.decideShed).1.supply = s.supply ∧
      (s.decideShed).1.retained = s.retained ∧ (s.decideShed).1.store = s.store ∧
      (s.decideShed).1.storeState = s.storeState ∧ (s.decideShed).1.saving = s.saving ∧
      (s.decideShed).1.tables = s.tables ∧ (s.decideShed).1.routes = s.routes ∧
      (s.decideShed).1.serviceHeld = s.serviceHeld ∧ (s.decideShed).1.zones = s.zones ∧
      (s.decideShed).1.computation = s.computation ∧ (s.decideShed).1.channels = s.channels ∧
      (s.decideShed).1.queue = s.queue ∧ (s.decideShed).1.slotLimit = s.slotLimit ∧
      (s.decideShed).1.homingDue = s.homingDue ∧ (s.decideShed).1.room = s.room ∧ (s.decideShed).1.plant = s.plant ∧
      (s.decideShed).1.decoder = s.decoder := by
  unfold State.decideShed
  (repeat' split) <;> simp

@[simp] theorem State.decision_frame (s : State) :
    (s.decision).1.now = s.now ∧ (s.decision).1.pending = s.pending ∧ (s.decision).1.phase = s.phase ∧
      (s.decision).1.resetAt = s.resetAt ∧ (s.decision).1.supply = s.supply ∧ (s.decision).1.retained = s.retained ∧
      (s.decision).1.store = s.store ∧ (s.decision).1.storeState = s.storeState ∧ (s.decision).1.saving = s.saving ∧
      (s.decision).1.tables = s.tables ∧ (s.decision).1.routes = s.routes ∧
      (s.decision).1.serviceHeld = s.serviceHeld ∧ (s.decision).1.zones = s.zones ∧
      (s.decision).1.computation = s.computation ∧ (s.decision).1.channels = s.channels ∧
      (s.decision).1.queue = s.queue ∧ (s.decision).1.slotLimit = s.slotLimit ∧
      (s.decision).1.homingDue = s.homingDue ∧ (s.decision).1.room = s.room ∧ (s.decision).1.plant = s.plant ∧
      (s.decision).1.decoder = s.decoder := by
  unfold State.decision
  (repeat' split) <;> simp

@[simp] theorem State.noComputation_frame (s : State) :
    (s.noComputation).now = s.now ∧ (s.noComputation).pending = s.pending ∧ (s.noComputation).phase = s.phase ∧
      (s.noComputation).resetAt = s.resetAt ∧ (s.noComputation).supply = s.supply ∧
      (s.noComputation).retained = s.retained ∧ (s.noComputation).store = s.store ∧
      (s.noComputation).storeState = s.storeState ∧ (s.noComputation).saving = s.saving ∧
      (s.noComputation).tables = s.tables ∧ (s.noComputation).routes = s.routes ∧
      (s.noComputation).serviceHeld = s.serviceHeld ∧ (s.noComputation).zones = s.zones ∧
      (s.noComputation).arbiter = s.arbiter ∧ (s.noComputation).command = s.command ∧
      (s.noComputation).channels = s.channels ∧ (s.noComputation).queue = s.queue ∧
      (s.noComputation).slotLimit = s.slotLimit ∧ (s.noComputation).homingDue = s.homingDue ∧
      (s.noComputation).links = s.links ∧ (s.noComputation).room = s.room ∧ (s.noComputation).plant = s.plant ∧
      (s.noComputation).relay = s.relay ∧ (s.noComputation).decoder = s.decoder ∧ (s.noComputation).events = s.events := by
  simp [State.noComputation]

@[simp] theorem State.publishFigures_frame (s : State) (f : Figures) :
    (s.publishFigures f).now = s.now ∧ (s.publishFigures f).pending = s.pending ∧
      (s.publishFigures f).phase = s.phase ∧ (s.publishFigures f).resetAt = s.resetAt ∧
      (s.publishFigures f).supply = s.supply ∧ (s.publishFigures f).retained = s.retained ∧
      (s.publishFigures f).store = s.store ∧ (s.publishFigures f).storeState = s.storeState ∧
      (s.publishFigures f).saving = s.saving ∧ (s.publishFigures f).tables = s.tables ∧
      (s.publishFigures f).routes = s.routes ∧ (s.publishFigures f).serviceHeld = s.serviceHeld ∧
      (s.publishFigures f).zones = s.zones ∧ (s.publishFigures f).homingDue = s.homingDue ∧
      (s.publishFigures f).room = s.room ∧ (s.publishFigures f).plant = s.plant ∧
      (s.publishFigures f).decoder = s.decoder := by
  unfold State.publishFigures
  dsimp only
  (repeat' split) <;> simp

@[simp] theorem State.computeAndPublish_frame (s : State) :
    (s.computeAndPublish).now = s.now ∧ (s.computeAndPublish).pending = s.pending ∧
      (s.computeAndPublish).phase = s.phase ∧ (s.computeAndPublish).resetAt = s.resetAt ∧
      (s.computeAndPublish).supply = s.supply ∧ (s.computeAndPublish).retained = s.retained ∧
      (s.computeAndPublish).store = s.store ∧ (s.computeAndPublish).storeState = s.storeState ∧
      (s.computeAndPublish).saving = s.saving ∧ (s.computeAndPublish).tables = s.tables ∧
      (s.computeAndPublish).routes = s.routes ∧ (s.computeAndPublish).serviceHeld = s.serviceHeld ∧
      (s.computeAndPublish).zones = s.zones ∧ (s.computeAndPublish).homingDue = s.homingDue ∧
      (s.computeAndPublish).room = s.room ∧ (s.computeAndPublish).plant = s.plant ∧
      (s.computeAndPublish).decoder = s.decoder := by
  unfold State.computeAndPublish
  (repeat' split) <;> simp

@[simp] theorem State.cycle_frame (s : State) :
    (s.cycle).now = s.now ∧ (s.cycle).pending = s.pending ∧ (s.cycle).phase = s.phase ∧
      (s.cycle).resetAt = s.resetAt ∧ (s.cycle).supply = s.supply ∧ (s.cycle).retained = s.retained ∧
      (s.cycle).store = s.store ∧ (s.cycle).storeState = s.storeState ∧ (s.cycle).saving = s.saving ∧
      (s.cycle).tables = s.tables ∧ (s.cycle).routes = s.routes ∧ (s.cycle).serviceHeld = s.serviceHeld ∧
      (s.cycle).homingDue = s.homingDue ∧ (s.cycle).room = s.room ∧ (s.cycle).plant = s.plant ∧
      (s.cycle).decoder = s.decoder := by
  simp [State.cycle]

end Sys2Proof.Machine
end

