-- ==== Sys2Proof/Laws/FrameLinks.lean ====
section
/-! SUPPORT. What the operations of the plant links and the curtailment decoder leave alone: for each operation, every field of State that it does not
write. -/

namespace Sys2Proof.Machine

@[simp] theorem State.statusHeard_frame (s : State) (n : Node) (st : Option NodeState) :
    (s.statusHeard n st).now = s.now ∧ (s.statusHeard n st).pending = s.pending ∧
      (s.statusHeard n st).phase = s.phase ∧ (s.statusHeard n st).resetAt = s.resetAt ∧
      (s.statusHeard n st).supply = s.supply ∧ (s.statusHeard n st).retained = s.retained ∧
      (s.statusHeard n st).store = s.store ∧ (s.statusHeard n st).storeState = s.storeState ∧
      (s.statusHeard n st).saving = s.saving ∧ (s.statusHeard n st).tables = s.tables ∧
      (s.statusHeard n st).routes = s.routes ∧ (s.statusHeard n st).serviceHeld = s.serviceHeld ∧
      (s.statusHeard n st).zones = s.zones ∧ (s.statusHeard n st).arbiter = s.arbiter ∧
      (s.statusHeard n st).command = s.command ∧ (s.statusHeard n st).computation = s.computation ∧
      (s.statusHeard n st).channels = s.channels ∧ (s.statusHeard n st).queue = s.queue ∧
      (s.statusHeard n st).slotLimit = s.slotLimit ∧ (s.statusHeard n st).homingDue = s.homingDue ∧
      (s.statusHeard n st).room = s.room ∧ (s.statusHeard n st).plant = s.plant ∧
      (s.statusHeard n st).decoder = s.decoder ∧ (s.statusHeard n st).events = s.events := by
  unfold State.statusHeard
  dsimp only
  (repeat' split) <;> simp

@[simp] theorem State.recordNodeState_frame (s : State) (n : Node) (st : NodeState) :
    (s.recordNodeState n st).now = s.now ∧ (s.recordNodeState n st).pending = s.pending ∧
      (s.recordNodeState n st).phase = s.phase ∧ (s.recordNodeState n st).resetAt = s.resetAt ∧
      (s.recordNodeState n st).supply = s.supply ∧ (s.recordNodeState n st).retained = s.retained ∧
      (s.recordNodeState n st).store = s.store ∧ (s.recordNodeState n st).storeState = s.storeState ∧
      (s.recordNodeState n st).saving = s.saving ∧ (s.recordNodeState n st).tables = s.tables ∧
      (s.recordNodeState n st).routes = s.routes ∧ (s.recordNodeState n st).serviceHeld = s.serviceHeld ∧
      (s.recordNodeState n st).zones = s.zones ∧ (s.recordNodeState n st).computation = s.computation ∧
      (s.recordNodeState n st).channels = s.channels ∧ (s.recordNodeState n st).queue = s.queue ∧
      (s.recordNodeState n st).slotLimit = s.slotLimit ∧ (s.recordNodeState n st).homingDue = s.homingDue ∧
      (s.recordNodeState n st).room = s.room ∧ (s.recordNodeState n st).plant = s.plant ∧
      (s.recordNodeState n st).decoder = s.decoder := by
  unfold State.recordNodeState
  dsimp only
  (repeat' split) <;> simp

@[simp] theorem State.recordFault_frame (s : State) (n : Node) (code : Nat) :
    (s.recordFault n code).now = s.now ∧ (s.recordFault n code).pending = s.pending ∧
      (s.recordFault n code).phase = s.phase ∧ (s.recordFault n code).resetAt = s.resetAt ∧
      (s.recordFault n code).supply = s.supply ∧ (s.recordFault n code).retained = s.retained ∧
      (s.recordFault n code).store = s.store ∧ (s.recordFault n code).storeState = s.storeState ∧
      (s.recordFault n code).saving = s.saving ∧ (s.recordFault n code).tables = s.tables ∧
      (s.recordFault n code).routes = s.routes ∧ (s.recordFault n code).serviceHeld = s.serviceHeld ∧
      (s.recordFault n code).zones = s.zones ∧ (s.recordFault n code).arbiter = s.arbiter ∧
      (s.recordFault n code).command = s.command ∧ (s.recordFault n code).computation = s.computation ∧
      (s.recordFault n code).channels = s.channels ∧ (s.recordFault n code).queue = s.queue ∧
      (s.recordFault n code).slotLimit = s.slotLimit ∧ (s.recordFault n code).homingDue = s.homingDue ∧
      (s.recordFault n code).room = s.room ∧ (s.recordFault n code).plant = s.plant ∧
      (s.recordFault n code).relay = s.relay ∧ (s.recordFault n code).decoder = s.decoder := by
  simp [State.recordFault]

@[simp] theorem State.compareCapability_frame (s : State) (n : Node) (v : AnnexValue) :
    (s.compareCapability n v).now = s.now ∧ (s.compareCapability n v).pending = s.pending ∧
      (s.compareCapability n v).phase = s.phase ∧ (s.compareCapability n v).resetAt = s.resetAt ∧
      (s.compareCapability n v).supply = s.supply ∧ (s.compareCapability n v).retained = s.retained ∧
      (s.compareCapability n v).store = s.store ∧ (s.compareCapability n v).storeState = s.storeState ∧
      (s.compareCapability n v).saving = s.saving ∧ (s.compareCapability n v).tables = s.tables ∧
      (s.compareCapability n v).routes = s.routes ∧ (s.compareCapability n v).serviceHeld = s.serviceHeld ∧
      (s.compareCapability n v).zones = s.zones ∧ (s.compareCapability n v).computation = s.computation ∧
      (s.compareCapability n v).channels = s.channels ∧ (s.compareCapability n v).queue = s.queue ∧
      (s.compareCapability n v).slotLimit = s.slotLimit ∧ (s.compareCapability n v).homingDue = s.homingDue ∧
      (s.compareCapability n v).room = s.room ∧ (s.compareCapability n v).plant = s.plant ∧
      (s.compareCapability n v).decoder = s.decoder := by
  unfold State.compareCapability
  dsimp only
  (repeat' split) <;> simp

@[simp] theorem State.takeAnnex_frame (s : State) (n : Node) (x : Status) :
    (s.takeAnnex n x).now = s.now ∧ (s.takeAnnex n x).pending = s.pending ∧ (s.takeAnnex n x).phase = s.phase ∧
      (s.takeAnnex n x).resetAt = s.resetAt ∧ (s.takeAnnex n x).supply = s.supply ∧
      (s.takeAnnex n x).retained = s.retained ∧ (s.takeAnnex n x).store = s.store ∧
      (s.takeAnnex n x).storeState = s.storeState ∧ (s.takeAnnex n x).saving = s.saving ∧
      (s.takeAnnex n x).tables = s.tables ∧ (s.takeAnnex n x).routes = s.routes ∧
      (s.takeAnnex n x).serviceHeld = s.serviceHeld ∧ (s.takeAnnex n x).zones = s.zones ∧
      (s.takeAnnex n x).computation = s.computation ∧ (s.takeAnnex n x).channels = s.channels ∧
      (s.takeAnnex n x).queue = s.queue ∧ (s.takeAnnex n x).slotLimit = s.slotLimit ∧
      (s.takeAnnex n x).homingDue = s.homingDue ∧ (s.takeAnnex n x).room = s.room ∧
      (s.takeAnnex n x).plant = s.plant ∧ (s.takeAnnex n x).decoder = s.decoder := by
  unfold State.takeAnnex
  (repeat' split) <;> simp

@[simp] theorem State.completeBinding_frame (s : State) (n : Node) :
    (s.completeBinding n).now = s.now ∧ (s.completeBinding n).pending = s.pending ∧
      (s.completeBinding n).phase = s.phase ∧ (s.completeBinding n).resetAt = s.resetAt ∧
      (s.completeBinding n).supply = s.supply ∧ (s.completeBinding n).retained = s.retained ∧
      (s.completeBinding n).store = s.store ∧ (s.completeBinding n).storeState = s.storeState ∧
      (s.completeBinding n).saving = s.saving ∧ (s.completeBinding n).tables = s.tables ∧
      (s.completeBinding n).routes = s.routes ∧ (s.completeBinding n).serviceHeld = s.serviceHeld ∧
      (s.completeBinding n).zones = s.zones ∧ (s.completeBinding n).computation = s.computation ∧
      (s.completeBinding n).channels = s.channels ∧ (s.completeBinding n).queue = s.queue ∧
      (s.completeBinding n).slotLimit = s.slotLimit ∧ (s.completeBinding n).homingDue = s.homingDue ∧
      (s.completeBinding n).room = s.room ∧ (s.completeBinding n).plant = s.plant ∧
      (s.completeBinding n).decoder = s.decoder := by
  unfold State.completeBinding
  dsimp only
  (repeat' split) <;> simp

@[simp] theorem State.stopOnIdle_frame (s : State) (n : Node) (st : Option NodeState) :
    (s.stopOnIdle n st).now = s.now ∧ (s.stopOnIdle n st).pending = s.pending ∧ (s.stopOnIdle n st).phase = s.phase ∧
      (s.stopOnIdle n st).resetAt = s.resetAt ∧ (s.stopOnIdle n st).supply = s.supply ∧
      (s.stopOnIdle n st).retained = s.retained ∧ (s.stopOnIdle n st).store = s.store ∧
      (s.stopOnIdle n st).storeState = s.storeState ∧ (s.stopOnIdle n st).saving = s.saving ∧
      (s.stopOnIdle n st).tables = s.tables ∧ (s.stopOnIdle n st).routes = s.routes ∧
      (s.stopOnIdle n st).serviceHeld = s.serviceHeld ∧ (s.stopOnIdle n st).zones = s.zones ∧
      (s.stopOnIdle n st).arbiter = s.arbiter ∧ (s.stopOnIdle n st).command = s.command ∧
      (s.stopOnIdle n st).computation = s.computation ∧ (s.stopOnIdle n st).channels = s.channels ∧
      (s.stopOnIdle n st).queue = s.queue ∧ (s.stopOnIdle n st).slotLimit = s.slotLimit ∧
      (s.stopOnIdle n st).homingDue = s.homingDue ∧ (s.stopOnIdle n st).room = s.room ∧
      (s.stopOnIdle n st).plant = s.plant ∧ (s.stopOnIdle n st).decoder = s.decoder ∧
      (s.stopOnIdle n st).events = s.events := by
  simp [State.stopOnIdle]

@[simp] theorem State.activate_frame (s : State) (n : Node) (st : Option NodeState) :
    (s.activate n st).now = s.now ∧ (s.activate n st).pending = s.pending ∧ (s.activate n st).phase = s.phase ∧
      (s.activate n st).resetAt = s.resetAt ∧ (s.activate n st).supply = s.supply ∧
      (s.activate n st).retained = s.retained ∧ (s.activate n st).store = s.store ∧
      (s.activate n st).storeState = s.storeState ∧ (s.activate n st).saving = s.saving ∧
      (s.activate n st).tables = s.tables ∧ (s.activate n st).routes = s.routes ∧
      (s.activate n st).serviceHeld = s.serviceHeld ∧ (s.activate n st).zones = s.zones ∧
      (s.activate n st).arbiter = s.arbiter ∧ (s.activate n st).command = s.command ∧
      (s.activate n st).computation = s.computation ∧ (s.activate n st).channels = s.channels ∧
      (s.activate n st).queue = s.queue ∧ (s.activate n st).slotLimit = s.slotLimit ∧
      (s.activate n st).homingDue = s.homingDue ∧ (s.activate n st).room = s.room ∧
      (s.activate n st).plant = s.plant ∧ (s.activate n st).decoder = s.decoder ∧ (s.activate n st).events = s.events := by
  simp [State.activate]

@[simp] theorem State.takeStatus_frame (s : State) (n : Node) (x : Status) :
    (s.takeStatus n x).now = s.now ∧ (s.takeStatus n x).pending = s.pending ∧ (s.takeStatus n x).phase = s.phase ∧
      (s.takeStatus n x).resetAt = s.resetAt ∧ (s.takeStatus n x).supply = s.supply ∧
      (s.takeStatus n x).retained = s.retained ∧ (s.takeStatus n x).store = s.store ∧
      (s.takeStatus n x).storeState = s.storeState ∧ (s.takeStatus n x).saving = s.saving ∧
      (s.takeStatus n x).tables = s.tables ∧ (s.takeStatus n x).routes = s.routes ∧
      (s.takeStatus n x).serviceHeld = s.serviceHeld ∧ (s.takeStatus n x).zones = s.zones ∧
      (s.takeStatus n x).computation = s.computation ∧ (s.takeStatus n x).channels = s.channels ∧
      (s.takeStatus n x).queue = s.queue ∧ (s.takeStatus n x).slotLimit = s.slotLimit ∧
      (s.takeStatus n x).homingDue = s.homingDue ∧ (s.takeStatus n x).room = s.room ∧
      (s.takeStatus n x).plant = s.plant ∧ (s.takeStatus n x).decoder = s.decoder := by
  unfold State.takeStatus
  dsimp only
  (repeat' split) <;> simp

@[simp] theorem State.forgetWake_frame (s : State) (n : Node) :
    (s.forgetWake n).now = s.now ∧ (s.forgetWake n).pending = s.pending ∧ (s.forgetWake n).phase = s.phase ∧
      (s.forgetWake n).resetAt = s.resetAt ∧ (s.forgetWake n).supply = s.supply ∧
      (s.forgetWake n).retained = s.retained ∧ (s.forgetWake n).store = s.store ∧
      (s.forgetWake n).storeState = s.storeState ∧ (s.forgetWake n).saving = s.saving ∧
      (s.forgetWake n).tables = s.tables ∧ (s.forgetWake n).routes = s.routes ∧
      (s.forgetWake n).serviceHeld = s.serviceHeld ∧ (s.forgetWake n).zones = s.zones ∧
      (s.forgetWake n).arbiter = s.arbiter ∧ (s.forgetWake n).command = s.command ∧
      (s.forgetWake n).computation = s.computation ∧ (s.forgetWake n).channels = s.channels ∧
      (s.forgetWake n).queue = s.queue ∧ (s.forgetWake n).slotLimit = s.slotLimit ∧
      (s.forgetWake n).homingDue = s.homingDue ∧ (s.forgetWake n).links = s.links ∧ (s.forgetWake n).room = s.room ∧
      (s.forgetWake n).relay = s.relay ∧ (s.forgetWake n).decoder = s.decoder ∧ (s.forgetWake n).events = s.events := by
  simp [State.forgetWake]

@[simp] theorem State.enterDown_frame (s : State) (n : Node) (lost : Bool) :
    (s.enterDown n lost).now = s.now ∧ (s.enterDown n lost).pending = s.pending ∧
      (s.enterDown n lost).phase = s.phase ∧ (s.enterDown n lost).resetAt = s.resetAt ∧
      (s.enterDown n lost).supply = s.supply ∧ (s.enterDown n lost).retained = s.retained ∧
      (s.enterDown n lost).store = s.store ∧ (s.enterDown n lost).storeState = s.storeState ∧
      (s.enterDown n lost).saving = s.saving ∧ (s.enterDown n lost).tables = s.tables ∧
      (s.enterDown n lost).routes = s.routes ∧ (s.enterDown n lost).serviceHeld = s.serviceHeld ∧
      (s.enterDown n lost).zones = s.zones ∧ (s.enterDown n lost).computation = s.computation ∧
      (s.enterDown n lost).channels = s.channels ∧ (s.enterDown n lost).queue = s.queue ∧
      (s.enterDown n lost).slotLimit = s.slotLimit ∧ (s.enterDown n lost).homingDue = s.homingDue ∧
      (s.enterDown n lost).room = s.room ∧ (s.enterDown n lost).decoder = s.decoder := by
  unfold State.enterDown
  dsimp only
  (repeat' split) <;> simp

@[simp] theorem State.bindingFailed_frame (s : State) (n : Node) :
    (s.bindingFailed n).now = s.now ∧ (s.bindingFailed n).pending = s.pending ∧ (s.bindingFailed n).phase = s.phase ∧
      (s.bindingFailed n).resetAt = s.resetAt ∧ (s.bindingFailed n).supply = s.supply ∧
      (s.bindingFailed n).retained = s.retained ∧ (s.bindingFailed n).store = s.store ∧
      (s.bindingFailed n).storeState = s.storeState ∧ (s.bindingFailed n).saving = s.saving ∧
      (s.bindingFailed n).tables = s.tables ∧ (s.bindingFailed n).routes = s.routes ∧
      (s.bindingFailed n).serviceHeld = s.serviceHeld ∧ (s.bindingFailed n).zones = s.zones ∧
      (s.bindingFailed n).computation = s.computation ∧ (s.bindingFailed n).channels = s.channels ∧
      (s.bindingFailed n).queue = s.queue ∧ (s.bindingFailed n).slotLimit = s.slotLimit ∧
      (s.bindingFailed n).homingDue = s.homingDue ∧ (s.bindingFailed n).room = s.room ∧
      (s.bindingFailed n).decoder = s.decoder := by
  simp [State.bindingFailed]

@[simp] theorem State.fallSilent_frame (s : State) (n : Node) :
    (s.fallSilent n).now = s.now ∧ (s.fallSilent n).pending = s.pending ∧ (s.fallSilent n).phase = s.phase ∧
      (s.fallSilent n).resetAt = s.resetAt ∧ (s.fallSilent n).supply = s.supply ∧
      (s.fallSilent n).retained = s.retained ∧ (s.fallSilent n).store = s.store ∧
      (s.fallSilent n).storeState = s.storeState ∧ (s.fallSilent n).saving = s.saving ∧
      (s.fallSilent n).tables = s.tables ∧ (s.fallSilent n).routes = s.routes ∧
      (s.fallSilent n).serviceHeld = s.serviceHeld ∧ (s.fallSilent n).zones = s.zones ∧
      (s.fallSilent n).arbiter = s.arbiter ∧ (s.fallSilent n).command = s.command ∧
      (s.fallSilent n).computation = s.computation ∧ (s.fallSilent n).channels = s.channels ∧
      (s.fallSilent n).queue = s.queue ∧ (s.fallSilent n).slotLimit = s.slotLimit ∧
      (s.fallSilent n).homingDue = s.homingDue ∧ (s.fallSilent n).room = s.room ∧ (s.fallSilent n).plant = s.plant ∧
      (s.fallSilent n).decoder = s.decoder ∧ (s.fallSilent n).events = s.events := by
  simp [State.fallSilent]

@[simp] theorem State.loseLink_frame (s : State) (n : Node) :
    (s.loseLink n).now = s.now ∧ (s.loseLink n).pending = s.pending ∧ (s.loseLink n).phase = s.phase ∧
      (s.loseLink n).resetAt = s.resetAt ∧ (s.loseLink n).supply = s.supply ∧ (s.loseLink n).retained = s.retained ∧
      (s.loseLink n).store = s.store ∧ (s.loseLink n).storeState = s.storeState ∧ (s.loseLink n).saving = s.saving ∧
      (s.loseLink n).tables = s.tables ∧ (s.loseLink n).routes = s.routes ∧
      (s.loseLink n).serviceHeld = s.serviceHeld ∧ (s.loseLink n).zones = s.zones ∧
      (s.loseLink n).computation = s.computation ∧ (s.loseLink n).channels = s.channels ∧
      (s.loseLink n).queue = s.queue ∧ (s.loseLink n).slotLimit = s.slotLimit ∧
      (s.loseLink n).homingDue = s.homingDue ∧ (s.loseLink n).room = s.room ∧ (s.loseLink n).decoder = s.decoder := by
  simp [State.loseLink]

@[simp] theorem State.stopTimedOut_frame (s : State) (n : Node) :
    (s.stopTimedOut n).now = s.now ∧ (s.stopTimedOut n).pending = s.pending ∧ (s.stopTimedOut n).phase = s.phase ∧
      (s.stopTimedOut n).resetAt = s.resetAt ∧ (s.stopTimedOut n).supply = s.supply ∧
      (s.stopTimedOut n).retained = s.retained ∧ (s.stopTimedOut n).store = s.store ∧
      (s.stopTimedOut n).storeState = s.storeState ∧ (s.stopTimedOut n).saving = s.saving ∧
      (s.stopTimedOut n).tables = s.tables ∧ (s.stopTimedOut n).routes = s.routes ∧
      (s.stopTimedOut n).serviceHeld = s.serviceHeld ∧ (s.stopTimedOut n).zones = s.zones ∧
      (s.stopTimedOut n).arbiter = s.arbiter ∧ (s.stopTimedOut n).command = s.command ∧
      (s.stopTimedOut n).computation = s.computation ∧ (s.stopTimedOut n).channels = s.channels ∧
      (s.stopTimedOut n).queue = s.queue ∧ (s.stopTimedOut n).slotLimit = s.slotLimit ∧
      (s.stopTimedOut n).homingDue = s.homingDue ∧ (s.stopTimedOut n).room = s.room ∧
      (s.stopTimedOut n).plant = s.plant ∧ (s.stopTimedOut n).decoder = s.decoder ∧
      (s.stopTimedOut n).events = s.events := by
  simp [State.stopTimedOut]

@[simp] theorem State.retain_frame (s : State) :
    (s.retain).now = s.now ∧ (s.retain).pending = s.pending ∧ (s.retain).phase = s.phase ∧
      (s.retain).resetAt = s.resetAt ∧ (s.retain).supply = s.supply ∧ (s.retain).store = s.store ∧
      (s.retain).storeState = s.storeState ∧ (s.retain).saving = s.saving ∧ (s.retain).tables = s.tables ∧
      (s.retain).routes = s.routes ∧ (s.retain).serviceHeld = s.serviceHeld ∧ (s.retain).zones = s.zones ∧
      (s.retain).arbiter = s.arbiter ∧ (s.retain).command = s.command ∧ (s.retain).computation = s.computation ∧
      (s.retain).channels = s.channels ∧ (s.retain).queue = s.queue ∧ (s.retain).slotLimit = s.slotLimit ∧
      (s.retain).homingDue = s.homingDue ∧ (s.retain).links = s.links ∧ (s.retain).room = s.room ∧
      (s.retain).plant = s.plant ∧ (s.retain).relay = s.relay ∧ (s.retain).decoder = s.decoder ∧
      (s.retain).events = s.events := by
  simp [State.retain]

@[simp] theorem State.setLevel_frame (s : State) (l : CurtailLevel) :
    (s.setLevel l).now = s.now ∧ (s.setLevel l).pending = s.pending ∧ (s.setLevel l).phase = s.phase ∧
      (s.setLevel l).resetAt = s.resetAt ∧ (s.setLevel l).supply = s.supply ∧ (s.setLevel l).retained = s.retained ∧
      (s.setLevel l).store = s.store ∧ (s.setLevel l).storeState = s.storeState ∧ (s.setLevel l).saving = s.saving ∧
      (s.setLevel l).tables = s.tables ∧ (s.setLevel l).routes = s.routes ∧
      (s.setLevel l).serviceHeld = s.serviceHeld ∧ (s.setLevel l).zones = s.zones ∧
      (s.setLevel l).computation = s.computation ∧ (s.setLevel l).channels = s.channels ∧
      (s.setLevel l).queue = s.queue ∧ (s.setLevel l).slotLimit = s.slotLimit ∧
      (s.setLevel l).homingDue = s.homingDue ∧ (s.setLevel l).room = s.room ∧ (s.setLevel l).plant = s.plant := by
  simp [State.setLevel]

@[simp] theorem State.orderLevel_frame (s : State) (l : CurtailLevel) :
    (s.orderLevel l).now = s.now ∧ (s.orderLevel l).pending = s.pending ∧ (s.orderLevel l).phase = s.phase ∧
      (s.orderLevel l).resetAt = s.resetAt ∧ (s.orderLevel l).supply = s.supply ∧ (s.orderLevel l).store = s.store ∧
      (s.orderLevel l).storeState = s.storeState ∧ (s.orderLevel l).saving = s.saving ∧
      (s.orderLevel l).tables = s.tables ∧ (s.orderLevel l).routes = s.routes ∧
      (s.orderLevel l).serviceHeld = s.serviceHeld ∧ (s.orderLevel l).zones = s.zones ∧
      (s.orderLevel l).computation = s.computation ∧ (s.orderLevel l).channels = s.channels ∧
      (s.orderLevel l).queue = s.queue ∧ (s.orderLevel l).slotLimit = s.slotLimit ∧
      (s.orderLevel l).homingDue = s.homingDue ∧ (s.orderLevel l).room = s.room ∧ (s.orderLevel l).plant = s.plant := by
  simp [State.orderLevel]

@[simp] theorem State.endTrain_frame (s : State) :
    (s.endTrain).now = s.now ∧ (s.endTrain).pending = s.pending ∧ (s.endTrain).phase = s.phase ∧
      (s.endTrain).resetAt = s.resetAt ∧ (s.endTrain).supply = s.supply ∧ (s.endTrain).store = s.store ∧
      (s.endTrain).storeState = s.storeState ∧ (s.endTrain).saving = s.saving ∧ (s.endTrain).tables = s.tables ∧
      (s.endTrain).routes = s.routes ∧ (s.endTrain).serviceHeld = s.serviceHeld ∧ (s.endTrain).zones = s.zones ∧
      (s.endTrain).computation = s.computation ∧ (s.endTrain).channels = s.channels ∧ (s.endTrain).queue = s.queue ∧
      (s.endTrain).slotLimit = s.slotLimit ∧ (s.endTrain).homingDue = s.homingDue ∧ (s.endTrain).room = s.room ∧
      (s.endTrain).plant = s.plant := by
  unfold State.endTrain
  dsimp only
  (repeat' split) <;> simp

@[simp] theorem State.holdExpired_frame (s : State) :
    (s.holdExpired).now = s.now ∧ (s.holdExpired).pending = s.pending ∧ (s.holdExpired).phase = s.phase ∧
      (s.holdExpired).resetAt = s.resetAt ∧ (s.holdExpired).supply = s.supply ∧ (s.holdExpired).store = s.store ∧
      (s.holdExpired).storeState = s.storeState ∧ (s.holdExpired).saving = s.saving ∧
      (s.holdExpired).tables = s.tables ∧ (s.holdExpired).routes = s.routes ∧
      (s.holdExpired).serviceHeld = s.serviceHeld ∧ (s.holdExpired).zones = s.zones ∧
      (s.holdExpired).computation = s.computation ∧ (s.holdExpired).channels = s.channels ∧
      (s.holdExpired).queue = s.queue ∧ (s.holdExpired).slotLimit = s.slotLimit ∧
      (s.holdExpired).homingDue = s.homingDue ∧ (s.holdExpired).room = s.room ∧ (s.holdExpired).plant = s.plant := by
  simp [State.holdExpired]

@[simp] theorem State.glitchEnds_frame (s : State) :
    (s.glitchEnds).now = s.now ∧ (s.glitchEnds).pending = s.pending ∧ (s.glitchEnds).phase = s.phase ∧
      (s.glitchEnds).resetAt = s.resetAt ∧ (s.glitchEnds).supply = s.supply ∧ (s.glitchEnds).store = s.store ∧
      (s.glitchEnds).storeState = s.storeState ∧ (s.glitchEnds).saving = s.saving ∧
      (s.glitchEnds).tables = s.tables ∧ (s.glitchEnds).routes = s.routes ∧
      (s.glitchEnds).serviceHeld = s.serviceHeld ∧ (s.glitchEnds).zones = s.zones ∧
      (s.glitchEnds).computation = s.computation ∧ (s.glitchEnds).channels = s.channels ∧
      (s.glitchEnds).queue = s.queue ∧ (s.glitchEnds).slotLimit = s.slotLimit ∧
      (s.glitchEnds).homingDue = s.homingDue ∧ (s.glitchEnds).room = s.room ∧ (s.glitchEnds).plant = s.plant := by
  unfold State.glitchEnds
  dsimp only
  (repeat' split) <;> simp

@[simp] theorem State.restAtInput_frame (s : State) :
    (s.restAtInput).now = s.now ∧ (s.restAtInput).pending = s.pending ∧ (s.restAtInput).phase = s.phase ∧
      (s.restAtInput).resetAt = s.resetAt ∧ (s.restAtInput).supply = s.supply ∧ (s.restAtInput).store = s.store ∧
      (s.restAtInput).storeState = s.storeState ∧ (s.restAtInput).saving = s.saving ∧
      (s.restAtInput).tables = s.tables ∧ (s.restAtInput).routes = s.routes ∧
      (s.restAtInput).serviceHeld = s.serviceHeld ∧ (s.restAtInput).zones = s.zones ∧
      (s.restAtInput).computation = s.computation ∧ (s.restAtInput).channels = s.channels ∧
      (s.restAtInput).queue = s.queue ∧ (s.restAtInput).slotLimit = s.slotLimit ∧
      (s.restAtInput).homingDue = s.homingDue ∧ (s.restAtInput).room = s.room ∧ (s.restAtInput).plant = s.plant := by
  unfold State.restAtInput
  dsimp only
  (repeat' split) <;> simp

@[simp] theorem State.curtailAsserted_frame (s : State) :
    (s.curtailAsserted).now = s.now ∧ (s.curtailAsserted).pending = s.pending ∧ (s.curtailAsserted).phase = s.phase ∧
      (s.curtailAsserted).resetAt = s.resetAt ∧ (s.curtailAsserted).supply = s.supply ∧
      (s.curtailAsserted).retained = s.retained ∧ (s.curtailAsserted).store = s.store ∧
      (s.curtailAsserted).storeState = s.storeState ∧ (s.curtailAsserted).saving = s.saving ∧
      (s.curtailAsserted).tables = s.tables ∧ (s.curtailAsserted).routes = s.routes ∧
      (s.curtailAsserted).serviceHeld = s.serviceHeld ∧ (s.curtailAsserted).zones = s.zones ∧
      (s.curtailAsserted).arbiter = s.arbiter ∧ (s.curtailAsserted).command = s.command ∧
      (s.curtailAsserted).computation = s.computation ∧ (s.curtailAsserted).channels = s.channels ∧
      (s.curtailAsserted).queue = s.queue ∧ (s.curtailAsserted).slotLimit = s.slotLimit ∧
      (s.curtailAsserted).homingDue = s.homingDue ∧ (s.curtailAsserted).links = s.links ∧
      (s.curtailAsserted).room = s.room ∧ (s.curtailAsserted).plant = s.plant ∧ (s.curtailAsserted).relay = s.relay ∧
      (s.curtailAsserted).events = s.events := by
  simp [State.curtailAsserted]

@[simp] theorem State.curtailAtRest_frame (s : State) :
    (s.curtailAtRest).now = s.now ∧ (s.curtailAtRest).pending = s.pending ∧ (s.curtailAtRest).phase = s.phase ∧
      (s.curtailAtRest).resetAt = s.resetAt ∧ (s.curtailAtRest).supply = s.supply ∧
      (s.curtailAtRest).store = s.store ∧ (s.curtailAtRest).storeState = s.storeState ∧
      (s.curtailAtRest).saving = s.saving ∧ (s.curtailAtRest).tables = s.tables ∧
      (s.curtailAtRest).routes = s.routes ∧ (s.curtailAtRest).serviceHeld = s.serviceHeld ∧
      (s.curtailAtRest).zones = s.zones ∧ (s.curtailAtRest).computation = s.computation ∧
      (s.curtailAtRest).channels = s.channels ∧ (s.curtailAtRest).queue = s.queue ∧
      (s.curtailAtRest).slotLimit = s.slotLimit ∧ (s.curtailAtRest).homingDue = s.homingDue ∧
      (s.curtailAtRest).room = s.room ∧ (s.curtailAtRest).plant = s.plant := by
  simp [State.curtailAtRest]

@[simp] theorem State.startDecoder_frame (s : State) :
    (s.startDecoder).now = s.now ∧ (s.startDecoder).pending = s.pending ∧ (s.startDecoder).phase = s.phase ∧
      (s.startDecoder).resetAt = s.resetAt ∧ (s.startDecoder).supply = s.supply ∧ (s.startDecoder).store = s.store ∧
      (s.startDecoder).storeState = s.storeState ∧ (s.startDecoder).saving = s.saving ∧
      (s.startDecoder).tables = s.tables ∧ (s.startDecoder).routes = s.routes ∧
      (s.startDecoder).serviceHeld = s.serviceHeld ∧ (s.startDecoder).zones = s.zones ∧
      (s.startDecoder).arbiter = s.arbiter ∧ (s.startDecoder).command = s.command ∧
      (s.startDecoder).computation = s.computation ∧ (s.startDecoder).channels = s.channels ∧
      (s.startDecoder).queue = s.queue ∧ (s.startDecoder).slotLimit = s.slotLimit ∧
      (s.startDecoder).homingDue = s.homingDue ∧ (s.startDecoder).links = s.links ∧ (s.startDecoder).room = s.room ∧
      (s.startDecoder).plant = s.plant ∧ (s.startDecoder).relay = s.relay ∧ (s.startDecoder).events = s.events := by
  simp [State.startDecoder]

end Sys2Proof.Machine
end

