-- ==== Sys2Proof/Laws/FramePorts.lean ====
section
/-! SUPPORT. What the operations of the two ports and the room service leave alone: for each operation, every field of State that it does not
write. -/

namespace Sys2Proof.Machine

@[simp] theorem State.atSlot_frame (s : State) (x : Slot) :
    (s.atSlot x).now = s.now ∧ (s.atSlot x).pending = s.pending ∧ (s.atSlot x).phase = s.phase ∧
      (s.atSlot x).resetAt = s.resetAt ∧ (s.atSlot x).supply = s.supply ∧ (s.atSlot x).retained = s.retained ∧
      (s.atSlot x).store = s.store ∧ (s.atSlot x).storeState = s.storeState ∧ (s.atSlot x).saving = s.saving ∧
      (s.atSlot x).tables = s.tables ∧ (s.atSlot x).routes = s.routes ∧ (s.atSlot x).serviceHeld = s.serviceHeld ∧
      (s.atSlot x).zones = s.zones ∧ (s.atSlot x).arbiter = s.arbiter ∧ (s.atSlot x).command = s.command ∧
      (s.atSlot x).computation = s.computation ∧ (s.atSlot x).channels = s.channels ∧ (s.atSlot x).queue = s.queue ∧
      (s.atSlot x).slotLimit = s.slotLimit ∧ (s.atSlot x).homingDue = s.homingDue ∧ (s.atSlot x).links = s.links ∧
      (s.atSlot x).room = s.room ∧ (s.atSlot x).relay = s.relay ∧ (s.atSlot x).decoder = s.decoder ∧
      (s.atSlot x).events = s.events := by
  simp [State.atSlot]

@[simp] theorem State.beginQuerySlot_frame (s : State) :
    (s.beginQuerySlot).now = s.now ∧ (s.beginQuerySlot).pending = s.pending ∧ (s.beginQuerySlot).phase = s.phase ∧
      (s.beginQuerySlot).resetAt = s.resetAt ∧ (s.beginQuerySlot).supply = s.supply ∧
      (s.beginQuerySlot).retained = s.retained ∧ (s.beginQuerySlot).store = s.store ∧
      (s.beginQuerySlot).storeState = s.storeState ∧ (s.beginQuerySlot).saving = s.saving ∧
      (s.beginQuerySlot).tables = s.tables ∧ (s.beginQuerySlot).routes = s.routes ∧
      (s.beginQuerySlot).serviceHeld = s.serviceHeld ∧ (s.beginQuerySlot).zones = s.zones ∧
      (s.beginQuerySlot).arbiter = s.arbiter ∧ (s.beginQuerySlot).command = s.command ∧
      (s.beginQuerySlot).computation = s.computation ∧ (s.beginQuerySlot).channels = s.channels ∧
      (s.beginQuerySlot).queue = s.queue ∧ (s.beginQuerySlot).slotLimit = s.slotLimit ∧
      (s.beginQuerySlot).homingDue = s.homingDue ∧ (s.beginQuerySlot).links = s.links ∧
      (s.beginQuerySlot).room = s.room ∧ (s.beginQuerySlot).relay = s.relay ∧
      (s.beginQuerySlot).decoder = s.decoder ∧ (s.beginQuerySlot).events = s.events := by
  simp [State.beginQuerySlot]

@[simp] theorem State.beginOutdoorSlot_frame (s : State) :
    (s.beginOutdoorSlot).now = s.now ∧ (s.beginOutdoorSlot).pending = s.pending ∧
      (s.beginOutdoorSlot).phase = s.phase ∧ (s.beginOutdoorSlot).resetAt = s.resetAt ∧
      (s.beginOutdoorSlot).supply = s.supply ∧ (s.beginOutdoorSlot).retained = s.retained ∧
      (s.beginOutdoorSlot).store = s.store ∧ (s.beginOutdoorSlot).storeState = s.storeState ∧
      (s.beginOutdoorSlot).saving = s.saving ∧ (s.beginOutdoorSlot).tables = s.tables ∧
      (s.beginOutdoorSlot).routes = s.routes ∧ (s.beginOutdoorSlot).serviceHeld = s.serviceHeld ∧
      (s.beginOutdoorSlot).zones = s.zones ∧ (s.beginOutdoorSlot).arbiter = s.arbiter ∧
      (s.beginOutdoorSlot).command = s.command ∧ (s.beginOutdoorSlot).computation = s.computation ∧
      (s.beginOutdoorSlot).channels = s.channels ∧ (s.beginOutdoorSlot).queue = s.queue ∧
      (s.beginOutdoorSlot).slotLimit = s.slotLimit ∧ (s.beginOutdoorSlot).homingDue = s.homingDue ∧
      (s.beginOutdoorSlot).links = s.links ∧ (s.beginOutdoorSlot).room = s.room ∧
      (s.beginOutdoorSlot).relay = s.relay ∧ (s.beginOutdoorSlot).decoder = s.decoder ∧
      (s.beginOutdoorSlot).events = s.events := by
  simp [State.beginOutdoorSlot]

@[simp] theorem State.beginRound_frame (s : State) :
    (s.beginRound).now = s.now ∧ (s.beginRound).pending = s.pending ∧ (s.beginRound).phase = s.phase ∧
      (s.beginRound).resetAt = s.resetAt ∧ (s.beginRound).supply = s.supply ∧ (s.beginRound).retained = s.retained ∧
      (s.beginRound).store = s.store ∧ (s.beginRound).storeState = s.storeState ∧ (s.beginRound).saving = s.saving ∧
      (s.beginRound).tables = s.tables ∧ (s.beginRound).routes = s.routes ∧
      (s.beginRound).serviceHeld = s.serviceHeld ∧ (s.beginRound).zones = s.zones ∧
      (s.beginRound).arbiter = s.arbiter ∧ (s.beginRound).command = s.command ∧
      (s.beginRound).computation = s.computation ∧ (s.beginRound).channels = s.channels ∧
      (s.beginRound).queue = s.queue ∧ (s.beginRound).slotLimit = s.slotLimit ∧
      (s.beginRound).homingDue = s.homingDue ∧ (s.beginRound).links = s.links ∧ (s.beginRound).room = s.room ∧
      (s.beginRound).relay = s.relay ∧ (s.beginRound).decoder = s.decoder ∧ (s.beginRound).events = s.events := by
  simp [State.beginRound]

@[simp] theorem State.endSlot_frame (s : State) :
    (s.endSlot).now = s.now ∧ (s.endSlot).pending = s.pending ∧ (s.endSlot).phase = s.phase ∧
      (s.endSlot).resetAt = s.resetAt ∧ (s.endSlot).supply = s.supply ∧ (s.endSlot).retained = s.retained ∧
      (s.endSlot).store = s.store ∧ (s.endSlot).storeState = s.storeState ∧ (s.endSlot).saving = s.saving ∧
      (s.endSlot).tables = s.tables ∧ (s.endSlot).routes = s.routes ∧ (s.endSlot).serviceHeld = s.serviceHeld ∧
      (s.endSlot).zones = s.zones ∧ (s.endSlot).arbiter = s.arbiter ∧ (s.endSlot).command = s.command ∧
      (s.endSlot).computation = s.computation ∧ (s.endSlot).channels = s.channels ∧ (s.endSlot).queue = s.queue ∧
      (s.endSlot).slotLimit = s.slotLimit ∧ (s.endSlot).homingDue = s.homingDue ∧ (s.endSlot).links = s.links ∧
      (s.endSlot).room = s.room ∧ (s.endSlot).relay = s.relay ∧ (s.endSlot).decoder = s.decoder ∧
      (s.endSlot).events = s.events := by
  unfold State.endSlot
  (repeat' split) <;> simp

@[simp] theorem State.startRound_frame (s : State) :
    (s.startRound).now = s.now ∧ (s.startRound).pending = s.pending ∧ (s.startRound).phase = s.phase ∧
      (s.startRound).resetAt = s.resetAt ∧ (s.startRound).supply = s.supply ∧ (s.startRound).retained = s.retained ∧
      (s.startRound).store = s.store ∧ (s.startRound).storeState = s.storeState ∧ (s.startRound).saving = s.saving ∧
      (s.startRound).tables = s.tables ∧ (s.startRound).routes = s.routes ∧
      (s.startRound).serviceHeld = s.serviceHeld ∧ (s.startRound).zones = s.zones ∧
      (s.startRound).arbiter = s.arbiter ∧ (s.startRound).command = s.command ∧
      (s.startRound).computation = s.computation ∧ (s.startRound).channels = s.channels ∧
      (s.startRound).queue = s.queue ∧ (s.startRound).slotLimit = s.slotLimit ∧
      (s.startRound).homingDue = s.homingDue ∧ (s.startRound).links = s.links ∧ (s.startRound).room = s.room ∧
      (s.startRound).relay = s.relay ∧ (s.startRound).decoder = s.decoder ∧ (s.startRound).events = s.events := by
  simp [State.startRound]

@[simp] theorem State.plantSends_frame (s : State) (n : Node) (cls : Byte) (payload : List Byte) (e : Expects) :
    (s.plantSends n cls payload e).now = s.now ∧ (s.plantSends n cls payload e).pending = s.pending ∧
      (s.plantSends n cls payload e).phase = s.phase ∧ (s.plantSends n cls payload e).resetAt = s.resetAt ∧
      (s.plantSends n cls payload e).supply = s.supply ∧ (s.plantSends n cls payload e).retained = s.retained ∧
      (s.plantSends n cls payload e).store = s.store ∧ (s.plantSends n cls payload e).storeState = s.storeState ∧
      (s.plantSends n cls payload e).saving = s.saving ∧ (s.plantSends n cls payload e).tables = s.tables ∧
      (s.plantSends n cls payload e).routes = s.routes ∧ (s.plantSends n cls payload e).serviceHeld = s.serviceHeld ∧
      (s.plantSends n cls payload e).zones = s.zones ∧ (s.plantSends n cls payload e).arbiter = s.arbiter ∧
      (s.plantSends n cls payload e).command = s.command ∧
      (s.plantSends n cls payload e).computation = s.computation ∧
      (s.plantSends n cls payload e).channels = s.channels ∧ (s.plantSends n cls payload e).queue = s.queue ∧
      (s.plantSends n cls payload e).slotLimit = s.slotLimit ∧
      (s.plantSends n cls payload e).homingDue = s.homingDue ∧ (s.plantSends n cls payload e).links = s.links ∧
      (s.plantSends n cls payload e).room = s.room ∧ (s.plantSends n cls payload e).relay = s.relay ∧
      (s.plantSends n cls payload e).decoder = s.decoder ∧ (s.plantSends n cls payload e).events = s.events := by
  simp [State.plantSends]

@[simp] theorem State.countStop_frame (s : State) (n : Node) :
    (s.countStop n).now = s.now ∧ (s.countStop n).pending = s.pending ∧ (s.countStop n).phase = s.phase ∧
      (s.countStop n).resetAt = s.resetAt ∧ (s.countStop n).supply = s.supply ∧
      (s.countStop n).retained = s.retained ∧ (s.countStop n).store = s.store ∧
      (s.countStop n).storeState = s.storeState ∧ (s.countStop n).saving = s.saving ∧
      (s.countStop n).tables = s.tables ∧ (s.countStop n).routes = s.routes ∧
      (s.countStop n).serviceHeld = s.serviceHeld ∧ (s.countStop n).zones = s.zones ∧
      (s.countStop n).arbiter = s.arbiter ∧ (s.countStop n).command = s.command ∧
      (s.countStop n).computation = s.computation ∧ (s.countStop n).channels = s.channels ∧
      (s.countStop n).queue = s.queue ∧ (s.countStop n).slotLimit = s.slotLimit ∧
      (s.countStop n).homingDue = s.homingDue ∧ (s.countStop n).room = s.room ∧ (s.countStop n).plant = s.plant ∧
      (s.countStop n).relay = s.relay ∧ (s.countStop n).decoder = s.decoder ∧ (s.countStop n).events = s.events := by
  simp [State.countStop]

@[simp] theorem State.sendCommand_frame (s : State) (n : Node) :
    (s.sendCommand n).now = s.now ∧ (s.sendCommand n).pending = s.pending ∧ (s.sendCommand n).phase = s.phase ∧
      (s.sendCommand n).resetAt = s.resetAt ∧ (s.sendCommand n).supply = s.supply ∧
      (s.sendCommand n).retained = s.retained ∧ (s.sendCommand n).store = s.store ∧
      (s.sendCommand n).storeState = s.storeState ∧ (s.sendCommand n).saving = s.saving ∧
      (s.sendCommand n).tables = s.tables ∧ (s.sendCommand n).routes = s.routes ∧
      (s.sendCommand n).serviceHeld = s.serviceHeld ∧ (s.sendCommand n).zones = s.zones ∧
      (s.sendCommand n).arbiter = s.arbiter ∧ (s.sendCommand n).command = s.command ∧
      (s.sendCommand n).computation = s.computation ∧ (s.sendCommand n).channels = s.channels ∧
      (s.sendCommand n).queue = s.queue ∧ (s.sendCommand n).slotLimit = s.slotLimit ∧
      (s.sendCommand n).homingDue = s.homingDue ∧ (s.sendCommand n).room = s.room ∧
      (s.sendCommand n).relay = s.relay ∧ (s.sendCommand n).decoder = s.decoder ∧ (s.sendCommand n).events = s.events := by
  simp [State.sendCommand]

@[simp] theorem State.sendWake_frame (s : State) (n : Node) :
    (s.sendWake n).now = s.now ∧ (s.sendWake n).pending = s.pending ∧ (s.sendWake n).phase = s.phase ∧
      (s.sendWake n).resetAt = s.resetAt ∧ (s.sendWake n).supply = s.supply ∧ (s.sendWake n).retained = s.retained ∧
      (s.sendWake n).store = s.store ∧ (s.sendWake n).storeState = s.storeState ∧ (s.sendWake n).saving = s.saving ∧
      (s.sendWake n).tables = s.tables ∧ (s.sendWake n).routes = s.routes ∧
      (s.sendWake n).serviceHeld = s.serviceHeld ∧ (s.sendWake n).zones = s.zones ∧
      (s.sendWake n).arbiter = s.arbiter ∧ (s.sendWake n).command = s.command ∧
      (s.sendWake n).computation = s.computation ∧ (s.sendWake n).channels = s.channels ∧
      (s.sendWake n).queue = s.queue ∧ (s.sendWake n).slotLimit = s.slotLimit ∧
      (s.sendWake n).homingDue = s.homingDue ∧ (s.sendWake n).links = s.links ∧ (s.sendWake n).room = s.room ∧
      (s.sendWake n).relay = s.relay ∧ (s.sendWake n).decoder = s.decoder ∧ (s.sendWake n).events = s.events := by
  simp [State.sendWake]

@[simp] theorem State.sendQuery_frame (s : State) :
    (s.sendQuery).now = s.now ∧ (s.sendQuery).pending = s.pending ∧ (s.sendQuery).phase = s.phase ∧
      (s.sendQuery).resetAt = s.resetAt ∧ (s.sendQuery).supply = s.supply ∧ (s.sendQuery).retained = s.retained ∧
      (s.sendQuery).store = s.store ∧ (s.sendQuery).storeState = s.storeState ∧ (s.sendQuery).saving = s.saving ∧
      (s.sendQuery).tables = s.tables ∧ (s.sendQuery).routes = s.routes ∧ (s.sendQuery).serviceHeld = s.serviceHeld ∧
      (s.sendQuery).zones = s.zones ∧ (s.sendQuery).arbiter = s.arbiter ∧ (s.sendQuery).command = s.command ∧
      (s.sendQuery).computation = s.computation ∧ (s.sendQuery).channels = s.channels ∧
      (s.sendQuery).queue = s.queue ∧ (s.sendQuery).slotLimit = s.slotLimit ∧ (s.sendQuery).homingDue = s.homingDue ∧
      (s.sendQuery).links = s.links ∧ (s.sendQuery).room = s.room ∧ (s.sendQuery).decoder = s.decoder ∧
      (s.sendQuery).events = s.events := by
  unfold State.sendQuery
  (repeat' split) <;> simp

@[simp] theorem State.closePlantWait_frame (s : State) :
    (s.closePlantWait).now = s.now ∧ (s.closePlantWait).pending = s.pending ∧ (s.closePlantWait).phase = s.phase ∧
      (s.closePlantWait).resetAt = s.resetAt ∧ (s.closePlantWait).supply = s.supply ∧
      (s.closePlantWait).retained = s.retained ∧ (s.closePlantWait).store = s.store ∧
      (s.closePlantWait).storeState = s.storeState ∧ (s.closePlantWait).saving = s.saving ∧
      (s.closePlantWait).tables = s.tables ∧ (s.closePlantWait).routes = s.routes ∧
      (s.closePlantWait).serviceHeld = s.serviceHeld ∧ (s.closePlantWait).zones = s.zones ∧
      (s.closePlantWait).arbiter = s.arbiter ∧ (s.closePlantWait).command = s.command ∧
      (s.closePlantWait).computation = s.computation ∧ (s.closePlantWait).channels = s.channels ∧
      (s.closePlantWait).queue = s.queue ∧ (s.closePlantWait).slotLimit = s.slotLimit ∧
      (s.closePlantWait).homingDue = s.homingDue ∧ (s.closePlantWait).links = s.links ∧
      (s.closePlantWait).room = s.room ∧ (s.closePlantWait).relay = s.relay ∧
      (s.closePlantWait).decoder = s.decoder ∧ (s.closePlantWait).events = s.events := by
  simp [State.closePlantWait]

@[simp] theorem State.missAnswered_frame (s : State) (e : Expects) :
    (s.missAnswered e).now = s.now ∧ (s.missAnswered e).pending = s.pending ∧ (s.missAnswered e).phase = s.phase ∧
      (s.missAnswered e).resetAt = s.resetAt ∧ (s.missAnswered e).supply = s.supply ∧
      (s.missAnswered e).retained = s.retained ∧ (s.missAnswered e).store = s.store ∧
      (s.missAnswered e).storeState = s.storeState ∧ (s.missAnswered e).saving = s.saving ∧
      (s.missAnswered e).tables = s.tables ∧ (s.missAnswered e).routes = s.routes ∧
      (s.missAnswered e).serviceHeld = s.serviceHeld ∧ (s.missAnswered e).zones = s.zones ∧
      (s.missAnswered e).arbiter = s.arbiter ∧ (s.missAnswered e).command = s.command ∧
      (s.missAnswered e).computation = s.computation ∧ (s.missAnswered e).channels = s.channels ∧
      (s.missAnswered e).queue = s.queue ∧ (s.missAnswered e).slotLimit = s.slotLimit ∧
      (s.missAnswered e).homingDue = s.homingDue ∧ (s.missAnswered e).links = s.links ∧
      (s.missAnswered e).room = s.room ∧ (s.missAnswered e).plant = s.plant ∧
      (s.missAnswered e).decoder = s.decoder ∧ (s.missAnswered e).events = s.events := by
  unfold State.missAnswered
  (repeat' split) <;> simp

@[simp] theorem State.plantMissed_frame (s : State) :
    (s.plantMissed).now = s.now ∧ (s.plantMissed).pending = s.pending ∧ (s.plantMissed).phase = s.phase ∧
      (s.plantMissed).resetAt = s.resetAt ∧ (s.plantMissed).supply = s.supply ∧
      (s.plantMissed).retained = s.retained ∧ (s.plantMissed).store = s.store ∧
      (s.plantMissed).storeState = s.storeState ∧ (s.plantMissed).saving = s.saving ∧
      (s.plantMissed).tables = s.tables ∧ (s.plantMissed).routes = s.routes ∧
      (s.plantMissed).serviceHeld = s.serviceHeld ∧ (s.plantMissed).zones = s.zones ∧
      (s.plantMissed).arbiter = s.arbiter ∧ (s.plantMissed).command = s.command ∧
      (s.plantMissed).computation = s.computation ∧ (s.plantMissed).channels = s.channels ∧
      (s.plantMissed).queue = s.queue ∧ (s.plantMissed).slotLimit = s.slotLimit ∧
      (s.plantMissed).homingDue = s.homingDue ∧ (s.plantMissed).links = s.links ∧ (s.plantMissed).room = s.room ∧
      (s.plantMissed).decoder = s.decoder ∧ (s.plantMissed).events = s.events := by
  unfold State.plantMissed
  (repeat' split) <;> simp

@[simp] theorem State.relayStatus_frame (s : State) (n : Node) (p : List Byte) :
    (s.relayStatus n p).now = s.now ∧ (s.relayStatus n p).pending = s.pending ∧ (s.relayStatus n p).phase = s.phase ∧
      (s.relayStatus n p).resetAt = s.resetAt ∧ (s.relayStatus n p).supply = s.supply ∧
      (s.relayStatus n p).retained = s.retained ∧ (s.relayStatus n p).store = s.store ∧
      (s.relayStatus n p).storeState = s.storeState ∧ (s.relayStatus n p).saving = s.saving ∧
      (s.relayStatus n p).tables = s.tables ∧ (s.relayStatus n p).routes = s.routes ∧
      (s.relayStatus n p).serviceHeld = s.serviceHeld ∧ (s.relayStatus n p).zones = s.zones ∧
      (s.relayStatus n p).arbiter = s.arbiter ∧ (s.relayStatus n p).command = s.command ∧
      (s.relayStatus n p).computation = s.computation ∧ (s.relayStatus n p).channels = s.channels ∧
      (s.relayStatus n p).queue = s.queue ∧ (s.relayStatus n p).slotLimit = s.slotLimit ∧
      (s.relayStatus n p).homingDue = s.homingDue ∧ (s.relayStatus n p).links = s.links ∧
      (s.relayStatus n p).room = s.room ∧ (s.relayStatus n p).plant = s.plant ∧
      (s.relayStatus n p).decoder = s.decoder ∧ (s.relayStatus n p).events = s.events := by
  unfold State.relayStatus
  (repeat' split) <;> simp

@[simp] theorem State.plantReply_frame (s : State) (w : PlantWait) (p : List Byte) (relayFirst : Bool) :
    (s.plantReply w p relayFirst).now = s.now ∧ (s.plantReply w p relayFirst).pending = s.pending ∧
      (s.plantReply w p relayFirst).phase = s.phase ∧ (s.plantReply w p relayFirst).resetAt = s.resetAt ∧
      (s.plantReply w p relayFirst).supply = s.supply ∧ (s.plantReply w p relayFirst).retained = s.retained ∧
      (s.plantReply w p relayFirst).store = s.store ∧ (s.plantReply w p relayFirst).storeState = s.storeState ∧
      (s.plantReply w p relayFirst).saving = s.saving ∧ (s.plantReply w p relayFirst).tables = s.tables ∧
      (s.plantReply w p relayFirst).routes = s.routes ∧ (s.plantReply w p relayFirst).serviceHeld = s.serviceHeld ∧
      (s.plantReply w p relayFirst).zones = s.zones ∧ (s.plantReply w p relayFirst).computation = s.computation ∧
      (s.plantReply w p relayFirst).channels = s.channels ∧ (s.plantReply w p relayFirst).queue = s.queue ∧
      (s.plantReply w p relayFirst).slotLimit = s.slotLimit ∧ (s.plantReply w p relayFirst).homingDue = s.homingDue ∧
      (s.plantReply w p relayFirst).room = s.room ∧ (s.plantReply w p relayFirst).plant = s.plant ∧
      (s.plantReply w p relayFirst).decoder = s.decoder := by
  unfold State.plantReply
  (repeat' split) <;> simp

@[simp] theorem State.plantAnswered_frame (s : State) (p : List Byte) (relayFirst : Bool) :
    (s.plantAnswered p relayFirst).now = s.now ∧ (s.plantAnswered p relayFirst).pending = s.pending ∧
      (s.plantAnswered p relayFirst).phase = s.phase ∧ (s.plantAnswered p relayFirst).resetAt = s.resetAt ∧
      (s.plantAnswered p relayFirst).supply = s.supply ∧ (s.plantAnswered p relayFirst).retained = s.retained ∧
      (s.plantAnswered p relayFirst).store = s.store ∧ (s.plantAnswered p relayFirst).storeState = s.storeState ∧
      (s.plantAnswered p relayFirst).saving = s.saving ∧ (s.plantAnswered p relayFirst).tables = s.tables ∧
      (s.plantAnswered p relayFirst).routes = s.routes ∧ (s.plantAnswered p relayFirst).serviceHeld = s.serviceHeld ∧
      (s.plantAnswered p relayFirst).zones = s.zones ∧ (s.plantAnswered p relayFirst).computation = s.computation ∧
      (s.plantAnswered p relayFirst).channels = s.channels ∧ (s.plantAnswered p relayFirst).queue = s.queue ∧
      (s.plantAnswered p relayFirst).slotLimit = s.slotLimit ∧
      (s.plantAnswered p relayFirst).homingDue = s.homingDue ∧ (s.plantAnswered p relayFirst).room = s.room ∧
      (s.plantAnswered p relayFirst).decoder = s.decoder := by
  unfold State.plantAnswered
  (repeat' split) <;> simp

@[simp] theorem State.countPlant_frame (s : State) (v : Verdict) :
    (s.countPlant v).now = s.now ∧ (s.countPlant v).pending = s.pending ∧ (s.countPlant v).phase = s.phase ∧
      (s.countPlant v).resetAt = s.resetAt ∧ (s.countPlant v).supply = s.supply ∧
      (s.countPlant v).retained = s.retained ∧ (s.countPlant v).store = s.store ∧
      (s.countPlant v).storeState = s.storeState ∧ (s.countPlant v).saving = s.saving ∧
      (s.countPlant v).tables = s.tables ∧ (s.countPlant v).routes = s.routes ∧
      (s.countPlant v).serviceHeld = s.serviceHeld ∧ (s.countPlant v).zones = s.zones ∧
      (s.countPlant v).arbiter = s.arbiter ∧ (s.countPlant v).command = s.command ∧
      (s.countPlant v).computation = s.computation ∧ (s.countPlant v).channels = s.channels ∧
      (s.countPlant v).queue = s.queue ∧ (s.countPlant v).slotLimit = s.slotLimit ∧
      (s.countPlant v).homingDue = s.homingDue ∧ (s.countPlant v).links = s.links ∧ (s.countPlant v).room = s.room ∧
      (s.countPlant v).relay = s.relay ∧ (s.countPlant v).decoder = s.decoder ∧ (s.countPlant v).events = s.events := by
  simp [State.countPlant]

@[simp] theorem State.judgePlant_frame (s : State) (b : Burst) :
    (s.judgePlant b).now = s.now ∧ (s.judgePlant b).pending = s.pending ∧ (s.judgePlant b).phase = s.phase ∧
      (s.judgePlant b).resetAt = s.resetAt ∧ (s.judgePlant b).supply = s.supply ∧
      (s.judgePlant b).retained = s.retained ∧ (s.judgePlant b).store = s.store ∧
      (s.judgePlant b).storeState = s.storeState ∧ (s.judgePlant b).saving = s.saving ∧
      (s.judgePlant b).tables = s.tables ∧ (s.judgePlant b).routes = s.routes ∧
      (s.judgePlant b).serviceHeld = s.serviceHeld ∧ (s.judgePlant b).zones = s.zones ∧
      (s.judgePlant b).computation = s.computation ∧ (s.judgePlant b).channels = s.channels ∧
      (s.judgePlant b).queue = s.queue ∧ (s.judgePlant b).slotLimit = s.slotLimit ∧
      (s.judgePlant b).homingDue = s.homingDue ∧ (s.judgePlant b).room = s.room ∧ (s.judgePlant b).decoder = s.decoder := by
  unfold State.judgePlant
  dsimp only
  (repeat' split) <;> simp

@[simp] theorem State.receivePlant_frame (s : State) (b : Burst) :
    (s.receivePlant b).now = s.now ∧ (s.receivePlant b).pending = s.pending ∧ (s.receivePlant b).phase = s.phase ∧
      (s.receivePlant b).resetAt = s.resetAt ∧ (s.receivePlant b).supply = s.supply ∧
      (s.receivePlant b).retained = s.retained ∧ (s.receivePlant b).store = s.store ∧
      (s.receivePlant b).storeState = s.storeState ∧ (s.receivePlant b).saving = s.saving ∧
      (s.receivePlant b).tables = s.tables ∧ (s.receivePlant b).routes = s.routes ∧
      (s.receivePlant b).serviceHeld = s.serviceHeld ∧ (s.receivePlant b).zones = s.zones ∧
      (s.receivePlant b).computation = s.computation ∧ (s.receivePlant b).channels = s.channels ∧
      (s.receivePlant b).queue = s.queue ∧ (s.receivePlant b).slotLimit = s.slotLimit ∧
      (s.receivePlant b).homingDue = s.homingDue ∧ (s.receivePlant b).room = s.room ∧
      (s.receivePlant b).decoder = s.decoder := by
  unfold State.receivePlant
  generalize heard b s.now s.plant.frames = bs
  induction bs generalizing s with
  | nil => simp
  | cons b bs ih => simp [ih (s.judgePlant b)]

@[simp] theorem State.plantTimeout_frame (s : State) :
    (s.plantTimeout).now = s.now ∧ (s.plantTimeout).pending = s.pending ∧ (s.plantTimeout).phase = s.phase ∧
      (s.plantTimeout).resetAt = s.resetAt ∧ (s.plantTimeout).supply = s.supply ∧
      (s.plantTimeout).retained = s.retained ∧ (s.plantTimeout).store = s.store ∧
      (s.plantTimeout).storeState = s.storeState ∧ (s.plantTimeout).saving = s.saving ∧
      (s.plantTimeout).tables = s.tables ∧ (s.plantTimeout).routes = s.routes ∧
      (s.plantTimeout).serviceHeld = s.serviceHeld ∧ (s.plantTimeout).zones = s.zones ∧
      (s.plantTimeout).arbiter = s.arbiter ∧ (s.plantTimeout).command = s.command ∧
      (s.plantTimeout).computation = s.computation ∧ (s.plantTimeout).channels = s.channels ∧
      (s.plantTimeout).queue = s.queue ∧ (s.plantTimeout).slotLimit = s.slotLimit ∧
      (s.plantTimeout).homingDue = s.homingDue ∧ (s.plantTimeout).links = s.links ∧ (s.plantTimeout).room = s.room ∧
      (s.plantTimeout).decoder = s.decoder ∧ (s.plantTimeout).events = s.events := by
  simp [State.plantTimeout]

@[simp] theorem State.hold_frame (s : State) (x : Sender) (r : HeldResult) :
    (s.hold x r).now = s.now ∧ (s.hold x r).pending = s.pending ∧ (s.hold x r).phase = s.phase ∧
      (s.hold x r).resetAt = s.resetAt ∧ (s.hold x r).supply = s.supply ∧ (s.hold x r).retained = s.retained ∧
      (s.hold x r).store = s.store ∧ (s.hold x r).storeState = s.storeState ∧ (s.hold x r).saving = s.saving ∧
      (s.hold x r).tables = s.tables ∧ (s.hold x r).zones = s.zones ∧ (s.hold x r).arbiter = s.arbiter ∧
      (s.hold x r).command = s.command ∧ (s.hold x r).computation = s.computation ∧
      (s.hold x r).channels = s.channels ∧ (s.hold x r).queue = s.queue ∧ (s.hold x r).slotLimit = s.slotLimit ∧
      (s.hold x r).homingDue = s.homingDue ∧ (s.hold x r).links = s.links ∧ (s.hold x r).room = s.room ∧
      (s.hold x r).plant = s.plant ∧ (s.hold x r).relay = s.relay ∧ (s.hold x r).decoder = s.decoder ∧
      (s.hold x r).events = s.events := by
  unfold State.hold
  (repeat' split) <;> simp

@[simp] theorem State.notePart_frame (s : State) (i : Option RouteId) (o : OptionalPart) :
    (s.notePart i o).now = s.now ∧ (s.notePart i o).pending = s.pending ∧ (s.notePart i o).phase = s.phase ∧
      (s.notePart i o).resetAt = s.resetAt ∧ (s.notePart i o).supply = s.supply ∧
      (s.notePart i o).retained = s.retained ∧ (s.notePart i o).store = s.store ∧
      (s.notePart i o).storeState = s.storeState ∧ (s.notePart i o).saving = s.saving ∧
      (s.notePart i o).tables = s.tables ∧ (s.notePart i o).serviceHeld = s.serviceHeld ∧
      (s.notePart i o).zones = s.zones ∧ (s.notePart i o).arbiter = s.arbiter ∧
      (s.notePart i o).command = s.command ∧ (s.notePart i o).computation = s.computation ∧
      (s.notePart i o).channels = s.channels ∧ (s.notePart i o).queue = s.queue ∧
      (s.notePart i o).slotLimit = s.slotLimit ∧ (s.notePart i o).homingDue = s.homingDue ∧
      (s.notePart i o).links = s.links ∧ (s.notePart i o).room = s.room ∧ (s.notePart i o).plant = s.plant ∧
      (s.notePart i o).relay = s.relay ∧ (s.notePart i o).decoder = s.decoder ∧ (s.notePart i o).events = s.events := by
  unfold State.notePart
  (repeat' split) <;> simp

@[simp] theorem State.dropHeld_frame (s : State) (i : Option RouteId) :
    (s.dropHeld i).now = s.now ∧ (s.dropHeld i).pending = s.pending ∧ (s.dropHeld i).phase = s.phase ∧
      (s.dropHeld i).resetAt = s.resetAt ∧ (s.dropHeld i).supply = s.supply ∧ (s.dropHeld i).retained = s.retained ∧
      (s.dropHeld i).store = s.store ∧ (s.dropHeld i).storeState = s.storeState ∧ (s.dropHeld i).saving = s.saving ∧
      (s.dropHeld i).tables = s.tables ∧ (s.dropHeld i).zones = s.zones ∧ (s.dropHeld i).arbiter = s.arbiter ∧
      (s.dropHeld i).command = s.command ∧ (s.dropHeld i).computation = s.computation ∧
      (s.dropHeld i).channels = s.channels ∧ (s.dropHeld i).queue = s.queue ∧
      (s.dropHeld i).slotLimit = s.slotLimit ∧ (s.dropHeld i).homingDue = s.homingDue ∧
      (s.dropHeld i).links = s.links ∧ (s.dropHeld i).room = s.room ∧ (s.dropHeld i).plant = s.plant ∧
      (s.dropHeld i).relay = s.relay ∧ (s.dropHeld i).decoder = s.decoder ∧ (s.dropHeld i).events = s.events := by
  unfold State.dropHeld
  (repeat' split) <;> simp

@[simp] theorem State.carry_frame (s : State) (i : Option RouteId) (o : OptionalPart) :
    (s.carry i o).now = s.now ∧ (s.carry i o).pending = s.pending ∧ (s.carry i o).phase = s.phase ∧
      (s.carry i o).resetAt = s.resetAt ∧ (s.carry i o).supply = s.supply ∧ (s.carry i o).retained = s.retained ∧
      (s.carry i o).store = s.store ∧ (s.carry i o).storeState = s.storeState ∧ (s.carry i o).saving = s.saving ∧
      (s.carry i o).tables = s.tables ∧ (s.carry i o).zones = s.zones ∧ (s.carry i o).arbiter = s.arbiter ∧
      (s.carry i o).command = s.command ∧ (s.carry i o).computation = s.computation ∧
      (s.carry i o).channels = s.channels ∧ (s.carry i o).queue = s.queue ∧ (s.carry i o).slotLimit = s.slotLimit ∧
      (s.carry i o).homingDue = s.homingDue ∧ (s.carry i o).links = s.links ∧ (s.carry i o).room = s.room ∧
      (s.carry i o).plant = s.plant ∧ (s.carry i o).decoder = s.decoder := by
  unfold State.carry
  (repeat' split) <;> simp

@[simp] theorem State.sendPoll_frame (s : State) :
    (s.sendPoll).now = s.now ∧ (s.sendPoll).pending = s.pending ∧ (s.sendPoll).phase = s.phase ∧
      (s.sendPoll).resetAt = s.resetAt ∧ (s.sendPoll).supply = s.supply ∧ (s.sendPoll).retained = s.retained ∧
      (s.sendPoll).store = s.store ∧ (s.sendPoll).storeState = s.storeState ∧ (s.sendPoll).saving = s.saving ∧
      (s.sendPoll).tables = s.tables ∧ (s.sendPoll).zones = s.zones ∧ (s.sendPoll).arbiter = s.arbiter ∧
      (s.sendPoll).command = s.command ∧ (s.sendPoll).computation = s.computation ∧
      (s.sendPoll).channels = s.channels ∧ (s.sendPoll).queue = s.queue ∧ (s.sendPoll).slotLimit = s.slotLimit ∧
      (s.sendPoll).homingDue = s.homingDue ∧ (s.sendPoll).links = s.links ∧ (s.sendPoll).plant = s.plant ∧
      (s.sendPoll).decoder = s.decoder := by
  simp [State.sendPoll]

@[simp] theorem State.closeRoomWait_frame (s : State) :
    (s.closeRoomWait).now = s.now ∧ (s.closeRoomWait).pending = s.pending ∧ (s.closeRoomWait).phase = s.phase ∧
      (s.closeRoomWait).resetAt = s.resetAt ∧ (s.closeRoomWait).supply = s.supply ∧
      (s.closeRoomWait).retained = s.retained ∧ (s.closeRoomWait).store = s.store ∧
      (s.closeRoomWait).storeState = s.storeState ∧ (s.closeRoomWait).saving = s.saving ∧
      (s.closeRoomWait).tables = s.tables ∧ (s.closeRoomWait).routes = s.routes ∧
      (s.closeRoomWait).serviceHeld = s.serviceHeld ∧ (s.closeRoomWait).zones = s.zones ∧
      (s.closeRoomWait).arbiter = s.arbiter ∧ (s.closeRoomWait).command = s.command ∧
      (s.closeRoomWait).computation = s.computation ∧ (s.closeRoomWait).channels = s.channels ∧
      (s.closeRoomWait).queue = s.queue ∧ (s.closeRoomWait).slotLimit = s.slotLimit ∧
      (s.closeRoomWait).homingDue = s.homingDue ∧ (s.closeRoomWait).links = s.links ∧
      (s.closeRoomWait).plant = s.plant ∧ (s.closeRoomWait).relay = s.relay ∧ (s.closeRoomWait).decoder = s.decoder ∧
      (s.closeRoomWait).events = s.events := by
  simp [State.closeRoomWait]

@[simp] theorem State.missEntry_frame (s : State) (a : Byte) :
    (s.missEntry a).now = s.now ∧ (s.missEntry a).pending = s.pending ∧ (s.missEntry a).phase = s.phase ∧
      (s.missEntry a).resetAt = s.resetAt ∧ (s.missEntry a).supply = s.supply ∧
      (s.missEntry a).retained = s.retained ∧ (s.missEntry a).store = s.store ∧
      (s.missEntry a).storeState = s.storeState ∧ (s.missEntry a).saving = s.saving ∧
      (s.missEntry a).tables = s.tables ∧ (s.missEntry a).serviceHeld = s.serviceHeld ∧
      (s.missEntry a).zones = s.zones ∧ (s.missEntry a).arbiter = s.arbiter ∧ (s.missEntry a).command = s.command ∧
      (s.missEntry a).computation = s.computation ∧ (s.missEntry a).channels = s.channels ∧
      (s.missEntry a).queue = s.queue ∧ (s.missEntry a).slotLimit = s.slotLimit ∧
      (s.missEntry a).homingDue = s.homingDue ∧ (s.missEntry a).links = s.links ∧ (s.missEntry a).room = s.room ∧
      (s.missEntry a).plant = s.plant ∧ (s.missEntry a).relay = s.relay ∧ (s.missEntry a).decoder = s.decoder ∧
      (s.missEntry a).events = s.events := by
  unfold State.missEntry
  (repeat' split) <;> simp

@[simp] theorem State.creditEntry_frame (s : State) (a : Byte) :
    (s.creditEntry a).now = s.now ∧ (s.creditEntry a).pending = s.pending ∧ (s.creditEntry a).phase = s.phase ∧
      (s.creditEntry a).resetAt = s.resetAt ∧ (s.creditEntry a).supply = s.supply ∧
      (s.creditEntry a).retained = s.retained ∧ (s.creditEntry a).store = s.store ∧
      (s.creditEntry a).storeState = s.storeState ∧ (s.creditEntry a).saving = s.saving ∧
      (s.creditEntry a).tables = s.tables ∧ (s.creditEntry a).serviceHeld = s.serviceHeld ∧
      (s.creditEntry a).zones = s.zones ∧ (s.creditEntry a).arbiter = s.arbiter ∧
      (s.creditEntry a).command = s.command ∧ (s.creditEntry a).computation = s.computation ∧
      (s.creditEntry a).channels = s.channels ∧ (s.creditEntry a).queue = s.queue ∧
      (s.creditEntry a).slotLimit = s.slotLimit ∧ (s.creditEntry a).homingDue = s.homingDue ∧
      (s.creditEntry a).links = s.links ∧ (s.creditEntry a).room = s.room ∧ (s.creditEntry a).plant = s.plant ∧
      (s.creditEntry a).relay = s.relay ∧ (s.creditEntry a).decoder = s.decoder ∧ (s.creditEntry a).events = s.events := by
  unfold State.creditEntry
  (repeat' split) <;> simp

@[simp] theorem State.noticeOutcome_frame (s : State) (carried taken : Bool) :
    (s.noticeOutcome carried taken).now = s.now ∧ (s.noticeOutcome carried taken).pending = s.pending ∧
      (s.noticeOutcome carried taken).phase = s.phase ∧ (s.noticeOutcome carried taken).resetAt = s.resetAt ∧
      (s.noticeOutcome carried taken).supply = s.supply ∧ (s.noticeOutcome carried taken).retained = s.retained ∧
      (s.noticeOutcome carried taken).store = s.store ∧ (s.noticeOutcome carried taken).storeState = s.storeState ∧
      (s.noticeOutcome carried taken).saving = s.saving ∧ (s.noticeOutcome carried taken).tables = s.tables ∧
      (s.noticeOutcome carried taken).routes = s.routes ∧
      (s.noticeOutcome carried taken).serviceHeld = s.serviceHeld ∧ (s.noticeOutcome carried taken).zones = s.zones ∧
      (s.noticeOutcome carried taken).arbiter = s.arbiter ∧ (s.noticeOutcome carried taken).command = s.command ∧
      (s.noticeOutcome carried taken).computation = s.computation ∧
      (s.noticeOutcome carried taken).channels = s.channels ∧ (s.noticeOutcome carried taken).queue = s.queue ∧
      (s.noticeOutcome carried taken).slotLimit = s.slotLimit ∧
      (s.noticeOutcome carried taken).homingDue = s.homingDue ∧ (s.noticeOutcome carried taken).links = s.links ∧
      (s.noticeOutcome carried taken).room = s.room ∧ (s.noticeOutcome carried taken).plant = s.plant ∧
      (s.noticeOutcome carried taken).relay = s.relay ∧ (s.noticeOutcome carried taken).decoder = s.decoder := by
  simp [State.noticeOutcome]

@[simp] theorem State.roomMissed_frame (s : State) :
    (s.roomMissed).now = s.now ∧ (s.roomMissed).pending = s.pending ∧ (s.roomMissed).phase = s.phase ∧
      (s.roomMissed).resetAt = s.resetAt ∧ (s.roomMissed).supply = s.supply ∧ (s.roomMissed).retained = s.retained ∧
      (s.roomMissed).store = s.store ∧ (s.roomMissed).storeState = s.storeState ∧ (s.roomMissed).saving = s.saving ∧
      (s.roomMissed).tables = s.tables ∧ (s.roomMissed).serviceHeld = s.serviceHeld ∧
      (s.roomMissed).zones = s.zones ∧ (s.roomMissed).arbiter = s.arbiter ∧ (s.roomMissed).command = s.command ∧
      (s.roomMissed).computation = s.computation ∧ (s.roomMissed).channels = s.channels ∧
      (s.roomMissed).queue = s.queue ∧ (s.roomMissed).slotLimit = s.slotLimit ∧
      (s.roomMissed).homingDue = s.homingDue ∧ (s.roomMissed).links = s.links ∧ (s.roomMissed).plant = s.plant ∧
      (s.roomMissed).relay = s.relay ∧ (s.roomMissed).decoder = s.decoder := by
  unfold State.roomMissed
  (repeat' split) <;> simp

@[simp] theorem State.reportReadings_frame (s : State) (x : Sender) (r : RoomReport) :
    (s.reportReadings x r).now = s.now ∧ (s.reportReadings x r).pending = s.pending ∧
      (s.reportReadings x r).phase = s.phase ∧ (s.reportReadings x r).resetAt = s.resetAt ∧
      (s.reportReadings x r).supply = s.supply ∧ (s.reportReadings x r).retained = s.retained ∧
      (s.reportReadings x r).store = s.store ∧ (s.reportReadings x r).storeState = s.storeState ∧
      (s.reportReadings x r).saving = s.saving ∧ (s.reportReadings x r).tables = s.tables ∧
      (s.reportReadings x r).serviceHeld = s.serviceHeld ∧ (s.reportReadings x r).arbiter = s.arbiter ∧
      (s.reportReadings x r).command = s.command ∧ (s.reportReadings x r).computation = s.computation ∧
      (s.reportReadings x r).channels = s.channels ∧ (s.reportReadings x r).queue = s.queue ∧
      (s.reportReadings x r).slotLimit = s.slotLimit ∧ (s.reportReadings x r).homingDue = s.homingDue ∧
      (s.reportReadings x r).links = s.links ∧ (s.reportReadings x r).room = s.room ∧
      (s.reportReadings x r).plant = s.plant ∧ (s.reportReadings x r).relay = s.relay ∧
      (s.reportReadings x r).decoder = s.decoder := by
  unfold State.reportReadings
  (repeat' split) <;> simp

@[simp] theorem State.reportSwitch_frame (s : State) (x : Sender) (r : RoomReport) :
    (s.reportSwitch x r).now = s.now ∧ (s.reportSwitch x r).pending = s.pending ∧
      (s.reportSwitch x r).phase = s.phase ∧ (s.reportSwitch x r).resetAt = s.resetAt ∧
      (s.reportSwitch x r).supply = s.supply ∧ (s.reportSwitch x r).retained = s.retained ∧
      (s.reportSwitch x r).store = s.store ∧ (s.reportSwitch x r).storeState = s.storeState ∧
      (s.reportSwitch x r).saving = s.saving ∧ (s.reportSwitch x r).tables = s.tables ∧
      (s.reportSwitch x r).routes = s.routes ∧ (s.reportSwitch x r).serviceHeld = s.serviceHeld ∧
      (s.reportSwitch x r).arbiter = s.arbiter ∧ (s.reportSwitch x r).command = s.command ∧
      (s.reportSwitch x r).computation = s.computation ∧ (s.reportSwitch x r).channels = s.channels ∧
      (s.reportSwitch x r).queue = s.queue ∧ (s.reportSwitch x r).slotLimit = s.slotLimit ∧
      (s.reportSwitch x r).homingDue = s.homingDue ∧ (s.reportSwitch x r).links = s.links ∧
      (s.reportSwitch x r).room = s.room ∧ (s.reportSwitch x r).plant = s.plant ∧
      (s.reportSwitch x r).relay = s.relay ∧ (s.reportSwitch x r).decoder = s.decoder := by
  unfold State.reportSwitch
  (repeat' split) <;> simp

@[simp] theorem State.confirmSetpoints_frame (s : State) (z : ZoneId) (p : Setpoints) :
    (s.confirmSetpoints z p).now = s.now ∧ (s.confirmSetpoints z p).pending = s.pending ∧
      (s.confirmSetpoints z p).phase = s.phase ∧ (s.confirmSetpoints z p).resetAt = s.resetAt ∧
      (s.confirmSetpoints z p).supply = s.supply ∧ (s.confirmSetpoints z p).retained = s.retained ∧
      (s.confirmSetpoints z p).store = s.store ∧ (s.confirmSetpoints z p).storeState = s.storeState ∧
      (s.confirmSetpoints z p).saving = s.saving ∧ (s.confirmSetpoints z p).tables = s.tables ∧
      (s.confirmSetpoints z p).routes = s.routes ∧ (s.confirmSetpoints z p).serviceHeld = s.serviceHeld ∧
      (s.confirmSetpoints z p).arbiter = s.arbiter ∧ (s.confirmSetpoints z p).command = s.command ∧
      (s.confirmSetpoints z p).computation = s.computation ∧ (s.confirmSetpoints z p).channels = s.channels ∧
      (s.confirmSetpoints z p).queue = s.queue ∧ (s.confirmSetpoints z p).slotLimit = s.slotLimit ∧
      (s.confirmSetpoints z p).homingDue = s.homingDue ∧ (s.confirmSetpoints z p).links = s.links ∧
      (s.confirmSetpoints z p).room = s.room ∧ (s.confirmSetpoints z p).plant = s.plant ∧
      (s.confirmSetpoints z p).relay = s.relay ∧ (s.confirmSetpoints z p).decoder = s.decoder ∧
      (s.confirmSetpoints z p).events = s.events := by
  simp [State.confirmSetpoints]

@[simp] theorem State.reportSetpoints_frame (s : State) (x : Sender) (p : Setpoints) :
    (s.reportSetpoints x p).now = s.now ∧ (s.reportSetpoints x p).pending = s.pending ∧
      (s.reportSetpoints x p).phase = s.phase ∧ (s.reportSetpoints x p).resetAt = s.resetAt ∧
      (s.reportSetpoints x p).supply = s.supply ∧ (s.reportSetpoints x p).retained = s.retained ∧
      (s.reportSetpoints x p).store = s.store ∧ (s.reportSetpoints x p).storeState = s.storeState ∧
      (s.reportSetpoints x p).saving = s.saving ∧ (s.reportSetpoints x p).tables = s.tables ∧
      (s.reportSetpoints x p).arbiter = s.arbiter ∧ (s.reportSetpoints x p).command = s.command ∧
      (s.reportSetpoints x p).computation = s.computation ∧ (s.reportSetpoints x p).channels = s.channels ∧
      (s.reportSetpoints x p).queue = s.queue ∧ (s.reportSetpoints x p).slotLimit = s.slotLimit ∧
      (s.reportSetpoints x p).homingDue = s.homingDue ∧ (s.reportSetpoints x p).links = s.links ∧
      (s.reportSetpoints x p).room = s.room ∧ (s.reportSetpoints x p).plant = s.plant ∧
      (s.reportSetpoints x p).relay = s.relay ∧ (s.reportSetpoints x p).decoder = s.decoder ∧
      (s.reportSetpoints x p).events = s.events := by
  unfold State.reportSetpoints
  (repeat' split) <;> simp

@[simp] theorem State.takeReport_frame (s : State) (x : Sender) (r : RoomReport) :
    (s.takeReport x r).now = s.now ∧ (s.takeReport x r).pending = s.pending ∧ (s.takeReport x r).phase = s.phase ∧
      (s.takeReport x r).resetAt = s.resetAt ∧ (s.takeReport x r).supply = s.supply ∧
      (s.takeReport x r).retained = s.retained ∧ (s.takeReport x r).store = s.store ∧
      (s.takeReport x r).storeState = s.storeState ∧ (s.takeReport x r).saving = s.saving ∧
      (s.takeReport x r).tables = s.tables ∧ (s.takeReport x r).arbiter = s.arbiter ∧
      (s.takeReport x r).command = s.command ∧ (s.takeReport x r).computation = s.computation ∧
      (s.takeReport x r).channels = s.channels ∧ (s.takeReport x r).queue = s.queue ∧
      (s.takeReport x r).slotLimit = s.slotLimit ∧ (s.takeReport x r).homingDue = s.homingDue ∧
      (s.takeReport x r).links = s.links ∧ (s.takeReport x r).room = s.room ∧ (s.takeReport x r).plant = s.plant ∧
      (s.takeReport x r).relay = s.relay ∧ (s.takeReport x r).decoder = s.decoder := by
  unfold State.takeReport
  (repeat' split) <;> simp

@[simp] theorem State.applyChange_frame (s : State) (x : Sender) (sc : Scope) (group : Nat) (p : Setpoints) :
    (s.applyChange x sc group p).now = s.now ∧ (s.applyChange x sc group p).pending = s.pending ∧
      (s.applyChange x sc group p).phase = s.phase ∧ (s.applyChange x sc group p).resetAt = s.resetAt ∧
      (s.applyChange x sc group p).supply = s.supply ∧ (s.applyChange x sc group p).retained = s.retained ∧
      (s.applyChange x sc group p).store = s.store ∧ (s.applyChange x sc group p).storeState = s.storeState ∧
      (s.applyChange x sc group p).saving = s.saving ∧ (s.applyChange x sc group p).tables = s.tables ∧
      (s.applyChange x sc group p).routes = s.routes ∧ (s.applyChange x sc group p).serviceHeld = s.serviceHeld ∧
      (s.applyChange x sc group p).arbiter = s.arbiter ∧ (s.applyChange x sc group p).command = s.command ∧
      (s.applyChange x sc group p).computation = s.computation ∧ (s.applyChange x sc group p).channels = s.channels ∧
      (s.applyChange x sc group p).queue = s.queue ∧ (s.applyChange x sc group p).slotLimit = s.slotLimit ∧
      (s.applyChange x sc group p).homingDue = s.homingDue ∧ (s.applyChange x sc group p).links = s.links ∧
      (s.applyChange x sc group p).room = s.room ∧ (s.applyChange x sc group p).plant = s.plant ∧
      (s.applyChange x sc group p).relay = s.relay ∧ (s.applyChange x sc group p).decoder = s.decoder ∧
      (s.applyChange x sc group p).events = s.events := by
  unfold State.applyChange
  (repeat' split) <;> simp

@[simp] theorem State.takeChange_frame (s : State) (x : Sender) (sc : Scope) (group : Nat) (p : Setpoints) :
    (s.takeChange x sc group p).now = s.now ∧ (s.takeChange x sc group p).pending = s.pending ∧
      (s.takeChange x sc group p).phase = s.phase ∧ (s.takeChange x sc group p).resetAt = s.resetAt ∧
      (s.takeChange x sc group p).supply = s.supply ∧ (s.takeChange x sc group p).retained = s.retained ∧
      (s.takeChange x sc group p).store = s.store ∧ (s.takeChange x sc group p).storeState = s.storeState ∧
      (s.takeChange x sc group p).saving = s.saving ∧ (s.takeChange x sc group p).tables = s.tables ∧
      (s.takeChange x sc group p).arbiter = s.arbiter ∧ (s.takeChange x sc group p).command = s.command ∧
      (s.takeChange x sc group p).computation = s.computation ∧ (s.takeChange x sc group p).channels = s.channels ∧
      (s.takeChange x sc group p).queue = s.queue ∧ (s.takeChange x sc group p).slotLimit = s.slotLimit ∧
      (s.takeChange x sc group p).homingDue = s.homingDue ∧ (s.takeChange x sc group p).links = s.links ∧
      (s.takeChange x sc group p).room = s.room ∧ (s.takeChange x sc group p).plant = s.plant ∧
      (s.takeChange x sc group p).relay = s.relay ∧ (s.takeChange x sc group p).decoder = s.decoder ∧
      (s.takeChange x sc group p).events = s.events := by
  simp [State.takeChange]

@[simp] theorem State.askPlant_frame (s : State) (x : Sender) (target item : Byte) (argument : BitVec 16) :
    (s.askPlant x target item argument).now = s.now ∧ (s.askPlant x target item argument).pending = s.pending ∧
      (s.askPlant x target item argument).phase = s.phase ∧ (s.askPlant x target item argument).resetAt = s.resetAt ∧
      (s.askPlant x target item argument).supply = s.supply ∧
      (s.askPlant x target item argument).retained = s.retained ∧
      (s.askPlant x target item argument).store = s.store ∧
      (s.askPlant x target item argument).storeState = s.storeState ∧
      (s.askPlant x target item argument).saving = s.saving ∧ (s.askPlant x target item argument).tables = s.tables ∧
      (s.askPlant x target item argument).zones = s.zones ∧ (s.askPlant x target item argument).arbiter = s.arbiter ∧
      (s.askPlant x target item argument).command = s.command ∧
      (s.askPlant x target item argument).computation = s.computation ∧
      (s.askPlant x target item argument).channels = s.channels ∧
      (s.askPlant x target item argument).queue = s.queue ∧
      (s.askPlant x target item argument).slotLimit = s.slotLimit ∧
      (s.askPlant x target item argument).homingDue = s.homingDue ∧
      (s.askPlant x target item argument).links = s.links ∧ (s.askPlant x target item argument).room = s.room ∧
      (s.askPlant x target item argument).plant = s.plant ∧ (s.askPlant x target item argument).decoder = s.decoder ∧
      (s.askPlant x target item argument).events = s.events := by
  unfold State.askPlant
  (repeat' split) <;> simp

end Sys2Proof.Machine
end

