-- ==== Sys2Proof/Laws/FrameManagement.lean ====
section
/-! SUPPORT. What the operations of table writes and management requests leave alone: for each operation, every field of State that it does not
write. -/

namespace Sys2Proof.Machine

@[simp] theorem State.refuse_state (s : State) (r : Result) : (s.refuse r).state = s := rfl

@[simp] theorem State.grant_state (s : State) (data : List Byte) : (s.grant data).state = s := rfl

/-- READ TABLE and READ STATE change nothing (R185, R186). -/
@[simp] theorem State.reads_state (s : State) (q : List Byte) :
    (s.readTable q).state = s ∧ (s.readState q).state = s := by
  refine ⟨?_, ?_⟩
  · simp only [State.readTable]; (repeat' split) <;> rfl
  · simp only [State.readState]; (repeat' split) <;> rfl

/-- IDENTIFY and RESTART change nothing when they are taken (R185, R189). -/
@[simp] theorem State.asks_state (s : State) : s.identify.state = s ∧ s.askRestart.state = s := by
  refine ⟨rfl, ?_⟩
  unfold State.askRestart
  split <;> rfl

@[simp] theorem State.loseSource_frame (s : State) (z : ZoneId) :
    (s.loseSource z).now = s.now ∧ (s.loseSource z).pending = s.pending ∧ (s.loseSource z).phase = s.phase ∧
      (s.loseSource z).resetAt = s.resetAt ∧ (s.loseSource z).supply = s.supply ∧
      (s.loseSource z).retained = s.retained ∧ (s.loseSource z).store = s.store ∧
      (s.loseSource z).storeState = s.storeState ∧ (s.loseSource z).saving = s.saving ∧
      (s.loseSource z).tables = s.tables ∧ (s.loseSource z).routes = s.routes ∧
      (s.loseSource z).serviceHeld = s.serviceHeld ∧ (s.loseSource z).arbiter = s.arbiter ∧
      (s.loseSource z).command = s.command ∧ (s.loseSource z).computation = s.computation ∧
      (s.loseSource z).channels = s.channels ∧ (s.loseSource z).queue = s.queue ∧
      (s.loseSource z).slotLimit = s.slotLimit ∧ (s.loseSource z).homingDue = s.homingDue ∧
      (s.loseSource z).links = s.links ∧ (s.loseSource z).room = s.room ∧ (s.loseSource z).plant = s.plant ∧
      (s.loseSource z).relay = s.relay ∧ (s.loseSource z).decoder = s.decoder := by
  simp [State.loseSource]

@[simp] theorem State.gainSource_frame (s : State) (z : ZoneId) :
    (s.gainSource z).now = s.now ∧ (s.gainSource z).pending = s.pending ∧ (s.gainSource z).phase = s.phase ∧
      (s.gainSource z).resetAt = s.resetAt ∧ (s.gainSource z).supply = s.supply ∧
      (s.gainSource z).retained = s.retained ∧ (s.gainSource z).store = s.store ∧
      (s.gainSource z).storeState = s.storeState ∧ (s.gainSource z).saving = s.saving ∧
      (s.gainSource z).tables = s.tables ∧ (s.gainSource z).routes = s.routes ∧
      (s.gainSource z).serviceHeld = s.serviceHeld ∧ (s.gainSource z).arbiter = s.arbiter ∧
      (s.gainSource z).command = s.command ∧ (s.gainSource z).computation = s.computation ∧
      (s.gainSource z).channels = s.channels ∧ (s.gainSource z).queue = s.queue ∧
      (s.gainSource z).slotLimit = s.slotLimit ∧ (s.gainSource z).homingDue = s.homingDue ∧
      (s.gainSource z).links = s.links ∧ (s.gainSource z).room = s.room ∧ (s.gainSource z).plant = s.plant ∧
      (s.gainSource z).relay = s.relay ∧ (s.gainSource z).decoder = s.decoder := by
  simp [State.gainSource]

@[simp] theorem State.reviewSources_frame (s : State) (old : Vector RouteCfg 16) (z : ZoneId) :
    (s.reviewSources old z).now = s.now ∧ (s.reviewSources old z).pending = s.pending ∧
      (s.reviewSources old z).phase = s.phase ∧ (s.reviewSources old z).resetAt = s.resetAt ∧
      (s.reviewSources old z).supply = s.supply ∧ (s.reviewSources old z).retained = s.retained ∧
      (s.reviewSources old z).store = s.store ∧ (s.reviewSources old z).storeState = s.storeState ∧
      (s.reviewSources old z).saving = s.saving ∧ (s.reviewSources old z).tables = s.tables ∧
      (s.reviewSources old z).routes = s.routes ∧ (s.reviewSources old z).serviceHeld = s.serviceHeld ∧
      (s.reviewSources old z).arbiter = s.arbiter ∧ (s.reviewSources old z).command = s.command ∧
      (s.reviewSources old z).computation = s.computation ∧ (s.reviewSources old z).channels = s.channels ∧
      (s.reviewSources old z).queue = s.queue ∧ (s.reviewSources old z).slotLimit = s.slotLimit ∧
      (s.reviewSources old z).homingDue = s.homingDue ∧ (s.reviewSources old z).links = s.links ∧
      (s.reviewSources old z).room = s.room ∧ (s.reviewSources old z).plant = s.plant ∧
      (s.reviewSources old z).relay = s.relay ∧ (s.reviewSources old z).decoder = s.decoder := by
  simp [State.reviewSources]

@[simp] theorem State.reviewPanel_frame (s : State) (old : Vector RouteCfg 16) (z : ZoneId) :
    (s.reviewPanel old z).now = s.now ∧ (s.reviewPanel old z).pending = s.pending ∧
      (s.reviewPanel old z).phase = s.phase ∧ (s.reviewPanel old z).resetAt = s.resetAt ∧
      (s.reviewPanel old z).supply = s.supply ∧ (s.reviewPanel old z).retained = s.retained ∧
      (s.reviewPanel old z).store = s.store ∧ (s.reviewPanel old z).storeState = s.storeState ∧
      (s.reviewPanel old z).saving = s.saving ∧ (s.reviewPanel old z).tables = s.tables ∧
      (s.reviewPanel old z).routes = s.routes ∧ (s.reviewPanel old z).serviceHeld = s.serviceHeld ∧
      (s.reviewPanel old z).arbiter = s.arbiter ∧ (s.reviewPanel old z).command = s.command ∧
      (s.reviewPanel old z).computation = s.computation ∧ (s.reviewPanel old z).channels = s.channels ∧
      (s.reviewPanel old z).queue = s.queue ∧ (s.reviewPanel old z).slotLimit = s.slotLimit ∧
      (s.reviewPanel old z).homingDue = s.homingDue ∧ (s.reviewPanel old z).links = s.links ∧
      (s.reviewPanel old z).room = s.room ∧ (s.reviewPanel old z).plant = s.plant ∧
      (s.reviewPanel old z).relay = s.relay ∧ (s.reviewPanel old z).decoder = s.decoder := by
  unfold State.reviewPanel
  dsimp only
  (repeat' split) <;> simp

@[simp] theorem State.reviewQueries_frame (s : State) (old : Vector RouteCfg 16) (i : RouteId) :
    (s.reviewQueries old i).now = s.now ∧ (s.reviewQueries old i).pending = s.pending ∧
      (s.reviewQueries old i).phase = s.phase ∧ (s.reviewQueries old i).resetAt = s.resetAt ∧
      (s.reviewQueries old i).supply = s.supply ∧ (s.reviewQueries old i).retained = s.retained ∧
      (s.reviewQueries old i).store = s.store ∧ (s.reviewQueries old i).storeState = s.storeState ∧
      (s.reviewQueries old i).saving = s.saving ∧ (s.reviewQueries old i).tables = s.tables ∧
      (s.reviewQueries old i).routes = s.routes ∧ (s.reviewQueries old i).serviceHeld = s.serviceHeld ∧
      (s.reviewQueries old i).zones = s.zones ∧ (s.reviewQueries old i).arbiter = s.arbiter ∧
      (s.reviewQueries old i).command = s.command ∧ (s.reviewQueries old i).computation = s.computation ∧
      (s.reviewQueries old i).channels = s.channels ∧ (s.reviewQueries old i).queue = s.queue ∧
      (s.reviewQueries old i).slotLimit = s.slotLimit ∧ (s.reviewQueries old i).homingDue = s.homingDue ∧
      (s.reviewQueries old i).links = s.links ∧ (s.reviewQueries old i).room = s.room ∧
      (s.reviewQueries old i).plant = s.plant ∧ (s.reviewQueries old i).decoder = s.decoder ∧
      (s.reviewQueries old i).events = s.events := by
  simp [State.reviewQueries]

@[simp] theorem State.routesWritten_frame (s : State) (v : Vector RouteCfg 16) :
    (s.routesWritten v).now = s.now ∧ (s.routesWritten v).pending = s.pending ∧ (s.routesWritten v).phase = s.phase ∧
      (s.routesWritten v).resetAt = s.resetAt ∧ (s.routesWritten v).supply = s.supply ∧
      (s.routesWritten v).retained = s.retained ∧ (s.routesWritten v).store = s.store ∧
      (s.routesWritten v).storeState = s.storeState ∧ (s.routesWritten v).saving = s.saving ∧
      (s.routesWritten v).serviceHeld = s.serviceHeld ∧ (s.routesWritten v).arbiter = s.arbiter ∧
      (s.routesWritten v).command = s.command ∧ (s.routesWritten v).computation = s.computation ∧
      (s.routesWritten v).channels = s.channels ∧ (s.routesWritten v).queue = s.queue ∧
      (s.routesWritten v).slotLimit = s.slotLimit ∧ (s.routesWritten v).homingDue = s.homingDue ∧
      (s.routesWritten v).links = s.links ∧ (s.routesWritten v).room = s.room ∧ (s.routesWritten v).plant = s.plant ∧
      (s.routesWritten v).decoder = s.decoder := by
  simp [State.routesWritten]

@[simp] theorem State.zonesWritten_frame (s : State) (start : Nat) (xs : List ZoneCfg) :
    (s.zonesWritten start xs).now = s.now ∧ (s.zonesWritten start xs).pending = s.pending ∧
      (s.zonesWritten start xs).phase = s.phase ∧ (s.zonesWritten start xs).resetAt = s.resetAt ∧
      (s.zonesWritten start xs).supply = s.supply ∧ (s.zonesWritten start xs).retained = s.retained ∧
      (s.zonesWritten start xs).store = s.store ∧ (s.zonesWritten start xs).storeState = s.storeState ∧
      (s.zonesWritten start xs).saving = s.saving ∧ (s.zonesWritten start xs).routes = s.routes ∧
      (s.zonesWritten start xs).serviceHeld = s.serviceHeld ∧ (s.zonesWritten start xs).arbiter = s.arbiter ∧
      (s.zonesWritten start xs).command = s.command ∧ (s.zonesWritten start xs).computation = s.computation ∧
      (s.zonesWritten start xs).channels = s.channels ∧ (s.zonesWritten start xs).queue = s.queue ∧
      (s.zonesWritten start xs).slotLimit = s.slotLimit ∧ (s.zonesWritten start xs).homingDue = s.homingDue ∧
      (s.zonesWritten start xs).links = s.links ∧ (s.zonesWritten start xs).room = s.room ∧
      (s.zonesWritten start xs).plant = s.plant ∧ (s.zonesWritten start xs).relay = s.relay ∧
      (s.zonesWritten start xs).decoder = s.decoder := by
  simp [State.zonesWritten]

@[simp] theorem State.dampersWritten_frame (s : State) (start : Nat) (xs : List DamperCfg) :
    (s.dampersWritten start xs).now = s.now ∧ (s.dampersWritten start xs).pending = s.pending ∧
      (s.dampersWritten start xs).phase = s.phase ∧ (s.dampersWritten start xs).resetAt = s.resetAt ∧
      (s.dampersWritten start xs).supply = s.supply ∧ (s.dampersWritten start xs).retained = s.retained ∧
      (s.dampersWritten start xs).store = s.store ∧ (s.dampersWritten start xs).storeState = s.storeState ∧
      (s.dampersWritten start xs).saving = s.saving ∧ (s.dampersWritten start xs).routes = s.routes ∧
      (s.dampersWritten start xs).serviceHeld = s.serviceHeld ∧ (s.dampersWritten start xs).zones = s.zones ∧
      (s.dampersWritten start xs).arbiter = s.arbiter ∧ (s.dampersWritten start xs).command = s.command ∧
      (s.dampersWritten start xs).computation = s.computation ∧ (s.dampersWritten start xs).homingDue = s.homingDue ∧
      (s.dampersWritten start xs).links = s.links ∧ (s.dampersWritten start xs).room = s.room ∧
      (s.dampersWritten start xs).plant = s.plant ∧ (s.dampersWritten start xs).relay = s.relay ∧
      (s.dampersWritten start xs).decoder = s.decoder ∧ (s.dampersWritten start xs).events = s.events := by
  simp [State.dampersWritten]

@[simp] theorem State.profileWritten_frame (s : State) (p : Profile) :
    (s.profileWritten p).now = s.now ∧ (s.profileWritten p).pending = s.pending ∧
      (s.profileWritten p).phase = s.phase ∧ (s.profileWritten p).resetAt = s.resetAt ∧
      (s.profileWritten p).supply = s.supply ∧ (s.profileWritten p).retained = s.retained ∧
      (s.profileWritten p).store = s.store ∧ (s.profileWritten p).storeState = s.storeState ∧
      (s.profileWritten p).saving = s.saving ∧ (s.profileWritten p).routes = s.routes ∧
      (s.profileWritten p).serviceHeld = s.serviceHeld ∧ (s.profileWritten p).zones = s.zones ∧
      (s.profileWritten p).arbiter = s.arbiter ∧ (s.profileWritten p).command = s.command ∧
      (s.profileWritten p).computation = s.computation ∧ (s.profileWritten p).homingDue = s.homingDue ∧
      (s.profileWritten p).links = s.links ∧ (s.profileWritten p).room = s.room ∧
      (s.profileWritten p).plant = s.plant ∧ (s.profileWritten p).relay = s.relay ∧
      (s.profileWritten p).decoder = s.decoder ∧ (s.profileWritten p).events = s.events := by
  simp [State.profileWritten]

@[simp] theorem State.writeRecords_frame (s : State) (k : Table) (start count : Nat) (head records : List Byte) :
    (s.writeRecords k start count head records).state.now = s.now ∧
      (s.writeRecords k start count head records).state.pending = s.pending ∧
      (s.writeRecords k start count head records).state.phase = s.phase ∧
      (s.writeRecords k start count head records).state.resetAt = s.resetAt ∧
      (s.writeRecords k start count head records).state.supply = s.supply ∧
      (s.writeRecords k start count head records).state.retained = s.retained ∧
      (s.writeRecords k start count head records).state.store = s.store ∧
      (s.writeRecords k start count head records).state.storeState = s.storeState ∧
      (s.writeRecords k start count head records).state.saving = s.saving ∧
      (s.writeRecords k start count head records).state.serviceHeld = s.serviceHeld ∧
      (s.writeRecords k start count head records).state.arbiter = s.arbiter ∧
      (s.writeRecords k start count head records).state.command = s.command ∧
      (s.writeRecords k start count head records).state.computation = s.computation ∧
      (s.writeRecords k start count head records).state.homingDue = s.homingDue ∧
      (s.writeRecords k start count head records).state.links = s.links ∧
      (s.writeRecords k start count head records).state.room = s.room ∧
      (s.writeRecords k start count head records).state.plant = s.plant ∧
      (s.writeRecords k start count head records).state.decoder = s.decoder := by
  unfold State.writeRecords
  dsimp only
  (repeat' split) <;> simp

@[simp] theorem State.writeTable_frame (s : State) (q : List Byte) :
    (s.writeTable q).state.now = s.now ∧ (s.writeTable q).state.pending = s.pending ∧
      (s.writeTable q).state.phase = s.phase ∧ (s.writeTable q).state.resetAt = s.resetAt ∧
      (s.writeTable q).state.supply = s.supply ∧ (s.writeTable q).state.retained = s.retained ∧
      (s.writeTable q).state.store = s.store ∧ (s.writeTable q).state.storeState = s.storeState ∧
      (s.writeTable q).state.saving = s.saving ∧ (s.writeTable q).state.serviceHeld = s.serviceHeld ∧
      (s.writeTable q).state.arbiter = s.arbiter ∧ (s.writeTable q).state.command = s.command ∧
      (s.writeTable q).state.computation = s.computation ∧ (s.writeTable q).state.homingDue = s.homingDue ∧
      (s.writeTable q).state.links = s.links ∧ (s.writeTable q).state.room = s.room ∧
      (s.writeTable q).state.plant = s.plant ∧ (s.writeTable q).state.decoder = s.decoder := by
  unfold State.writeTable
  dsimp only
  (repeat' split) <;> simp

@[simp] theorem State.saveTables_frame (s : State) :
    (s.saveTables).state.now = s.now ∧ (s.saveTables).state.pending = s.pending ∧
      (s.saveTables).state.phase = s.phase ∧ (s.saveTables).state.resetAt = s.resetAt ∧
      (s.saveTables).state.supply = s.supply ∧ (s.saveTables).state.retained = s.retained ∧
      (s.saveTables).state.store = s.store ∧ (s.saveTables).state.tables = s.tables ∧
      (s.saveTables).state.routes = s.routes ∧ (s.saveTables).state.serviceHeld = s.serviceHeld ∧
      (s.saveTables).state.zones = s.zones ∧ (s.saveTables).state.arbiter = s.arbiter ∧
      (s.saveTables).state.command = s.command ∧ (s.saveTables).state.computation = s.computation ∧
      (s.saveTables).state.channels = s.channels ∧ (s.saveTables).state.queue = s.queue ∧
      (s.saveTables).state.slotLimit = s.slotLimit ∧ (s.saveTables).state.homingDue = s.homingDue ∧
      (s.saveTables).state.links = s.links ∧ (s.saveTables).state.room = s.room ∧
      (s.saveTables).state.plant = s.plant ∧ (s.saveTables).state.relay = s.relay ∧
      (s.saveTables).state.decoder = s.decoder ∧ (s.saveTables).state.events = s.events := by
  unfold State.saveTables
  (repeat' split) <;> simp

@[simp] theorem State.saveDone_frame (s : State) (t : Tables) :
    (s.saveDone t).now = s.now ∧ (s.saveDone t).pending = s.pending ∧ (s.saveDone t).phase = s.phase ∧
      (s.saveDone t).resetAt = s.resetAt ∧ (s.saveDone t).supply = s.supply ∧ (s.saveDone t).retained = s.retained ∧
      (s.saveDone t).tables = s.tables ∧ (s.saveDone t).routes = s.routes ∧
      (s.saveDone t).serviceHeld = s.serviceHeld ∧ (s.saveDone t).zones = s.zones ∧
      (s.saveDone t).computation = s.computation ∧ (s.saveDone t).channels = s.channels ∧
      (s.saveDone t).queue = s.queue ∧ (s.saveDone t).slotLimit = s.slotLimit ∧
      (s.saveDone t).homingDue = s.homingDue ∧ (s.saveDone t).room = s.room ∧ (s.saveDone t).plant = s.plant ∧
      (s.saveDone t).decoder = s.decoder := by
  simp [State.saveDone]

@[simp] theorem State.saveFailed_frame (s : State) :
    (s.saveFailed).now = s.now ∧ (s.saveFailed).pending = s.pending ∧ (s.saveFailed).phase = s.phase ∧
      (s.saveFailed).resetAt = s.resetAt ∧ (s.saveFailed).supply = s.supply ∧ (s.saveFailed).retained = s.retained ∧
      (s.saveFailed).tables = s.tables ∧ (s.saveFailed).routes = s.routes ∧
      (s.saveFailed).serviceHeld = s.serviceHeld ∧ (s.saveFailed).zones = s.zones ∧
      (s.saveFailed).arbiter = s.arbiter ∧ (s.saveFailed).command = s.command ∧
      (s.saveFailed).computation = s.computation ∧ (s.saveFailed).channels = s.channels ∧
      (s.saveFailed).queue = s.queue ∧ (s.saveFailed).slotLimit = s.slotLimit ∧
      (s.saveFailed).homingDue = s.homingDue ∧ (s.saveFailed).links = s.links ∧ (s.saveFailed).room = s.room ∧
      (s.saveFailed).plant = s.plant ∧ (s.saveFailed).relay = s.relay ∧ (s.saveFailed).decoder = s.decoder := by
  simp [State.saveFailed]

@[simp] theorem State.endSave_frame (s : State) (agrees : Bool) :
    (s.endSave agrees).now = s.now ∧ (s.endSave agrees).pending = s.pending ∧ (s.endSave agrees).phase = s.phase ∧
      (s.endSave agrees).resetAt = s.resetAt ∧ (s.endSave agrees).supply = s.supply ∧
      (s.endSave agrees).retained = s.retained ∧ (s.endSave agrees).tables = s.tables ∧
      (s.endSave agrees).routes = s.routes ∧ (s.endSave agrees).serviceHeld = s.serviceHeld ∧
      (s.endSave agrees).zones = s.zones ∧ (s.endSave agrees).computation = s.computation ∧
      (s.endSave agrees).channels = s.channels ∧ (s.endSave agrees).queue = s.queue ∧
      (s.endSave agrees).slotLimit = s.slotLimit ∧ (s.endSave agrees).homingDue = s.homingDue ∧
      (s.endSave agrees).room = s.room ∧ (s.endSave agrees).plant = s.plant ∧ (s.endSave agrees).decoder = s.decoder := by
  unfold State.endSave
  (repeat' split) <;> simp

@[simp] theorem State.clearEvents_frame (s : State) (q : List Byte) :
    (s.clearEvents q).state.now = s.now ∧ (s.clearEvents q).state.pending = s.pending ∧
      (s.clearEvents q).state.phase = s.phase ∧ (s.clearEvents q).state.resetAt = s.resetAt ∧
      (s.clearEvents q).state.supply = s.supply ∧ (s.clearEvents q).state.retained = s.retained ∧
      (s.clearEvents q).state.store = s.store ∧ (s.clearEvents q).state.storeState = s.storeState ∧
      (s.clearEvents q).state.saving = s.saving ∧ (s.clearEvents q).state.tables = s.tables ∧
      (s.clearEvents q).state.routes = s.routes ∧ (s.clearEvents q).state.serviceHeld = s.serviceHeld ∧
      (s.clearEvents q).state.zones = s.zones ∧ (s.clearEvents q).state.arbiter = s.arbiter ∧
      (s.clearEvents q).state.command = s.command ∧ (s.clearEvents q).state.computation = s.computation ∧
      (s.clearEvents q).state.channels = s.channels ∧ (s.clearEvents q).state.queue = s.queue ∧
      (s.clearEvents q).state.slotLimit = s.slotLimit ∧ (s.clearEvents q).state.homingDue = s.homingDue ∧
      (s.clearEvents q).state.links = s.links ∧ (s.clearEvents q).state.room = s.room ∧
      (s.clearEvents q).state.plant = s.plant ∧ (s.clearEvents q).state.relay = s.relay ∧
      (s.clearEvents q).state.decoder = s.decoder := by
  unfold State.clearEvents
  dsimp only
  (repeat' split) <;> simp

@[simp] theorem State.clearLatch_frame (s : State) :
    (s.clearLatch).now = s.now ∧ (s.clearLatch).pending = s.pending ∧ (s.clearLatch).phase = s.phase ∧
      (s.clearLatch).resetAt = s.resetAt ∧ (s.clearLatch).retained = s.retained ∧ (s.clearLatch).store = s.store ∧
      (s.clearLatch).storeState = s.storeState ∧ (s.clearLatch).saving = s.saving ∧
      (s.clearLatch).tables = s.tables ∧ (s.clearLatch).routes = s.routes ∧
      (s.clearLatch).serviceHeld = s.serviceHeld ∧ (s.clearLatch).zones = s.zones ∧
      (s.clearLatch).computation = s.computation ∧ (s.clearLatch).homingDue = s.homingDue ∧
      (s.clearLatch).room = s.room ∧ (s.clearLatch).plant = s.plant ∧ (s.clearLatch).decoder = s.decoder := by
  simp [State.clearLatch]

@[simp] theorem State.clearShutdown_frame (s : State) :
    (s.clearShutdown).state.now = s.now ∧ (s.clearShutdown).state.pending = s.pending ∧
      (s.clearShutdown).state.phase = s.phase ∧ (s.clearShutdown).state.resetAt = s.resetAt ∧
      (s.clearShutdown).state.retained = s.retained ∧ (s.clearShutdown).state.store = s.store ∧
      (s.clearShutdown).state.storeState = s.storeState ∧ (s.clearShutdown).state.saving = s.saving ∧
      (s.clearShutdown).state.tables = s.tables ∧ (s.clearShutdown).state.routes = s.routes ∧
      (s.clearShutdown).state.serviceHeld = s.serviceHeld ∧ (s.clearShutdown).state.zones = s.zones ∧
      (s.clearShutdown).state.computation = s.computation ∧ (s.clearShutdown).state.homingDue = s.homingDue ∧
      (s.clearShutdown).state.room = s.room ∧ (s.clearShutdown).state.plant = s.plant ∧
      (s.clearShutdown).state.decoder = s.decoder := by
  unfold State.clearShutdown
  (repeat' split) <;> simp

@[simp] theorem State.releaseDamper_frame (s : State) (q : List Byte) :
    (s.releaseDamper q).state.now = s.now ∧ (s.releaseDamper q).state.pending = s.pending ∧
      (s.releaseDamper q).state.phase = s.phase ∧ (s.releaseDamper q).state.resetAt = s.resetAt ∧
      (s.releaseDamper q).state.supply = s.supply ∧ (s.releaseDamper q).state.retained = s.retained ∧
      (s.releaseDamper q).state.store = s.store ∧ (s.releaseDamper q).state.storeState = s.storeState ∧
      (s.releaseDamper q).state.saving = s.saving ∧ (s.releaseDamper q).state.tables = s.tables ∧
      (s.releaseDamper q).state.routes = s.routes ∧ (s.releaseDamper q).state.serviceHeld = s.serviceHeld ∧
      (s.releaseDamper q).state.arbiter = s.arbiter ∧ (s.releaseDamper q).state.command = s.command ∧
      (s.releaseDamper q).state.computation = s.computation ∧ (s.releaseDamper q).state.homingDue = s.homingDue ∧
      (s.releaseDamper q).state.links = s.links ∧ (s.releaseDamper q).state.room = s.room ∧
      (s.releaseDamper q).state.plant = s.plant ∧ (s.releaseDamper q).state.relay = s.relay ∧
      (s.releaseDamper q).state.decoder = s.decoder ∧ (s.releaseDamper q).state.events = s.events := by
  unfold State.releaseDamper
  (repeat' split) <;> simp

@[simp] theorem State.clearCounters_frame (s : State) :
    (s.clearCounters).state.now = s.now ∧ (s.clearCounters).state.pending = s.pending ∧
      (s.clearCounters).state.phase = s.phase ∧ (s.clearCounters).state.resetAt = s.resetAt ∧
      (s.clearCounters).state.supply = s.supply ∧ (s.clearCounters).state.retained = s.retained ∧
      (s.clearCounters).state.store = s.store ∧ (s.clearCounters).state.storeState = s.storeState ∧
      (s.clearCounters).state.saving = s.saving ∧ (s.clearCounters).state.tables = s.tables ∧
      (s.clearCounters).state.routes = s.routes ∧ (s.clearCounters).state.serviceHeld = s.serviceHeld ∧
      (s.clearCounters).state.zones = s.zones ∧ (s.clearCounters).state.arbiter = s.arbiter ∧
      (s.clearCounters).state.command = s.command ∧ (s.clearCounters).state.computation = s.computation ∧
      (s.clearCounters).state.channels = s.channels ∧ (s.clearCounters).state.queue = s.queue ∧
      (s.clearCounters).state.slotLimit = s.slotLimit ∧ (s.clearCounters).state.homingDue = s.homingDue ∧
      (s.clearCounters).state.events = s.events := by
  simp [State.clearCounters]

@[simp] theorem State.perform_frame (s : State) (r : Request) (q : List Byte) :
    (s.perform r q).state.now = s.now ∧ (s.perform r q).state.pending = s.pending ∧
      (s.perform r q).state.phase = s.phase ∧ (s.perform r q).state.resetAt = s.resetAt ∧
      (s.perform r q).state.retained = s.retained ∧ (s.perform r q).state.store = s.store ∧
      (s.perform r q).state.serviceHeld = s.serviceHeld ∧ (s.perform r q).state.computation = s.computation ∧
      (s.perform r q).state.homingDue = s.homingDue := by
  cases r <;> simp [State.perform]

@[simp] theorem State.manage_frame (s : State) (x : Sender) (code : Byte) (q : List Byte) :
    (s.manage x code q).state.now = s.now ∧ (s.manage x code q).state.pending = s.pending ∧
      (s.manage x code q).state.phase = s.phase ∧ (s.manage x code q).state.resetAt = s.resetAt ∧
      (s.manage x code q).state.retained = s.retained ∧ (s.manage x code q).state.store = s.store ∧
      (s.manage x code q).state.serviceHeld = s.serviceHeld ∧ (s.manage x code q).state.computation = s.computation ∧
      (s.manage x code q).state.homingDue = s.homingDue := by
  unfold State.manage
  (repeat' split) <;> simp

@[simp] theorem State.sendAnswer_frame (s : State) (a : Byte) (code : Byte) (r : Result) (data : List Byte) :
    (s.sendAnswer a code r data).now = s.now ∧ (s.sendAnswer a code r data).pending = s.pending ∧
      (s.sendAnswer a code r data).phase = s.phase ∧ (s.sendAnswer a code r data).resetAt = s.resetAt ∧
      (s.sendAnswer a code r data).supply = s.supply ∧ (s.sendAnswer a code r data).retained = s.retained ∧
      (s.sendAnswer a code r data).store = s.store ∧ (s.sendAnswer a code r data).storeState = s.storeState ∧
      (s.sendAnswer a code r data).saving = s.saving ∧ (s.sendAnswer a code r data).tables = s.tables ∧
      (s.sendAnswer a code r data).routes = s.routes ∧ (s.sendAnswer a code r data).serviceHeld = s.serviceHeld ∧
      (s.sendAnswer a code r data).zones = s.zones ∧ (s.sendAnswer a code r data).arbiter = s.arbiter ∧
      (s.sendAnswer a code r data).command = s.command ∧ (s.sendAnswer a code r data).computation = s.computation ∧
      (s.sendAnswer a code r data).channels = s.channels ∧ (s.sendAnswer a code r data).queue = s.queue ∧
      (s.sendAnswer a code r data).slotLimit = s.slotLimit ∧ (s.sendAnswer a code r data).homingDue = s.homingDue ∧
      (s.sendAnswer a code r data).links = s.links ∧ (s.sendAnswer a code r data).plant = s.plant ∧
      (s.sendAnswer a code r data).relay = s.relay ∧ (s.sendAnswer a code r data).decoder = s.decoder ∧
      (s.sendAnswer a code r data).events = s.events := by
  simp [State.sendAnswer]

@[simp] theorem State.takeRequest_frame (s : State) (x : Sender) (code : Byte) (q : List Byte) :
    (s.takeRequest x code q).now = s.now ∧ (s.takeRequest x code q).pending = s.pending ∧
      (s.takeRequest x code q).phase = s.phase ∧ (s.takeRequest x code q).resetAt = s.resetAt ∧
      (s.takeRequest x code q).retained = s.retained ∧ (s.takeRequest x code q).store = s.store ∧
      (s.takeRequest x code q).serviceHeld = s.serviceHeld ∧ (s.takeRequest x code q).computation = s.computation ∧
      (s.takeRequest x code q).homingDue = s.homingDue := by
  simp [State.takeRequest]

@[simp] theorem State.takeReply_frame (s : State) (x : Sender) (cls : Byte) (p : List Byte) :
    (s.takeReply x cls p).now = s.now ∧ (s.takeReply x cls p).pending = s.pending ∧
      (s.takeReply x cls p).phase = s.phase ∧ (s.takeReply x cls p).resetAt = s.resetAt ∧
      (s.takeReply x cls p).retained = s.retained ∧ (s.takeReply x cls p).store = s.store ∧
      (s.takeReply x cls p).computation = s.computation ∧ (s.takeReply x cls p).homingDue = s.homingDue := by
  simp [State.takeReply]

@[simp] theorem State.roomAnswered_frame (s : State) (cls : Byte) (p : List Byte) :
    (s.roomAnswered cls p).now = s.now ∧ (s.roomAnswered cls p).pending = s.pending ∧
      (s.roomAnswered cls p).phase = s.phase ∧ (s.roomAnswered cls p).resetAt = s.resetAt ∧
      (s.roomAnswered cls p).retained = s.retained ∧ (s.roomAnswered cls p).store = s.store ∧
      (s.roomAnswered cls p).computation = s.computation ∧ (s.roomAnswered cls p).homingDue = s.homingDue := by
  unfold State.roomAnswered
  dsimp only
  (repeat' split) <;> simp

@[simp] theorem State.countRoom_frame (s : State) (v : Verdict) :
    (s.countRoom v).now = s.now ∧ (s.countRoom v).pending = s.pending ∧ (s.countRoom v).phase = s.phase ∧
      (s.countRoom v).resetAt = s.resetAt ∧ (s.countRoom v).supply = s.supply ∧
      (s.countRoom v).retained = s.retained ∧ (s.countRoom v).store = s.store ∧
      (s.countRoom v).storeState = s.storeState ∧ (s.countRoom v).saving = s.saving ∧
      (s.countRoom v).tables = s.tables ∧ (s.countRoom v).routes = s.routes ∧
      (s.countRoom v).serviceHeld = s.serviceHeld ∧ (s.countRoom v).zones = s.zones ∧
      (s.countRoom v).arbiter = s.arbiter ∧ (s.countRoom v).command = s.command ∧
      (s.countRoom v).computation = s.computation ∧ (s.countRoom v).channels = s.channels ∧
      (s.countRoom v).queue = s.queue ∧ (s.countRoom v).slotLimit = s.slotLimit ∧
      (s.countRoom v).homingDue = s.homingDue ∧ (s.countRoom v).links = s.links ∧ (s.countRoom v).plant = s.plant ∧
      (s.countRoom v).relay = s.relay ∧ (s.countRoom v).decoder = s.decoder ∧ (s.countRoom v).events = s.events := by
  simp [State.countRoom]

@[simp] theorem State.judgeRoom_frame (s : State) (b : Burst) :
    (s.judgeRoom b).now = s.now ∧ (s.judgeRoom b).pending = s.pending ∧ (s.judgeRoom b).phase = s.phase ∧
      (s.judgeRoom b).resetAt = s.resetAt ∧ (s.judgeRoom b).retained = s.retained ∧ (s.judgeRoom b).store = s.store ∧
      (s.judgeRoom b).computation = s.computation ∧ (s.judgeRoom b).homingDue = s.homingDue := by
  unfold State.judgeRoom
  dsimp only
  (repeat' split) <;> simp

@[simp] theorem State.receiveRoom_frame (s : State) (b : Burst) :
    (s.receiveRoom b).now = s.now ∧ (s.receiveRoom b).pending = s.pending ∧ (s.receiveRoom b).phase = s.phase ∧
      (s.receiveRoom b).resetAt = s.resetAt ∧ (s.receiveRoom b).retained = s.retained ∧
      (s.receiveRoom b).store = s.store ∧ (s.receiveRoom b).computation = s.computation ∧
      (s.receiveRoom b).homingDue = s.homingDue := by
  unfold State.receiveRoom
  generalize heard b s.now s.room.frames = bs
  induction bs generalizing s with
  | nil => simp
  | cons b bs ih => simp [ih (s.judgeRoom b)]

@[simp] theorem State.roomTimeout_frame (s : State) :
    (s.roomTimeout).now = s.now ∧ (s.roomTimeout).pending = s.pending ∧ (s.roomTimeout).phase = s.phase ∧
      (s.roomTimeout).resetAt = s.resetAt ∧ (s.roomTimeout).supply = s.supply ∧
      (s.roomTimeout).retained = s.retained ∧ (s.roomTimeout).store = s.store ∧
      (s.roomTimeout).storeState = s.storeState ∧ (s.roomTimeout).saving = s.saving ∧
      (s.roomTimeout).tables = s.tables ∧ (s.roomTimeout).serviceHeld = s.serviceHeld ∧
      (s.roomTimeout).zones = s.zones ∧ (s.roomTimeout).arbiter = s.arbiter ∧ (s.roomTimeout).command = s.command ∧
      (s.roomTimeout).computation = s.computation ∧ (s.roomTimeout).channels = s.channels ∧
      (s.roomTimeout).queue = s.queue ∧ (s.roomTimeout).slotLimit = s.slotLimit ∧
      (s.roomTimeout).homingDue = s.homingDue ∧ (s.roomTimeout).links = s.links ∧ (s.roomTimeout).plant = s.plant ∧
      (s.roomTimeout).relay = s.relay ∧ (s.roomTimeout).decoder = s.decoder := by
  simp [State.roomTimeout]

end Sys2Proof.Machine
end

