-- ==== Sys2Proof/Laws/Bursts.lean ====
section
/-! SUPPORT. What a port hears of what its line brings (R103, R107), and which channels come to join at a moment (R82). -/

namespace Sys2Proof.Machine

/-! ### The serial form (R103) -/

/-- A byte sent is the byte received. -/
@[simp] theorem dataBits_serial (b : Byte) : dataBits (serial b) = b := by
  apply BitVec.eq_of_getLsbD_eq
  intro i hi
  simp only [dataBits, serial, BitVec.getLsbD_extractLsb', BitVec.getLsbD_append]
  have h1 : ¬1 + i < 1 := by omega
  have h2 : 1 + i - 1 = i := by omega
  simp [hi, h1, h2]

@[simp] theorem map_dataBits_wire (bs : List Byte) : (wire bs).map dataBits = bs := by
  simp [wire, Function.comp_def]

@[simp] theorem length_wire (bs : List Byte) : (wire bs).length = bs.length := by simp [wire]

/-! ### Cutting (R103) -/

/-- Bytes of which none is lost and no two are parted are one burst. -/
theorem cutBursts_one (lost : LineByte → Bool) (parted : LineByte → LineByte → Bool) (p : List LineByte) (hp : p ≠ [])
    (hl : ∀ c ∈ p, lost c = false) (hg : p.IsChain fun c d => parted c d = false) : cutBursts lost parted p = [p] := by
  induction p with
  | nil => exact absurd rfl hp
  | cons c p ih =>
    cases p with
    | nil => simp [cutBursts, hl c]
    | cons d p =>
      rw [List.isChain_cons_cons] at hg
      have hcut := ih (by simp) (fun x hx => hl x (List.mem_cons_of_mem _ hx)) hg.2
      rw [cutBursts, hcut]
      simp [hl c (by simp), hl d (by simp), hg.1, joinFirst]

/-- Bytes lost leave no burst. -/
theorem cutBursts_lost (lost : LineByte → Bool) (parted : LineByte → LineByte → Bool) (m q : List LineByte)
    (h : ∀ c ∈ m, lost c = true) : cutBursts lost parted (m ++ q) = cutBursts lost parted q := by
  induction m with
  | nil => rfl
  | cons c m ih =>
    rw [← ih fun x hx => h x (List.mem_cons_of_mem _ hx), List.cons_append]
    simp [cutBursts, h c]

/-- A byte that is not lost belongs to a burst. -/
theorem cutBursts_ne_nil (lost : LineByte → Bool) (parted : LineByte → LineByte → Bool) (c : LineByte) (p : List LineByte)
    (h : lost c = false) : cutBursts lost parted (c :: p) ≠ [] := by
  cases p with
  | nil => simp [cutBursts, h]
  | cons d p =>
    rw [cutBursts]
    simp only [h, Bool.false_eq_true, if_false]
    split
    · simp
    · cases cutBursts lost parted (d :: p) <;> simp [joinFirst]

/-- The bytes before and after two that are parted, or of which one is lost, are cut on their own. -/
theorem cutBursts_append (lost : LineByte → Bool) (parted : LineByte → LineByte → Bool) (p q : List LineByte) (c d : LineByte)
    (h : parted c d = true ∨ lost d = true) :
    cutBursts lost parted (p ++ [c] ++ d :: q) = cutBursts lost parted (p ++ [c]) ++ cutBursts lost parted (d :: q) := by
  induction p with
  | nil => by_cases hc : lost c <;> rcases h with h | h <;> simp [cutBursts, h, hc]
  | cons a p ih =>
    cases p with
    | nil =>
      simp only [List.nil_append, List.cons_append] at ih ⊢
      rw [cutBursts, ih]
      by_cases ha : lost a <;> by_cases hc : lost c <;> by_cases hg : parted a c <;>
        simp [cutBursts, ha, hc, hg, joinFirst]
    | cons e p =>
      simp only [List.cons_append] at ih ⊢
      rw [cutBursts, ih]
      conv_rhs => rw [cutBursts]
      by_cases ha : lost a
      · simp [ha]
      · by_cases he : lost e || parted a e
        · simp [ha, he]
        · simp only [ha, he, Bool.false_eq_true, if_false]
          generalize hx : cutBursts lost parted (e :: (p ++ [c])) = x
          cases x with
          | cons y ys => simp [joinFirst]
          | nil =>
            rw [Bool.or_eq_true, not_or] at he
            exact absurd hx (cutBursts_ne_nil lost parted e _ (by simpa using he.1))

/-- The bytes before and after some that are lost are cut on their own. -/
theorem cutBursts_around (lost : LineByte → Bool) (parted : LineByte → LineByte → Bool) (p m q : List LineByte) (c : LineByte)
    (hm : m ≠ []) (h : ∀ x ∈ m, lost x = true) :
    cutBursts lost parted (p ++ [c] ++ m ++ q) = cutBursts lost parted (p ++ [c]) ++ cutBursts lost parted q := by
  cases m with
  | nil => exact absurd rfl hm
  | cons d m =>
    rw [List.append_assoc, List.cons_append, cutBursts_append _ _ _ _ _ _ (Or.inr (h d (by simp))), ← List.cons_append,
      cutBursts_lost _ _ _ _ h]

/-! ### Hearing (R107) -/

/-- A frame of the port takes a byte away unless it is clear of it. -/
theorem OwnFrame.covers_iff (f : OwnFrame) (now : Time) (c : LineByte) : f.covers now c = true ↔ ¬Clear f now c := by
  have h : f.covers now c = true ↔ @LT.lt Nat _ (now - c.age) f.stop ∧ @LT.lt Nat _ f.start (now - c.age + 25) := by
    rw [OwnFrame.covers, Bool.and_eq_true, decide_eq_true_eq, decide_eq_true_eq]
    exact Iff.rfl
  rw [h, Clear, not_or, Nat.not_le, Nat.not_le]
  exact and_comm

/-- A frame of the port lies between two bytes. -/
theorem OwnFrame.parts_iff (f : OwnFrame) (now : Time) (c d : LineByte) :
    f.parts now c d = true ↔ now - c.age + 25 ≤ f.start ∧ f.stop ≤ now - d.age := by
  rw [OwnFrame.parts, Bool.and_eq_true, decide_eq_true_eq, decide_eq_true_eq]
  exact Iff.rfl

/-- A byte is lost exactly when some frame of the port is not clear of it. -/
theorem lostUnder_iff (now : Time) (frames : List OwnFrame) (c : LineByte) :
    lostUnder now frames c = true ↔ ∃ f ∈ frames, ¬Clear f now c := by
  simp only [lostUnder, List.any_eq_true, OwnFrame.covers_iff]

/-- Two bytes are parted exactly by 4 ms of silence or by a frame of the port between them. -/
theorem partedBy_iff (now : Time) (frames : List OwnFrame) (c d : LineByte) :
    partedBy now frames c d = true ↔
      d.age + 25 + ms 4 ≤ c.age ∨ ∃ f ∈ frames, now - c.age + 25 ≤ f.start ∧ f.stop ≤ now - d.age := by
  simp only [partedBy, Bool.or_eq_true, List.any_eq_true, OwnFrame.parts_iff, gapBetween, decide_eq_true_eq]
  exact Iff.rfl

/-- A frame does not end before it begins. -/
theorem OwnFrame.start_le_stop (f : OwnFrame) : @LE.le Nat _ f.start f.stop := Nat.le_add_right _ _

/-- Within one burst no byte begins before the first. -/
theorem age_le_of_gapsFit (c : LineByte) (p : List LineByte) (h : gapsFit (c :: p) = true) :
    ∀ d ∈ c :: p, d.age ≤ c.age := by
  induction p generalizing c with
  | nil => simp
  | cons e p ih =>
    simp only [gapsFit, Bool.and_eq_true, decide_eq_true_eq] at h
    intro d hd
    rcases List.mem_cons.1 hd with rfl | hd
    · exact Nat.le_refl _
    · have := ih e h.2 d hd
      omega

/-- No byte of one burst begins before the burst. -/
theorem age_le_of_wf {b : Burst} (h : b.wf = true) : ∀ c ∈ b.chars, c.age ≤ b.age := by
  simp only [Burst.wf, Bool.and_eq_true] at h
  cases hb : b.chars with
  | nil => simp
  | cons d p =>
    rw [hb] at h
    simpa [Burst.age, hb] using age_le_of_gapsFit d p h.1.2

/-- Bytes that leave no silence of 4 ms between them are not parted by frames that ended before they began. -/
theorem chain_of_gapsFit (now : Time) (frames : List OwnFrame) (p : List LineByte) (hg : gapsFit p = true)
    (h : ∀ c ∈ p, ∀ f ∈ frames, @LE.le Nat _ f.stop (now - c.age)) :
    p.IsChain fun c d => partedBy now frames c d = false := by
  induction p with
  | nil => exact .nil
  | cons c p ih =>
    cases p with
    | nil => exact .singleton c
    | cons d p =>
      simp only [gapsFit, Bool.and_eq_true, decide_eq_true_eq] at hg
      refine List.isChain_cons_cons.2 ⟨?_, ih hg.2 fun x hx => h x (List.mem_cons_of_mem _ hx)⟩
      rw [← Bool.not_eq_true, partedBy_iff, ms]
      rintro (hgap | ⟨f, hf, h1, -⟩)
      · have := hg.1
        omega
      · exact absurd (Nat.le_trans (Nat.le_trans f.start_le_stop (h c (by simp) f hf)) (Nat.le_refl _))
          (Nat.not_le.2 (Nat.lt_of_lt_of_le (Nat.lt_add_of_pos_right (by decide)) h1))

/-- The bytes of one burst that begins when the port's own frames have ended are neither lost nor parted. -/
theorem kept_of_arrives {b : Burst} {now : Time} {frames : List OwnFrame} (h : Arrives b now frames) :
    (∀ c ∈ b.chars, lostUnder now frames c = false) ∧ b.chars.IsChain fun c d => partedBy now frames c d = false := by
  have hstart : ∀ c ∈ b.chars, ∀ f ∈ frames, @LE.le Nat _ f.stop (now - c.age) := fun c hc f hf =>
    Nat.le_trans (h.afterOwn f hf) (Nat.sub_le_sub_left (age_le_of_wf h.oneBurst c hc) now)
  have hw := h.oneBurst
  simp only [Burst.wf, Bool.and_eq_true] at hw
  refine ⟨fun c hc => ?_, chain_of_gapsFit now frames b.chars hw.1.2 hstart⟩
  rw [← Bool.not_eq_true, lostUnder_iff]
  rintro ⟨f, hf, hn⟩
  exact hn (Or.inr (hstart c hc f hf))

/-- One burst that begins after the port's own frames have ended is heard as it is. -/
theorem heard_arrives (b : Burst) (now : Time) (frames : List OwnFrame) (h : Arrives b now frames) :
    heard b now frames = [b] := by
  obtain ⟨hl, hp⟩ := kept_of_arrives h
  have hend := h.oneBurst
  simp only [Burst.wf, Bool.and_eq_true] at hend
  obtain ⟨-, hend⟩ := hend
  have hne : b.chars ≠ [] := by
    intro he
    simp [he] at hend
  have hover : burstOver b.chars = true := by
    cases hq : b.chars.getLast? with
    | none => simp [hq] at hend
    | some e => simpa [burstOver, hq, byteTime, frameGap, ms] using hend
  simp [heard, cutBursts_one _ _ _ hne hl hp, hover]

/-- What is heard before and after two bytes that are parted, or of which the second is lost, is heard on its own. -/
theorem heard_append (r : Bool) (p q : List LineByte) (c d : LineByte) (now : Time) (frames : List OwnFrame)
    (h : partedBy now frames c d = true ∨ lostUnder now frames d = true) :
    heard ⟨p ++ [c] ++ d :: q, r⟩ now frames = heard ⟨p ++ [c], r⟩ now frames ++ heard ⟨d :: q, r⟩ now frames := by
  simp only [heard, cutBursts_append _ _ p q c d h, List.filter_append, List.map_append]

/-- What is heard before and after bytes that are lost is heard on its own. -/
theorem heard_around (r : Bool) (p m q : List LineByte) (c : LineByte) (now : Time) (frames : List OwnFrame) (hm : m ≠ [])
    (h : ∀ x ∈ m, lostUnder now frames x = true) :
    heard ⟨p ++ [c] ++ m ++ q, r⟩ now frames = heard ⟨p ++ [c], r⟩ now frames ++ heard ⟨q, r⟩ now frames := by
  simp only [heard, cutBursts_around _ _ p m q c hm h, List.filter_append, List.map_append]

/-- Nothing is heard of bytes that are lost. -/
theorem heard_lost (r : Bool) (m q : List LineByte) (now : Time) (frames : List OwnFrame)
    (h : ∀ x ∈ m, lostUnder now frames x = true) : heard ⟨m ++ q, r⟩ now frames = heard ⟨q, r⟩ now frames := by
  simp only [heard, cutBursts_lost _ _ m q h]

/-- The room port judges such a burst once (R112). -/
theorem State.receiveRoom_arrives (s : State) (b : Burst) (h : Arrives b s.now s.room.frames) :
    s.receiveRoom b = s.judgeRoom b := by
  simp [State.receiveRoom, heard_arrives b _ _ h]

/-- The plant port judges such a burst once (R117). -/
theorem State.receivePlant_arrives (s : State) (b : Burst) (h : Arrives b s.now s.plant.frames) :
    s.receivePlant b = s.judgePlant b := by
  simp [State.receivePlant, heard_arrives b _ _ h]

/-! ### Coming to join (R82) -/

/-- A channel that comes to join changes no other channel. -/
theorem State.comeToJoin_other (s : State) (c k : ChannelId) (h : k ≠ c) :
    (s.comeToJoin c).channel k = s.channel k := by
  simp only [State.comeToJoin, State.endSettling, State.tryJoin, State.adopt, State.joinHome, State.joinQueue]
  (repeat' split) <;> simp [State.channel, look_put_other, h]

/-- The channels that join before `c` are those below it: `c` and those above it stay as they are. -/
theorem State.joinBelow_other (s : State) (c k : ChannelId) (h : c ≤ k) : (s.joinBelow c).channel k = s.channel k := by
  unfold State.joinBelow
  refine State.forIx_keeps (fun t => t.channel k) _ s ?_
  intro i t
  split
  · next hi => exact State.comeToJoin_other t i k fun e => absurd hi (by subst e; exact Nat.not_lt.2 h)
  · rfl

end Sys2Proof.Machine
end

