-- ==== Sys2Proof/Laws/FrameSupply.lean ====
section
/-! SUPPORT. What the operations of supply, start-up and the shutdown latch leave alone: for each operation, every field of State that it does not
write. -/

namespace Sys2Proof.Machine

@[simp] theorem State.enterSag_frame (s : State) :
    (s.enterSag).now = s.now ∧ (s.enterSag).pending = s.pending ∧ (s.enterSag).phase = s.phase ∧
      (s.enterSag).resetAt = s.resetAt ∧ (s.enterSag).retained = s.retained ∧ (s.enterSag).store = s.store ∧
      (s.enterSag).storeState = s.storeState ∧ (s.enterSag).saving = s.saving ∧ (s.enterSag).tables = s.tables ∧
      (s.enterSag).routes = s.routes ∧ (s.enterSag).serviceHeld = s.serviceHeld ∧ (s.enterSag).zones = s.zones ∧
      (s.enterSag).arbiter = s.arbiter ∧ (s.enterSag).command = s.command ∧
      (s.enterSag).computation = s.computation ∧ (s.enterSag).channels = s.channels ∧ (s.enterSag).queue = s.queue ∧
      (s.enterSag).slotLimit = s.slotLimit ∧ (s.enterSag).homingDue = s.homingDue ∧ (s.enterSag).links = s.links ∧
      (s.enterSag).room = s.room ∧ (s.enterSag).plant = s.plant ∧ (s.enterSag).relay = s.relay ∧
      (s.enterSag).decoder = s.decoder := by
  simp [State.enterSag]

@[simp] theorem State.leaveSag_frame (s : State) :
    (s.leaveSag).now = s.now ∧ (s.leaveSag).pending = s.pending ∧ (s.leaveSag).phase = s.phase ∧
      (s.leaveSag).resetAt = s.resetAt ∧ (s.leaveSag).retained = s.retained ∧ (s.leaveSag).store = s.store ∧
      (s.leaveSag).storeState = s.storeState ∧ (s.leaveSag).saving = s.saving ∧ (s.leaveSag).tables = s.tables ∧
      (s.leaveSag).routes = s.routes ∧ (s.leaveSag).serviceHeld = s.serviceHeld ∧ (s.leaveSag).zones = s.zones ∧
      (s.leaveSag).arbiter = s.arbiter ∧ (s.leaveSag).command = s.command ∧
      (s.leaveSag).computation = s.computation ∧ (s.leaveSag).homingDue = s.homingDue ∧
      (s.leaveSag).links = s.links ∧ (s.leaveSag).room = s.room ∧ (s.leaveSag).plant = s.plant ∧
      (s.leaveSag).relay = s.relay ∧ (s.leaveSag).decoder = s.decoder ∧ (s.leaveSag).events = s.events := by
  simp [State.leaveSag]

@[simp] theorem State.loadStore_frame (s : State) :
    (s.loadStore).now = s.now ∧ (s.loadStore).pending = s.pending ∧ (s.loadStore).phase = s.phase ∧
      (s.loadStore).resetAt = s.resetAt ∧ (s.loadStore).supply = s.supply ∧ (s.loadStore).retained = s.retained ∧
      (s.loadStore).store = s.store ∧ (s.loadStore).saving = s.saving ∧ (s.loadStore).routes = s.routes ∧
      (s.loadStore).serviceHeld = s.serviceHeld ∧ (s.loadStore).zones = s.zones ∧ (s.loadStore).arbiter = s.arbiter ∧
      (s.loadStore).command = s.command ∧ (s.loadStore).computation = s.computation ∧
      (s.loadStore).channels = s.channels ∧ (s.loadStore).queue = s.queue ∧ (s.loadStore).slotLimit = s.slotLimit ∧
      (s.loadStore).homingDue = s.homingDue ∧ (s.loadStore).links = s.links ∧ (s.loadStore).room = s.room ∧
      (s.loadStore).plant = s.plant ∧ (s.loadStore).relay = s.relay ∧ (s.loadStore).decoder = s.decoder ∧
      (s.loadStore).events = s.events := by
  simp [State.loadStore]

@[simp] theorem State.beginStart_frame (s : State) (retainedGood : Bool) :
    (s.beginStart retainedGood).now = s.now ∧ (s.beginStart retainedGood).pending = s.pending ∧
      (s.beginStart retainedGood).resetAt = s.resetAt ∧ (s.beginStart retainedGood).supply = s.supply ∧
      (s.beginStart retainedGood).store = s.store ∧ (s.beginStart retainedGood).saving = s.saving ∧
      (s.beginStart retainedGood).routes = s.routes ∧ (s.beginStart retainedGood).serviceHeld = s.serviceHeld ∧
      (s.beginStart retainedGood).zones = s.zones ∧ (s.beginStart retainedGood).arbiter = s.arbiter ∧
      (s.beginStart retainedGood).command = s.command ∧ (s.beginStart retainedGood).computation = s.computation ∧
      (s.beginStart retainedGood).channels = s.channels ∧ (s.beginStart retainedGood).queue = s.queue ∧
      (s.beginStart retainedGood).slotLimit = s.slotLimit ∧ (s.beginStart retainedGood).homingDue = s.homingDue ∧
      (s.beginStart retainedGood).links = s.links ∧ (s.beginStart retainedGood).room = s.room ∧
      (s.beginStart retainedGood).plant = s.plant ∧ (s.beginStart retainedGood).relay = s.relay ∧
      (s.beginStart retainedGood).decoder = s.decoder ∧ (s.beginStart retainedGood).events = s.events := by
  simp [State.beginStart]

@[simp] theorem State.firstEvents_frame (s : State) :
    (s.firstEvents).now = s.now ∧ (s.firstEvents).pending = s.pending ∧ (s.firstEvents).phase = s.phase ∧
      (s.firstEvents).resetAt = s.resetAt ∧ (s.firstEvents).supply = s.supply ∧
      (s.firstEvents).retained = s.retained ∧ (s.firstEvents).store = s.store ∧
      (s.firstEvents).storeState = s.storeState ∧ (s.firstEvents).saving = s.saving ∧
      (s.firstEvents).tables = s.tables ∧ (s.firstEvents).routes = s.routes ∧
      (s.firstEvents).serviceHeld = s.serviceHeld ∧ (s.firstEvents).zones = s.zones ∧
      (s.firstEvents).arbiter = s.arbiter ∧ (s.firstEvents).command = s.command ∧
      (s.firstEvents).computation = s.computation ∧ (s.firstEvents).channels = s.channels ∧
      (s.firstEvents).queue = s.queue ∧ (s.firstEvents).slotLimit = s.slotLimit ∧
      (s.firstEvents).homingDue = s.homingDue ∧ (s.firstEvents).links = s.links ∧ (s.firstEvents).room = s.room ∧
      (s.firstEvents).plant = s.plant ∧ (s.firstEvents).relay = s.relay ∧ (s.firstEvents).decoder = s.decoder := by
  simp [State.firstEvents]

@[simp] theorem State.startBlocks_frame (s : State) :
    (s.startBlocks).now = s.now ∧ (s.startBlocks).pending = s.pending ∧ (s.startBlocks).resetAt = s.resetAt ∧
      (s.startBlocks).store = s.store ∧ (s.startBlocks).storeState = s.storeState ∧
      (s.startBlocks).saving = s.saving ∧ (s.startBlocks).tables = s.tables ∧ (s.startBlocks).routes = s.routes ∧
      (s.startBlocks).serviceHeld = s.serviceHeld ∧ (s.startBlocks).command = s.command ∧
      (s.startBlocks).computation = s.computation ∧ (s.startBlocks).queue = s.queue ∧
      (s.startBlocks).links = s.links ∧ (s.startBlocks).plant = s.plant ∧ (s.startBlocks).relay = s.relay := by
  simp [State.startBlocks]

@[simp] theorem State.completeStart_frame (s : State) :
    (s.completeStart).now = s.now ∧ (s.completeStart).pending = s.pending ∧ (s.completeStart).resetAt = s.resetAt ∧
      (s.completeStart).store = s.store ∧ (s.completeStart).storeState = s.storeState ∧
      (s.completeStart).saving = s.saving ∧ (s.completeStart).tables = s.tables ∧
      (s.completeStart).routes = s.routes ∧ (s.completeStart).serviceHeld = s.serviceHeld ∧
      (s.completeStart).command = s.command ∧ (s.completeStart).computation = s.computation ∧
      (s.completeStart).queue = s.queue ∧ (s.completeStart).links = s.links ∧ (s.completeStart).relay = s.relay := by
  simp [State.completeStart]

@[simp] theorem State.startHoming_frame (s : State) :
    (s.startHoming).now = s.now ∧ (s.startHoming).pending = s.pending ∧ (s.startHoming).phase = s.phase ∧
      (s.startHoming).resetAt = s.resetAt ∧ (s.startHoming).supply = s.supply ∧
      (s.startHoming).retained = s.retained ∧ (s.startHoming).store = s.store ∧
      (s.startHoming).storeState = s.storeState ∧ (s.startHoming).saving = s.saving ∧
      (s.startHoming).tables = s.tables ∧ (s.startHoming).routes = s.routes ∧
      (s.startHoming).serviceHeld = s.serviceHeld ∧ (s.startHoming).zones = s.zones ∧
      (s.startHoming).arbiter = s.arbiter ∧ (s.startHoming).command = s.command ∧
      (s.startHoming).computation = s.computation ∧ (s.startHoming).links = s.links ∧ (s.startHoming).room = s.room ∧
      (s.startHoming).plant = s.plant ∧ (s.startHoming).relay = s.relay ∧ (s.startHoming).decoder = s.decoder ∧
      (s.startHoming).events = s.events := by
  simp [State.startHoming]

@[simp] theorem State.setLatch_frame (s : State) :
    (s.setLatch).now = s.now ∧ (s.setLatch).pending = s.pending ∧ (s.setLatch).phase = s.phase ∧
      (s.setLatch).resetAt = s.resetAt ∧ (s.setLatch).retained = s.retained ∧ (s.setLatch).store = s.store ∧
      (s.setLatch).storeState = s.storeState ∧ (s.setLatch).saving = s.saving ∧ (s.setLatch).tables = s.tables ∧
      (s.setLatch).routes = s.routes ∧ (s.setLatch).serviceHeld = s.serviceHeld ∧ (s.setLatch).zones = s.zones ∧
      (s.setLatch).computation = s.computation ∧ (s.setLatch).homingDue = s.homingDue ∧ (s.setLatch).room = s.room ∧
      (s.setLatch).plant = s.plant ∧ (s.setLatch).decoder = s.decoder := by
  simp [State.setLatch]

@[simp] theorem State.inputAsserted_frame (s : State) :
    (s.inputAsserted).now = s.now ∧ (s.inputAsserted).pending = s.pending ∧ (s.inputAsserted).phase = s.phase ∧
      (s.inputAsserted).resetAt = s.resetAt ∧ (s.inputAsserted).retained = s.retained ∧
      (s.inputAsserted).store = s.store ∧ (s.inputAsserted).storeState = s.storeState ∧
      (s.inputAsserted).saving = s.saving ∧ (s.inputAsserted).tables = s.tables ∧
      (s.inputAsserted).routes = s.routes ∧ (s.inputAsserted).serviceHeld = s.serviceHeld ∧
      (s.inputAsserted).zones = s.zones ∧ (s.inputAsserted).computation = s.computation ∧
      (s.inputAsserted).homingDue = s.homingDue ∧ (s.inputAsserted).room = s.room ∧
      (s.inputAsserted).plant = s.plant ∧ (s.inputAsserted).decoder = s.decoder := by
  simp [State.inputAsserted]

end Sys2Proof.Machine
end

