-- ==== Sys2Proof/Tests/Slice0.lean ====
section
/-! SUPPORT. Tests: the well-formedness smoke, cases that the manual works out, and one theorem for each statement with
hypotheses that shows states and operands meeting them, clause by clause. -/

namespace Sys2Proof.Tests

open Sys2Proof Sys2Proof.Machine

/-! ### Well-formedness smoke -/

/-- Bytes that a line has brought back to back, the last of them `quiet` ticks ago. -/
def onLine (quiet : Nat) : List Byte → List LineByte
  | [] => []
  | b :: bs => ⟨byteTime (bs.length + 1) + quiet, serial b⟩ :: onLine quiet bs

theorem test_wf_refuses_an_empty_burst :
    (Instr.nothing 0 ⟨[], false⟩).wf = false ∧ (Instr.poll ⟨0, 192⟩).wf = true := by decide

/-- Judged a tick before its 4 ms of silence, and with them. -/
theorem test_wf_refuses_a_burst_judged_too_early :
    (Instr.burstOutsideWait 0 .plant ⟨onLine 191 [1, 2], false⟩).wf = false
      ∧ (Instr.burstOutsideWait 0 .plant ⟨onLine 192 [1, 2], false⟩).wf = true := by decide

/-- A gap of 4 ms, one a tick shorter, and two bytes that overlap. -/
theorem test_wf_refuses_a_gap :
    let b (n : Nat) : Burst := ⟨[⟨n, serial 1⟩, ⟨300, serial 2⟩], false⟩
    (Instr.nothing 0 (b 517)).wf = false ∧ (Instr.nothing 0 (b 516)).wf = true
      ∧ (Instr.nothing 0 (b 324)).wf = false := by decide

/-- A byte with a start bit of 1, and one with a stop bit of 0. -/
theorem test_wf_refuses_a_byte_without_its_frame :
    (Instr.nothing 0 ⟨[⟨300, 0x3FF⟩], false⟩).wf = false ∧ (Instr.nothing 0 ⟨[⟨300, 0⟩], false⟩).wf = false := by decide

theorem test_wf_refuses_a_tag_above_15 :
    (Instr.answerTimerExpiry 0 16).wf = false ∧ (Instr.answerTimerExpiry 0 15).wf = true := by decide

/-! ### A house to test with -/

def panel : RouteCfg :=
  { defaultRoute with used := true, address := 0x20, role := .panel, house := true, notice := true }
def sensor : RouteCfg := { defaultRoute with used := true, address := 0x21, role := .sensor }
def tool : RouteCfg := { defaultRoute with used := true, address := 0x22, role := .tool, zone := none }

/-- Zone 0 is in use, with a panel and a sensor; a tool is on the line. -/
def houseTables : Tables :=
  { defaultTables with
    routes := tab fun i => if i = 0 then panel else if i = 1 then sensor else if i = 2 then tool else defaultRoute
    zones := tab fun z => if z = 0 then { defaultZone with enabled := true, groups := 8 } else defaultZone }

/-- An idle house, 100 s on. -/
def live : State :=
  { State.reset with
    now := sec 100
    phase := .running
    storeState := .valid
    tables := houseTables
    arbiter := { resetArbiter with house := .idle, restStart := some 0, cycleDue := some (sec 100) }
    plant := { resetPlantPort with roundDue := some (sec 100) } }

def outdoorReady : Link :=
  { resetLink with
    state := .ready, nodeState := some .idle, fault := some 0, cap := some (.outdoor 30 true),
    silenceDue := some (sec 101) }
def airReady : Link :=
  { resetLink with
    state := .ready, nodeState := some .idle, fault := some 0, cap := some (.air 250 900 true),
    silenceDue := some (sec 101) }

/-- The same with both plant nodes bound. -/
def bound : State := { live with links := ⟨airReady, outdoorReady⟩ }

/-- The same in COOL. -/
def cooling : State :=
  { bound with
    arbiter := { live.arbiter with house := .cool, runStart := some (sec 50), restStart := none, lastRun := some .cool }
    command := ⟨.cool, 30, .cool, 250, false, false⟩ }

/-- The house shut down, with the input asserted; the supply is about to sag. -/
def halted : State :=
  { live with
    pending := [.sagEntry 0]
    supply := ⟨.normal, .asserted, true, 0⟩, arbiter := { live.arbiter with house := .halt } }

/-- A POLL of the address waits for its reply since now. -/
def polling (s : State) (a : Byte) (notice : Bool) : State :=
  { s with room := { s.room with wait := some ⟨a, notice, s.now + ms 30⟩ } }

/-- A frame to the plant node waits for its answer since now. -/
def asking (s : State) (n : Node) (e : Expects) (x : Slot) : State :=
  { s with plant := { s.plant with slot := x, wait := some ⟨n, e, s.now + ms 50⟩ } }

/-- A frame to the coordinator, judged 4 ms after its last byte. -/
def burst (src cls : Byte) (p : List Byte) : Burst :=
  let body := [coordinatorAddress, src, cls, u8 p.length] ++ p
  ⟨onLine frameGap (body ++ bytes16 (crc16 body)), false⟩

/-- A valid reply that begins `late` ticks after its POLL ended. -/
theorem hears_of {s : State} {b : Burst} {w : RoomWait} {cls : Byte} {p : List Byte} {dt : Nat}
    (h : s.phase = .running ∧ s.room.wait = some w
      ∧ (b.wf = true ∧ ∀ f ∈ s.room.frames, f.stop ≤ s.now + dt - b.age)
      ∧ (w.closes ≤ s.now + dt - b.age + ms 30 ∧ s.now + dt - b.age ≤ w.closes) ∧ sound b.bytes = true
      ∧ frameDest b.bytes = coordinatorAddress ∧ frameSource b.bytes = w.address ∧ frameClass b.bytes = cls
      ∧ framePayload b.bytes = p ∧ roomFits cls p = true) : Hears s dt b w cls p :=
  let ⟨h1, h2, h0, h3, h4, h5, h6, h7, h8, h9⟩ := h
  ⟨h1, h2, ⟨h0.1, h0.2⟩, h3, ⟨h4, h5, h6, h7, h8, h9⟩⟩

/-- The same on the plant line. -/
theorem hears_plant_of {s : State} {b : Burst} {w : PlantWait} {cls : Byte} {p : List Byte} {dt : Nat}
    (h : s.phase = .running ∧ s.plant.wait = some w
      ∧ (b.wf = true ∧ ∀ f ∈ s.plant.frames, f.stop ≤ s.now + dt - b.age)
      ∧ (w.closes ≤ s.now + dt - b.age + ms 50 ∧ s.now + dt - b.age ≤ w.closes) ∧ sound b.bytes = true
      ∧ frameDest b.bytes = coordinatorAddress ∧ frameSource b.bytes = nodeAddress w.node ∧ frameClass b.bytes = cls
      ∧ framePayload b.bytes = p ∧ plantFits w.expects cls p = true) : HearsPlant s dt b w cls p :=
  let ⟨h1, h2, h0, h3, h4, h5, h6, h7, h8, h9⟩ := h
  ⟨h1, h2, ⟨h0.1, h0.2⟩, h3, ⟨h4, h5, h6, h7, h8, h9⟩⟩

/-- The tool asks: the request `q` of a code arrives as a valid reply from its POLL. -/
def asks (code : Byte) (q : List Byte) : Burst := burst 0x22 clsManageRequest (0 :: code :: q)

/-- The operands under which the tool's request is heard by a running house. -/
def Asked (s : State) (code : Byte) (q : List Byte) : Prop :=
  Requests (polling s 0x22 false) (asks code q).age (asks code q) ⟨0x22, false, s.now + ms 30⟩ code q (0 :: code :: q)

theorem asked_of {s : State} {code : Byte} {q : List Byte}
    (h : s.phase = .running ∧ s.roleOf (s.senderAt 0x22) = some .tool ∧ (∀ f ∈ s.room.frames, f.stop ≤ s.now)
      ∧ (asks code q).wf = true)
    (h' : let b := (asks code q).bytes
      sound b = true ∧ frameDest b = coordinatorAddress ∧ frameSource b = 0x22 ∧ frameClass b = clsManageRequest
        ∧ framePayload b = 0 :: code :: q ∧ roomFits clsManageRequest (0 :: code :: q) = true) :
    Asked s code q := by
  obtain ⟨h4, h5, h6, h7, h8, h9⟩ := h'
  refine ⟨hears_of ⟨h.1, rfl, ⟨h.2.2.2, ?_⟩, ⟨?_, ?_⟩, h4, h5, h6, h7, h8, h9⟩, h.2.1, rfl, rfl⟩
  · show ∀ f ∈ s.room.frames, f.stop ≤ s.now + (asks code q).age - (asks code q).age
    rw [Nat.add_sub_cancel]
    exact h.2.2.1
  · show s.now + ms 30 ≤ s.now + (asks code q).age - (asks code q).age + ms 30
    rw [Nat.add_sub_cancel]
  · show s.now + (asks code q).age - (asks code q).age ≤ s.now + ms 30
    rw [Nat.add_sub_cancel]
    exact Nat.le_add_right _ _

/-! ### Cases that the manual works out -/

/-- The check of the nine ASCII digits, a known value of the CRC with this generator and start (R105). -/
theorem test_check_of_the_digits :
    crc16 [0x31, 0x32, 0x33, 0x34, 0x35, 0x36, 0x37, 0x38, 0x39] = 0x29B1 := by decide +kernel

/-- Section 1.2, time 6 and time 12 of zone 3. -/
theorem test_readings_combine : combine [(2, 231), (1, 250)] = some 237 ∧ combine [(2, 231), (1, 244)] = some 235 := by
  decide +kernel

/-- Section 1.4: an absolute heat value of 235 on 200 and 240, then a cool offset of −60 and an absolute cool value of 120. -/
theorem test_changes_clamp :
    let r := resetZoneRun defaultZone
    let n : SetpointValue := ⟨.notGiven, 0⟩
    let a := r.change ⟨n, ⟨.offset, -60⟩, n⟩
    let b := a.change ⟨n, ⟨.absolute, 120⟩, n⟩
    (r.change ⟨⟨.absolute, 235⟩, n, n⟩).sc = 245 ∧ (a.sh, a.sc) = (170, 180) ∧ (b.sh, b.sc) = (140, 150) := by
  decide +kernel

/-- Section 1.5, the sunroom at 0, 20, 80 and 120 s: call and demand. -/
theorem test_sunroom_calls :
    let e (call : Call) (t h : Int) : Call × Nat :=
      let r := ({ resetZoneRun defaultZone with call := call, t := some t, h := some h }).evaluate
        defaultProfile defaultZone true
      (r.call, r.demand)
    e .none 243 66 = (.dry, 44) ∧ e .dry 246 66 = (.cool, 18) ∧ e .cool 238 63 = (.dry, 32)
      ∧ e .dry 236 55 = (.none, 0) := by decide +kernel

/-- The house of section 3.8. -/
def caseHouse : State :=
  let z (qd rank psp : Nat) : ZoneCfg := { defaultZone with enabled := true, qd := qd, spillRank := rank, psp := psp }
  { bound with
    tables := { defaultTables with
      zones := #v[z 200 0 40, z 120 1 40, z 150 0 40, z 90 0 40, z 90 2 30, defaultZone, defaultZone, defaultZone] }
    channels := Vector.replicate 8 { resetChannel 0 with state := .idle, homed := true } }

/-- A zone that calls. -/
def calls (c : Call) (d : Nat) : ZoneRun := { resetZoneRun defaultZone with call := c, demand := d, t := some 230 }

def caseA : State :=
  { caseHouse with
    zones := tab fun z => if z = 2 then calls .cool 84 else if z = 0 then calls .cool 21 else resetZoneRun defaultZone }

/-- Case A: capacity 30, airflow 250, the openings, and zone 1 as the spill zone. -/
theorem test_case_a : (caseA.compute .cool).map (fun f =>
    (f.record.raw, f.capacity, f.commanded, f.record.openings.map Vector.toList, zoneSetByte f.record.spill)) =
    some (some 25, 30, 250, some [36, 40, 87, 0, 0, 0, 0, 0], 2) := by decide +kernel

/-- Case B: with channel 1 in FAULT at 270 counts, its opening is 22 and zone 4 spills. -/
theorem test_case_b :
    let s := { caseA with
      channels := put caseA.channels 1 { resetChannel 0 with state := .fault, homed := true, count := 270 } }
    (s.compute .cool).map (fun f => (f.commanded, f.record.openings.map Vector.toList)) =
      some (255, some [36, 22, 87, 0, 30, 0, 0, 0]) := by decide +kernel

/-- Case C: dry scaling, a short spill walk and reheat. -/
theorem test_case_c :
    let s := { caseHouse with
      zones := tab fun z =>
        if z = 3 then { calls .dry 36 with t := some 212, h := some 64 }
        else if z = 0 then { calls .dry 24 with h := some 61 } else resetZoneRun defaultZone }
    (s.compute .dry).map (fun f =>
      (f.record.raw, f.commanded, f.record.openings.map Vector.toList, f.record.short, f.reheat)) =
      some (some 12, 250, some [39, 40, 0, 48, 30, 0, 0, 0], true, true) := by decide +kernel

/-- Case D: LEVEL 2 holds the capacity at 40. -/
theorem test_case_d :
    let s := { caseHouse with
      decoder := { caseHouse.decoder with level := .level2 }
      zones := tab fun z =>
        if z = 3 ∨ z = 4 then calls .heat 100 else if z = 0 then calls .heat 60 else resetZoneRun defaultZone }
    (s.compute .heat).map (fun f => (f.record.raw, f.capacity, f.commanded, f.record.openings.map Vector.toList)) =
      some (some 46, 40, 316, some [68, 0, 0, 100, 100, 0, 0, 0]) := by decide +kernel

/-- Section 12.3: the default records, byte by byte. -/
theorem test_default_records :
    defaultZone.bytes = [0, 0, 0, 100, 20, 0, 40, 12, 0, 200, 0, 240, 55]
      ∧ defaultDamper.bytes = [0x04, 0xB0, 6, 24, 0x01, 0x2C, 0x01, 0x90, 120]
      ∧ defaultProfile.bytes = [20, 0x01, 0x2C, 0, 180, 0, 180, 45, 5, 2, 60, 2, 30, 0x80, 0x7F]
      ∧ panel.bytes = [0x0F, 0x20, 0, 0, 1] ∧ tool.bytes = [0x03, 0x22, 2, 0xFF, 1] := by decide +kernel

/-- Section 12.1: the POLL to the panel of a cooling house, byte by byte: RESYNC, the house part, the zone part. -/
theorem test_poll_to_the_panel :
    cooling.pollPayload (some 0) =
      [0x03, 4, 0xFF, 0, 30, 0x03, 0x80, 0x00, 0x80, 0x00,
        0, 0, 0, 0, 0, 200, 0, 240, 55, 0x80, 0x00, 0xFF, 0xFF] := by decide +kernel

/-- Section 12.2: COOL at 30 % to the outdoor unit; COOL at 250 L/s to the air handler. -/
theorem test_plant_commands :
    let sent (n : Node) : List Byte :=
      match exec (.plantCommand ⟨0, 192⟩ n) { cooling with plant := { cooling.plant with slot := slotOf n } } with
      | .next t => framePayload (t.plant.sent.map dataBits)
      | .fault _ => []
      | .refused _ => []
    sent .outdoorUnit = [1, 30, 0] ∧ sent .airHandler = [2, 0x00, 0xFA, 0] := by decide +kernel

/-- Section 9.3: five pulses order LEVEL 2 with a hold of 30 min. -/
theorem test_five_pulses :
    let s := { bound with decoder := { bound.decoder with train := .gap, pulses := 5, gapStart := some (sec 98) } }
    (match exec (.trainEnd 0) s with
      | .next t => some (t.decoder.level, t.decoder.holdDue)
      | .fault _ => none
      | .refused _ => none) = some (.level2, some (sec 1900)) := by decide +kernel

/-! ### The statements' hypotheses are met: the step and what every step keeps -/

theorem test_hyps_StepRunsTheFrontCommand :
    { live with pending := [.sagEntry 5, .poll ⟨0, 192⟩] }.pending = .sagEntry 5 :: [.poll ⟨0, 192⟩] ∧ live.pending = [] := ⟨rfl, rfl⟩

/-- The cooling house with the shutdown input about to be asserted. -/
def stopping : State := { cooling with pending := [.shutdownInputAsserted 0] }

theorem house_holds_stopping : HouseHolds stopping :=
  ⟨rfl, Or.inl rfl, fun h => (nomatch h), fun h => (nomatch h), fun h => (nomatch h), rfl, fun _ => rfl, rfl, rfl,
    fun h => absurd rfl h⟩

theorem channel_holds_reset (t : Time) : ChannelHolds (resetChannel t) :=
  ⟨rfl, fun h => (nomatch h), fun _ => rfl, fun h => (nomatch h), fun h => (nomatch h), fun h => (nomatch h)⟩

theorem drives_hold_stopping : DrivesHold stopping where
  channels c := by
    have h : ∀ c : ChannelId, stopping.channel c = resetChannel 0 := by decide +kernel
    rw [h c]; exact channel_holds_reset 0
  queueOnce := List.nodup_nil
  queueStates := by decide +kernel
  slots := by decide +kernel
  latched h := nomatch h
  faultMarks := by decide +kernel
  silentBefore h := absurd rfl h

/-- The two tables, setpoints, counts, lists and marks of the cooling house. -/
theorem test_hyps_StepKeepsTablesAndSetpoints : TablesHold stopping ∧ SetpointsHold stopping
    ∧ ∃ t, step stopping = .next t := by
  refine ⟨?_, ?_, _, rfl⟩
  · show stopping.tables.valid = true
    decide +kernel
  · show ∀ z : ZoneId, _
    decide +kernel

theorem test_hyps_StepKeepsCountsAndLists :
    CallsHold stopping ∧ PositionsHold stopping ∧ QueriesHold stopping ∧ EventsHold stopping ∧ MissesHold stopping
      ∧ ∃ t, step stopping = .next t := by
  refine ⟨?_, ⟨by decide +kernel, fun h => absurd rfl h⟩,
    ⟨by decide, List.nodup_nil, List.nodup_nil, fun _ h => (nomatch h)⟩, ?_, ?_, _, rfl⟩
  · show ∀ z : ZoneId, _
    decide +kernel
  · show stopping.events.undelivered &&& ~~~stopping.events.raised = 0
    decide +kernel
  · show ∀ i : RouteId, _
    decide +kernel

/-- A zone that calls is in play. -/
theorem test_hyps_StepKeepsCallsInPlay :
    let s := { stopping with
      zones := put stopping.zones 0
        { stopping.zone 0 with call := .cool, demand := 10, t := some 250, loss := .running (sec 160) } }
    CallsInPlay s ∧ (s.zone 0).call = .cool ∧ ∃ t, step s = .next t :=
  ⟨⟨by decide +kernel, fun h => absurd rfl h⟩, by decide +kernel, _, rfl⟩

theorem test_hyps_StepKeepsHouse : HouseHolds stopping ∧ ∃ t, step stopping = .next t :=
  ⟨house_holds_stopping, _, rfl⟩

theorem test_hyps_StepKeepsDrives : DrivesHold stopping ∧ ∃ t, step stopping = .next t :=
  ⟨drives_hold_stopping, _, rfl⟩

theorem link_holds_ready (c : Capability) (t : Time) :
    LinkHolds { resetLink with state := .ready, cap := some c, silenceDue := some t } where
  capability := rfl
  binding := rfl
  silence := rfl
  loss := rfl
  stopTimer := rfl
  stopping h := nomatch h
  stopBound h := nomatch h
  downRun h := nomatch h
  runSlot h := nomatch h

theorem link_holds_reset : LinkHolds resetLink where
  capability := rfl
  binding := rfl
  silence := rfl
  loss := rfl
  stopTimer := rfl
  stopping h := nomatch h
  stopBound h := nomatch h
  downRun _ := rfl
  runSlot h := nomatch h

theorem test_hyps_StepKeepsLinks :
    let s := { stopping with links := ⟨resetLink, { resetLink with
      state := .ready, cap := some (.outdoor 30 true), silenceDue := some (sec 101) }⟩ }
    LinksHold s ∧ ∃ t, step s = .next t :=
  ⟨fun n => match n with | .airHandler => link_holds_reset | .outdoorUnit => link_holds_ready _ _, _, rfl⟩

theorem test_hyps_StepKeepsDecoder :
    let s := { stopping with
      decoder := { resetDecoder false with level := .level2, holdDue := some (sec 1000) }
      retained := ⟨.level2, 900, .line⟩ }
    DecoderHolds s ∧ ∃ t, step s = .next t :=
  ⟨⟨rfl, rfl, fun h => (nomatch h), fun _ => rfl, fun _ => ⟨rfl, by decide +kernel⟩⟩, _, rfl⟩

theorem test_hyps_ModeChangeIsRaised :
    ∃ t, step stopping = .next t ∧ t.phase = .running ∧ stopping.command.outMode ≠ t.command.outMode :=
  ⟨_, rfl, by decide +kernel, by decide +kernel⟩

theorem house_holds_halted : HouseHolds halted :=
  ⟨rfl, Or.inl rfl, fun _ => rfl, fun _ => ⟨rfl, rfl, rfl⟩, fun _ => Or.inl rfl, rfl, fun _ => rfl, rfl, rfl,
    fun h => absurd rfl h⟩

theorem drives_hold_halted : DrivesHold halted where
  channels c := by
    have h : ∀ c : ChannelId, halted.channel c = resetChannel 0 := by decide +kernel
    rw [h c]; exact channel_holds_reset 0
  queueOnce := List.nodup_nil
  queueStates := by decide +kernel
  slots := by decide +kernel
  latched _ := by decide +kernel
  faultMarks := by decide +kernel
  silentBefore h := absurd rfl h

theorem test_hyps_LatchStandsWhileAsserted :
    let s := halted
    HouseHolds s ∧ DrivesHold s ∧ (∃ t, step s = .next t ∧ t.phase = .running) ∧ s.phase = .running
      ∧ s.supply.latch = true ∧ s.supply.input = .asserted :=
  ⟨house_holds_halted, drives_hold_halted, ⟨_, rfl, by decide +kernel⟩, rfl, rfl, rfl⟩

/-- A waiting query of the panel. -/
def aQuery (tag : Nat) : QueryEntry where
  requester := 0x20
  target := .outdoorUnit
  item := 7
  argument := 0
  tag := tag
  state := .waiting
  status := none
  value := none
  sentTime := none
  answerDue := none

/-! ### Frames and records -/

theorem test_hyps_SentFramesAreSound :
    (List.replicate 32 (0 : Byte)).length ≤ 32
      ∧ { live with routes := put live.routes 0 { resetRouteRun with held := some ⟨.query, .ok, some 15⟩ } }.optionalPart
          (some 0) = .answer
      ∧ { live with events := ⟨0x40, 0x40, none⟩ }.optionalPart (some 0) = .notice := by decide +kernel

theorem test_hyps_TableRecordsReadBack :
    panel.valid = true ∧ tool.valid = true ∧ { tool with zone := some 3 }.stored = tool ∧ defaultZone.valid = true
      ∧ defaultDamper.valid = true ∧ defaultProfile.valid = true := by decide +kernel

/-! ### The room line -/

/-- The position at the last entry polled and at the mark of the service address. -/
theorem test_hyps_RoundVisitsInOrder :
    let at' (k : RouteId) : State := { live with room := { live.room with pos := .entry k } }
    (live.room.pos = .service ∧ live.nextPolled = some 0) ∧ ((at' 2).room.pos = .entry 2 ∧ (at' 2).nextPolled = none)
      ∧ (at' 1).nextPolled = some 2 ∧ (at' 15).nextPolled = none := by decide +kernel

/-- On a silent line, on a held one, and on one that is not silent yet. -/
theorem test_hyps_PollGoesOut :
    (live.phase = .running ∧ live.room.wait = none ∧ live.room.restartDue = none ∧ live.room.sendAfter ≤ live.now + 0)
      ∧ ms 4 ≤ 192 ∧ live.room.dueSince + ms 50 ≤ live.now + 0
      ∧ (let s := { live with room := { live.room with dueSince := live.now } }
        ¬(ms 4 ≤ 191 ∨ s.room.dueSince + ms 50 ≤ s.now + (ms 50 - 1))) := by decide +kernel

/-- The list of one query answered, to the panel, with a held result and an event to offer. -/
theorem test_hyps_PollCarriesWhatIsDue :
    let s := { live with
      relay := { resetRelay with entries := [{ aQuery 15 with state := .answered, status := some (.code 3), value := some 9 }] }
      events := ⟨0x40, 0x40, none⟩ }
    QueriesHold s ∧ s.noticePending = true ∧ (s.routeCfg 0).notice = true ∧ s.optionalPart (some 0) = .answer
      ∧ { s with routes := put s.routes 0 { resetRouteRun with lastPart := .answer } }.optionalPart (some 0) = .notice
      ∧ s.optionalPart none = .none :=
  ⟨⟨by decide +kernel, by decide +kernel, by decide +kernel, by decide +kernel⟩, by decide +kernel⟩

/-- A NOTHING that begins at the first and at the last moment of its wait, a burst with a bad check, and a timeout at its
moment. -/
theorem test_hyps_PollsHaveOneOutcome :
    let s := polling live 0x20 true
    let b := burst 0x20 0x20 [1]
    let w : RoomWait := ⟨0x20, true, sec 100 + ms 30⟩
    Hears s b.age b w 0x20 [1] ∧ Hears s (b.age + ms 30) b w 0x20 [1] ∧ HearsMiss s 300 ⟨onLine 192 [1, 2], false⟩ w
      ∧ w.closes ≤ s.now + ms 30 ∧ BeganWithin s (ms 30 + 5) 5 w.closes (ms 30)
      ∧ ¬BeganWithin s (ms 30 + 5) 4 w.closes (ms 30) :=
  ⟨hears_of (by decide +kernel), hears_of (by decide +kernel),
    ⟨rfl, rfl, ⟨by decide +kernel, by decide +kernel⟩, by unfold BeganWithin; decide +kernel,
      fun _ _ h => absurd h.sound (by decide +kernel)⟩,
    by decide +kernel, by unfold BeganWithin; decide +kernel, by unfold BeganWithin; decide +kernel⟩

/-- The readings 0 and 100 from the sensor, a temperature that is not valid, and the panel's switch OFF; and from the tool. -/
theorem test_hyps_ReportedReadingsAreTaken :
    let p (c t h : Byte) : List Byte := [0, c, 0, t, h]
    (∀ x ∈ [((0x21 : Byte), (3 : Byte), (0 : Byte), (100 : Byte)), (0x21, 3, 0, 101), (0x20, 0, 0, 0), (0x22, 3, 0, 0)],
      Hears (polling live x.1 false) (burst x.1 0x21 (p x.2.1 x.2.2.1 x.2.2.2)).age
        (burst x.1 0x21 (p x.2.1 x.2.2.1 x.2.2.2)) ⟨x.1, false, sec 100 + ms 30⟩ 0x21 (p x.2.1 x.2.2.1 x.2.2.2)
      ∧ (roomReportOf (p x.2.1 x.2.2.1 x.2.2.2)).setpoints = none)
      ∧ live.entryOf 0x21 = some 1 ∧ (live.routeCfg 1).role = .sensor ∧ (live.routeCfg 1).zone = some 0
      ∧ live.entryOf 0x20 = some 0 ∧ (live.routeCfg 0).role = .panel ∧ (live.routeCfg 0).zone = some 0
      ∧ live.entryOf 0x22 = some 2 ∧ (live.routeCfg 2).role = .tool
      ∧ (live.zone 0).switchOn = true ∧ (roomReportOf (p 0 0 0)).switchOn = false := by
  refine ⟨fun x hx => ?_, by decide +kernel⟩
  rcases List.mem_cons.mp hx with rfl | hx
  · exact ⟨hears_of (by decide +kernel), by decide +kernel⟩
  rcases List.mem_cons.mp hx with rfl | hx
  · exact ⟨hears_of (by decide +kernel), by decide +kernel⟩
  rcases List.mem_pair.mp hx with rfl | rfl <;> exact ⟨hears_of (by decide +kernel), by decide +kernel⟩

/-- The panel's setpoints, well marked and with an undefined marking; the sensor's, the tool's and the service address's. -/
theorem test_hyps_PanelConfirmsSetpoints :
    let p (m : Byte) : List Byte := [0, 12, 0, 0, 0, m, 0, 235, 0, 0, 0]
    (∀ x ∈ [((0x20 : Byte), (1 : Byte)), (0x20, 3), (0x21, 1), (0x22, 1), (0x7E, 1)],
      Hears (polling live x.1 false) (burst x.1 0x21 (p x.2)).age (burst x.1 0x21 (p x.2))
          ⟨x.1, false, sec 100 + ms 30⟩ 0x21 (p x.2)
        ∧ (roomReportOf (p x.2)).setpoints.map Setpoints.wellMarked = some (decide (x.2 = 1)))
      ∧ live.entryOf 0x20 = some 0 ∧ (live.routeCfg 0).role = .panel ∧ (live.routeCfg 0).zone = some 0
      ∧ live.entryOf 0x21 = some 1 ∧ (live.routeCfg 1).role = .sensor ∧ (live.routeCfg 1).zone = some 0
      ∧ live.entryOf 0x22 = some 2 ∧ (live.routeCfg 2).role = .tool ∧ live.entryOf 0x7E = none := by
  refine ⟨fun x hx => ?_, by decide +kernel⟩
  rcases List.mem_cons.mp hx with rfl | hx
  · exact ⟨hears_of (by decide +kernel), by decide +kernel⟩
  rcases List.mem_cons.mp hx with rfl | hx
  · exact ⟨hears_of (by decide +kernel), by decide +kernel⟩
  rcases List.mem_cons.mp hx with rfl | hx
  · exact ⟨hears_of (by decide +kernel), by decide +kernel⟩
  rcases List.mem_pair.mp hx with rfl | rfl <;> exact ⟨hears_of (by decide +kernel), by decide +kernel⟩

/-- The ends of the ranges, and a heat value, a cool value alone, and none. -/
theorem test_hyps_SetpointsAreClamped :
    let r := { resetZoneRun defaultZone with sh := 300, sc := 310, hd := 35 }
    let x : Setpoints := ⟨⟨.absolute, 500⟩, ⟨.offset, 50⟩, ⟨.notGiven, 0⟩⟩
    (50 ≤ r.sh ∧ r.sh ≤ 300 ∧ 150 ≤ r.sc ∧ r.sc ≤ 350 ∧ 10 ≤ r.sc - r.sh ∧ 35 ≤ r.hd ∧ r.hd ≤ 70)
      ∧ x.heat.form r.sh = some 500 ∧ { x with heat := ⟨.notGiven, 0⟩ }.heat.form r.sh = none
      ∧ (r.change x).sh = 300 ∧ (r.change x).sc = 350 := by decide +kernel

/-- The panel's change of group 3, of group 4 and of the house; the sensor's, which has no right to one; and one from the
service address. -/
theorem test_hyps_SetpointChangeReachesItsScope :
    let p (sc g m : Byte) : List Byte := [0, sc, g, m, 0, 235, 0, 0, 0]
    let b (a sc g m : Byte) := burst a 0x22 (p sc g m)
    (∀ x ∈ [((1 : Byte), (3 : Byte), (1 : Byte)), (1, 4, 1), (2, 0, 3)],
      Hears (polling live 0x20 false) (b 0x20 x.1 x.2.1 x.2.2).age (b 0x20 x.1 x.2.1 x.2.2)
        ⟨0x20, false, sec 100 + ms 30⟩ 0x22 (p x.1 x.2.1 x.2.2))
      ∧ Hears (polling live 0x21 false) (b 0x21 0 0 1).age (b 0x21 0 0 1) ⟨0x21, false, sec 100 + ms 30⟩ 0x22 (p 0 0 1)
      ∧ Hears (polling live 0x7E false) (b 0x7E 2 0 1).age (b 0x7E 2 0 1) ⟨0x7E, false, sec 100 + ms 30⟩ 0x22 (p 2 0 1)
      ∧ scopeOf 0 ≠ .unknown ∧ scopeOf 1 ≠ .unknown ∧ scopeOf 2 ≠ .unknown
      ∧ live.entryOf 0x20 = some 0 ∧ live.entryOf 0x7E = none
      ∧ live.roleOf (live.senderAt 0x20) = some .panel ∧ live.hasHouse (live.senderAt 0x20) = true
      ∧ (live.zoneCfg 0).groups.getLsbD 3 = true := by
  refine ⟨fun x hx => ?_, hears_of (by decide +kernel), hears_of (by decide +kernel), by decide +kernel⟩
  rcases List.mem_cons.mp hx with rfl | hx
  · exact hears_of (by decide +kernel)
  · rcases List.mem_pair.mp hx with rfl | rfl <;> exact hears_of (by decide +kernel)

/-- To a node that is reachable, to one that is not, and with an entry in the list already; from the panel, the sensor, the
service address, and an address that is neither. -/
theorem test_hyps_PlantQueryIsDecided :
    let s (a : Byte) := polling bound a false
    let p (n : Byte) : List Byte := [0, n, 7, 0, 0]
    let b (a n : Byte) := burst a 0x23 (p n)
    (∀ x ∈ [((0x20 : Byte), (1 : Byte)), (0x20, 2), (0x21, 1), (0x7E, 1), (0x7E, 2), (0x66, 1)],
      Hears (s x.1) (b x.1 x.2).age (b x.1 x.2) ⟨x.1, false, sec 100 + ms 30⟩ 0x23 (p x.2))
      ∧ (bound.entryOf 0x20 = some 0 ∧ (bound.routeCfg 0).role = .panel)
      ∧ (bound.entryOf 0x21 = some 1 ∧ (bound.routeCfg 1).role = .sensor)
      ∧ (bound.entryOf 0x7E = none ∧ 0x7E = serviceAddress ∧ bound.entryOf 0x66 = none)
      ∧ bound.relay.entries.length ≤ 4 ∧ nodeOf 2 = none
      ∧ nodeOf 1 = some .outdoorUnit ∧ (bound.link .outdoorUnit).state = .ready
      ∧ ({ bound with relay := { resetRelay with entries := [aQuery 0] } }.relay.entries).length ≤ 4 := by
  refine ⟨fun x hx => ?_, by decide +kernel⟩
  simp only [List.mem_cons, List.not_mem_nil, or_false] at hx
  rcases hx with rfl | rfl | rfl | rfl | rfl | rfl <;> exact hears_of (by decide +kernel)

theorem test_hyps_PlantMissEndsItsSlot :
    let s := asking bound .outdoorUnit .accept .query
    let w : PlantWait := ⟨.outdoorUnit, .accept, sec 100 + ms 50⟩
    HearsPlantMiss s 300 ⟨onLine 192 [1, 2], false⟩ w ∧ s.phase = .running ∧ s.plant.wait = some w
      ∧ w.closes ≤ s.now + ms 50 ∧ BeganWithin s (ms 50 + 5) 5 w.closes (ms 50)
      ∧ ¬BeganWithin s (ms 50 + 5) 4 w.closes (ms 50) :=
  ⟨⟨rfl, rfl, ⟨by decide +kernel, by decide +kernel⟩, by unfold BeganWithin; decide +kernel, fun _ _ h => absurd h.sound (by decide +kernel)⟩, rfl, rfl,
    by decide +kernel, by unfold BeganWithin; decide +kernel, by unfold BeganWithin; decide +kernel⟩

/-- A POLL of 10 bytes at 100 s, by the 50 ms of R107, and the MANAGE ANSWER of 20 bytes that went before it at 99.9 s. -/
def overheard : State :=
  { live with room := { live.room with frames := [⟨sec 100, 10⟩, ⟨sec 99 + ms 900, 20⟩] } }

/-- A sound burst and one that is not; a gap of 4 ms exactly; bytes taken away by the POLL, at its first and its last tick, and by
the answer before it; and a WAKE of 6 bytes that just fits into a pause of 150 ticks. -/
theorem test_hyps_BurstsAreCutAndDiscarded :
    (live.phase = .running ∧ live.room.wait = none ∧ live.plant.wait = none)
      ∧ Arrives (burst 0x20 0x20 [1]) (live.now + 0) live.room.frames
      ∧ Arrives (burst 0x20 0x20 [1]) (overheard.now + sec 1) overheard.room.frames
      ∧ Arrives ⟨onLine 192 [1, 2], false⟩ (live.now + 0) live.plant.frames
      ∧ (sound (burst 0x20 0x20 [1]).bytes = true ∧ sound [1, 2] = false)
      ∧ (let c : LineByte := ⟨217 + 25 + ms 4, serial 1⟩
        let d : LineByte := ⟨217, serial 2⟩
        d.age + 25 + ms 4 ≤ c.age
          ∧ ∀ x ∈ [] ++ [c] ++ d :: [],
              25 ≤ x.age ∧ x.age ≤ live.now + 0 ∧ ∀ f ∈ lineFrames live .room, Clear f (live.now + 0) x)
      ∧ (let c : LineByte := ⟨1000 + 25, serial 1⟩
        let m : List LineByte := [⟨1000 + 24, serial 2⟩, ⟨1000 - 249, serial 3⟩]
        let d : LineByte := ⟨1000 - 250, serial 4⟩
        (∀ x ∈ m, ∃ f ∈ lineFrames overheard .room, ¬Clear f (overheard.now + 1000) x)
          ∧ ∀ x ∈ [] ++ [c] ++ d :: [], 25 ≤ x.age ∧ x.age ≤ overheard.now + 1000
            ∧ ∀ f ∈ lineFrames overheard .room, Clear f (overheard.now + 1000) x)
      ∧ (∃ f ∈ lineFrames overheard .room, ¬Clear f (overheard.now + 1000) ⟨1000 + ms 100, serial 1⟩)
      ∧ (let s := { live with plant := { live.plant with frames := [⟨sec 100, 6⟩] } }
        let c : LineByte := ⟨1000 + 25, serial 1⟩
        let d : LineByte := ⟨1000 - 150, serial 2⟩
        c.age < d.age + 25 + ms 4
          ∧ (∃ f ∈ lineFrames s .plant, s.now + 1000 - c.age + 25 ≤ f.start ∧ f.stop ≤ s.now + 1000 - d.age)
          ∧ ∀ x ∈ [] ++ [c] ++ d :: [], 25 ≤ x.age ∧ x.age ≤ s.now + 1000
            ∧ ∀ f ∈ lineFrames s .plant, Clear f (s.now + 1000) x) := by
  refine ⟨by decide +kernel, ⟨by decide +kernel, by decide +kernel⟩, ⟨by decide +kernel, by decide +kernel⟩,
    ⟨by decide +kernel, by decide +kernel⟩, ?_⟩
  unfold Clear
  decide +kernel

/-- R107: a byte over the MANAGE ANSWER is lost also when a POLL has gone out since. -/
theorem test_bytes_over_an_earlier_frame_are_lost :
    (overheard.receiveRoom ⟨onLine (217 + ms 100) [1], false⟩).room.counters.checkErrors = 1
      ∧ ({ overheard with now := sec 101 }.receiveRoom ⟨[⟨sec 1 + ms 99, serial 1⟩], false⟩).room = overheard.room := by
  decide +kernel

/-- R107: a WAKE in a pause of a burst makes two bursts of it, both judged. -/
theorem test_a_frame_parts_a_burst :
    let s := { live with now := sec 100 + 1000, plant := { live.plant with frames := [⟨sec 100, 6⟩] } }
    let b : Burst := ⟨[⟨1000 + 25, serial 1⟩, ⟨1000 - 150, serial 2⟩], false⟩
    (s.receivePlant b).plant.counters.checkErrors = 2 ∧ (live.receivePlant b).plant.counters.checkErrors = 1 := by
  decide +kernel

/-! ### Management -/

/-- A span that fits, one past the end of the table, an item's last index, one beyond it, and an item outside the list. -/
theorem test_hyps_ReadingRequestsAreAnswered :
    (Asked live 0x01 [] ∧ Asked live 0x02 [0x01, 7, 1] ∧ Asked live 0x02 [0x01, 7, 2] ∧ Asked live 0x06 [0x00, 0]
        ∧ Asked live 0x06 [0x01, 255] ∧ Asked live 0x06 [0xFE, 0])
      ∧ tableOf 0x01 = some .zone ∧ 7 + 1 ≤ Table.zone.size ∧ Table.zone.size < 7 + 2 ∧ 1 ≤ Table.zone.limit
      ∧ (∃ top, itemTop 0x00 = some top) ∧ (∃ top, itemTop 0x01 = some top ∧ top < 255) ∧ itemTop 0xFE = none := by
  refine ⟨⟨?_, ?_, ?_, ?_, ?_, ?_⟩, by decide +kernel, by decide +kernel, by decide +kernel, by decide +kernel,
    ⟨_, rfl⟩, ⟨_, rfl, by decide +kernel⟩, by decide +kernel⟩ <;>
    exact asked_of (by decide +kernel) (by decide +kernel)

/-- A Profile with one slot; a Zone record that disables zone 0, one that enables the last zone, and two records. -/
theorem test_hyps_WrittenProfileAndZoneTakeForce :
    let c := { defaultProfile with slots := 1 }
    let d := { defaultZone with enabled := true }
    let q (start : Nat) (xs : List ZoneCfg) : List Byte := [0x01, u8 start, u8 xs.length] ++ xs.flatMap ZoneCfg.bytes
    (Asked live 0x03 ([0x03, 0, 1] ++ c.bytes) ∧ Asked live 0x03 (q 0 [defaultZone]) ∧ Asked live 0x03 (q 7 [d])
        ∧ Asked live 0x03 (q 0 [defaultZone, d]))
      ∧ c.valid = true ∧ live.queue = [] ∧ defaultZone.valid = true ∧ d.valid = true ∧ live.storeState ≠ .saving
      ∧ (live.zoneCfg 0).enabled = true ∧ (live.zoneCfg 7).enabled = false := by
  refine ⟨⟨?_, ?_, ?_, ?_⟩, by decide +kernel⟩ <;> exact asked_of (by decide +kernel) (by decide +kernel)

/-- R3, R12: a zone at Sh 210, Sc 250 and Hd 60, its stored values 200, 240 and 55. A record that changes no setpoint leaves all
three; one that changes one setpoint sets that one alone; and a cool setpoint of 215, too near to 210, takes the stored heat setpoint
with it. -/
theorem test_written_setpoints :
    let r := { resetZoneRun defaultZone with sh := 210, sc := 250, hd := 60 }
    let f (c : ZoneCfg) := let x := r.takeStored defaultZone c; (x.sh, x.sc, x.hd)
    f defaultZone = (210, 250, 60) ∧ f { defaultZone with scSt := 230 } = (210, 230, 60)
      ∧ f { defaultZone with shSt := 230 } = (230, 250, 60) ∧ f { defaultZone with hdSt := 40 } = (210, 250, 40)
      ∧ f { defaultZone with shSt := 241, scSt := 255 } = (241, 255, 60)
      ∧ f { defaultZone with scSt := 215 } = (200, 215, 60) := by decide +kernel

/-- Parameters too short; no such table; a span past the end, one of none, and one of more records than a frame holds; a byte
missing; and a record of each table with a field a step out of its range. -/
theorem test_hyps_WrittenProfileAndZoneTakeForce_refused :
    let route := { panel with weight := 5 }.bytes
    let zone := { defaultZone with shSt := 49 }.bytes
    let damper := { defaultDamper with stroke := 199 }.bytes
    let prof := { defaultProfile with slots := 5 }.bytes
    (∀ q ∈ [[], [0, 0], [4, 0, 1], [1, 8, 1], [0, 0, 0], [1, 0, 3], [1, 0, 1] ++ defaultZone.bytes.drop 1,
        [0, 0, 1] ++ route, [1, 0, 1] ++ zone, [2, 0, 1] ++ damper, [3, 0, 1] ++ prof], Asked live 0x03 q)
      ∧ (tableOf 4 = none ∧ tableOf 0 = some .route ∧ tableOf 1 = some .zone ∧ tableOf 2 = some .damper
        ∧ tableOf 3 = some .profile ∧ live.storeState ≠ .saving)
      ∧ (Table.zone.size < 8 + 1 ∧ Table.zone.limit < 3 ∧ defaultZone.bytes.length = Table.zone.recordLength)
      ∧ (¬RecordFits .route route ∧ ¬RecordFits .zone zone ∧ ¬RecordFits .damper damper ∧ ¬RecordFits .profile prof)
      ∧ ∀ x ∈ [(Table.route, route), (.zone, zone), (.damper, damper), (.profile, prof)],
          (x.2.length = 1 * x.1.recordLength ∧ 0 + 1 ≤ x.1.size ∧ 1 ≤ x.1.limit) := by
  refine ⟨fun q hq => ?_, by decide +kernel, by decide +kernel, ?_, by decide +kernel⟩
  · simp only [List.mem_cons, List.not_mem_nil, or_false] at hq
    rcases hq with rfl | rfl | rfl | rfl | rfl | rfl | rfl | rfl | rfl | rfl | rfl <;>
      exact asked_of (by decide +kernel) (by decide +kernel)
  · unfold RecordFits
    decide +kernel

/-- Channel 0 UNHOMED, in FAULT, waiting for its dead time and driving; with another stroke, the same one, and one that is out
of range. -/
theorem test_hyps_WrittenDamperIsDecided :
    let q (n : Nat) : List Byte := [0x02, 0, 1] ++ { defaultDamper with stroke := n }.bytes
    let at' (x : ChannelState) (t : Time) : State :=
      { live with channels := put live.channels 0 { resetChannel t with state := x } }
    (Asked live 0x03 (q 1000) ∧ Asked live 0x03 (q 1200) ∧ Asked live 0x03 (q 199)
        ∧ Asked (at' .fault 0) 0x03 (q 1000) ∧ Asked (at' .unhomed (sec 100)) 0x03 (q 1000)
        ∧ Asked (at' .moving 0) 0x03 (q 1000))
      ∧ ({ defaultDamper with stroke := 1000 }.bytes.length = 9 ∧ live.storeState ≠ .saving)
      ∧ ((live.channel 0).state = .unhomed ∧ (0 : ChannelId) ∉ live.queue ∧ (live.damperCfg 0).stroke = 1200
        ∧ live.supply.latch = false ∧ live.homingDue = none
        ∧ (live.channel 0).lastOff + ms (live.channel 0).restMs ≤ live.now + 0)
      ∧ live.now + ms 299 < ((at' .unhomed (sec 100)).channel 0).lastOff + ms ((at' .unhomed (sec 100)).channel 0).restMs := by
  refine ⟨⟨?_, ?_, ?_, ?_, ?_, ?_⟩, by decide +kernel⟩ <;> exact asked_of (by decide +kernel) (by decide +kernel)

/-- A house without the sensor, whose panel has a query in the list and on the line. -/
def lone : State :=
  { live with
    tables := { houseTables with routes := put houseTables.routes 1 defaultRoute }
    relay := { resetRelay with entries := [aQuery 3], onLine := some 3 } }

/-- The Route Table with records written from an entry on. -/
def rewritten (s : State) (start : Nat) (xs : List RouteCfg) : Vector RouteCfg 16 :=
  tab fun j => if start ≤ j.val then (xs[j.val - start]?).getD (s.routeCfg j) else s.routeCfg j

/-- Entry 0 with the address of entry 1; with a new address, role or zone, beside the sensor and alone in the zone; taken out
of use; and with a new weight alone. A zone gains its first source, loses its last, and keeps others; it gets another PANEL
and is left without one. -/
theorem test_hyps_RouteWriteIsAllOrNothing :
    let a := { panel with address := 0x21 }
    let b := { panel with address := 0x23 }
    let c := { panel with weight := 4 }
    let d := { panel with zone := some 5 }
    let e := { panel with role := .sensor }
    let f := { panel with used := false, house := false, notice := false }
    (∀ s ∈ [live, lone], ∀ x ∈ [a, b, c, d, e, f], Asked s 0x03 ([0x00, u8 0, u8 [x].length] ++ [x].flatMap RouteCfg.bytes))
      ∧ (∀ x ∈ [a, b, c, d, e, f], x.valid = true ∧ x.stored = x)
      ∧ (∀ s ∈ [live, lone], s.storeState ≠ .saving ∧ uniqueRoutes s.tables.routes = true)
      ∧ uniqueRoutes (rewritten live 0 [a]) = false
      ∧ (∀ s ∈ [live, lone], ∀ x ∈ [b, c, d, e, f], uniqueRoutes (rewritten s 0 [x]) = true)
      ∧ (live.routeCfg 0 = panel ∧ lone.routeCfg 0 = panel ∧ panel.used = true ∧ panel.role = .panel)
      ∧ (panel.address ≠ b.address ∧ panel.address = c.address ∧ panel.zone ≠ d.zone ∧ panel.role ≠ e.role
        ∧ f.used = false)
      ∧ ((live.routeCfg 1).used = true ∧ (live.routeCfg 1).role = .sensor ∧ (live.routeCfg 1).zone = panel.zone)
      ∧ (∀ i : RouteId, i ≠ 0 → (lone.routeCfg i).zone = panel.zone → (lone.routeCfg i).used = false)
      ∧ (∀ i : RouteId, (live.routeCfg i).zone ≠ some 5) ∧ d.zone = some 5
      ∧ (aQuery 3).requester = panel.address ∧ lone.relay.onLine = some (aQuery 3).tag := by
  refine ⟨fun s hs x hx => ?_, by decide +kernel⟩
  have h : ∀ s ∈ [live, lone], s.phase = .running ∧ s.roleOf (s.senderAt 0x22) = some .tool
      ∧ ∀ f ∈ s.room.frames, f.stop ≤ s.now := by decide +kernel
  have h' := h s hs
  simp only [List.mem_cons, List.not_mem_nil, or_false] at hx
  rcases hx with rfl | rfl | rfl | rfl | rfl | rfl <;>
    exact asked_of ⟨h'.1, h'.2.1, h'.2.2, by decide +kernel⟩ (by decide +kernel)

/-- Entries 0 and 1 change places, the panel and the sensor; five records, the last of them for the last entry; and two
records of one address. -/
theorem test_hyps_RouteWriteIsAllOrNothing_several :
    let q (start : Nat) (xs : List RouteCfg) : List Byte := [0x00, u8 start, u8 xs.length] ++ xs.flatMap RouteCfg.bytes
    let last := { panel with address := 0x6F, zone := some 7, notice := false }
    let five := [defaultRoute, defaultRoute, defaultRoute, defaultRoute, last]
    (Asked live 0x03 (q 0 [sensor, panel]) ∧ Asked live 0x03 (q 11 five) ∧ Asked live 0x03 (q 3 [panel, panel]))
      ∧ (∀ x ∈ [sensor, panel] ++ five, x.valid = true ∧ x.stored = x)
      ∧ (five.length = 5 ∧ 11 + five.length = 16 ∧ live.storeState ≠ .saving)
      ∧ uniqueRoutes (rewritten live 0 [sensor, panel]) = true ∧ uniqueRoutes (rewritten live 11 five) = true
      ∧ uniqueRoutes (rewritten live 3 [panel, panel]) = false := by
  refine ⟨⟨?_, ?_, ?_⟩, by decide +kernel⟩ <;> exact asked_of (by decide +kernel) (by decide +kernel)

/-- With no save under way, in NORMAL and in SAG, and with one under way, in a commissioned house and in another. -/
theorem test_hyps_SaveBeginsOnceAndEnds :
    let sagging := { live with supply := { live.supply with supply := .sag } }
    let saving := { live with storeState := .saving, saving := some live.tables }
    (Asked live 0x04 [] ∧ Asked sagging 0x04 [] ∧ Asked saving 0x04 [] ∧ Asked saving 0x05 []
        ∧ Asked saving 0x03 [0x01, 0, 1])
      ∧ live.storeState ≠ .saving ∧ live.supply.supply = .normal ∧ sagging.supply.supply = .sag
      ∧ (tableOf 0x01).isSome = true
      ∧ (saving.phase = .running ∧ saving.storeState = .saving ∧ saving.saving = some live.tables
        ∧ saving.house ≠ .uncommissioned)
      ∧ { saving with arbiter := resetArbiter }.house = .uncommissioned := by
  refine ⟨⟨?_, ?_, ?_, ?_, ?_⟩, by decide +kernel⟩ <;> exact asked_of (by decide +kernel) (by decide +kernel)

theorem test_hyps_RestartBringsALineReset :
    let s := { live with room := { live.room with restartDue := some (sec 100) } }
    Asked live 0x05 [] ∧ live.storeState ≠ .saving ∧ s.phase = .running ∧ s.room.restartDue = some (sec 100)
      ∧ sec 100 ≤ s.now + 0 :=
  ⟨asked_of (by decide +kernel) (by decide +kernel), by decide +kernel⟩

/-- The first and the last event code together, no code at all, and a code that is no event beside one that is. -/
theorem test_hyps_ClearEventsClears :
    let codes : List Byte := [0, 15]
    let wrong : List Byte := [1, 16]
    (Asked live 0x07 (u8 codes.length :: codes) ∧ Asked live 0x07 [0] ∧ Asked live 0x07 (u8 wrong.length :: wrong))
      ∧ codes.length ≤ 16 ∧ (∀ c ∈ codes, c.toNat ≤ 15) ∧ ∃ c ∈ wrong, 15 < c.toNat := by
  refine ⟨⟨?_, ?_, ?_⟩, by decide +kernel⟩ <;> exact asked_of (by decide +kernel) (by decide +kernel)

/-- The house shut down, with the input released. -/
def relieved : State := { halted with supply := ⟨.normal, .released, true, 0⟩ }

/-- The same with its channels in FAULT, IDLE with nothing to adopt, with a target that needs motion and with one that needs
none, SETTLING for 50 ms yet and at its settle end, UNHOMED within its dead time and after it. -/
def relievedDrives : State :=
  let r := { resetChannel 0 with homed := true, state := .idle }
  let u := { resetChannel (sec 100) with deadDue := some (sec 100 + ms 50), state := .settling }
  { relieved with
    channels := tab fun c => if c = 0 then { resetChannel 0 with state := .fault } else if c = 1 then r
      else if c = 2 then { r with target := some 50 } else if c = 3 then { r with target := some 50, count := 600 }
      else if c = 4 then u else if c = 5 then { resetChannel 0 with deadDue := some (sec 100), state := .settling }
      else if c = 6 then resetChannel (sec 100) else resetChannel 0 }

theorem test_hyps_ClearShutdownIsDecided :
    let s := relievedDrives
    let runs (c : ChannelId) (dt : Nat) : Prop := (s.channel c).lastOff + ms (s.channel c).restMs ≤ s.now + dt
    let b := (asks 0x08 []).age
    (Asked halted 0x08 [] ∧ Asked live 0x08 [] ∧ Asked s 0x08 [] ∧ HouseHolds s)
      ∧ halted.supply.input = .asserted ∧ live.supply.input = .released ∧ live.supply.latch = false
      ∧ s.supply.input = .released ∧ s.supply.latch = true ∧ s.house = .halt ∧ (∀ c : ChannelId, c ∉ s.queue)
      ∧ (s.channel 0).state = .fault ∧ ((s.channel 1).state = .idle ∧ (s.channel 1).target = none)
      ∧ (∀ c ∈ [(2 : ChannelId), 3], (s.channel c).state = .idle ∧ (s.channel c).homed = true
        ∧ (s.channel c).target = some 50 ∧ (s.channel c).taken = false ∧ runs c b)
      ∧ ((s.channel 2).count = 0 ∧ (s.channel 3).count = 600 ∧ goalFor (s.damperCfg 2) 50 = .move 600)
      ∧ ((s.channel 4).state = .settling ∧ (s.channel 4).deadDue = some (sec 100 + ms 50) ∧ s.now + b < sec 100 + ms 50)
      ∧ ((s.channel 5).state = .settling ∧ (s.channel 5).homed = false ∧ (s.channel 5).deadDue = some (sec 100) ∧ runs 5 b)
      ∧ ((s.channel 6).state = .unhomed ∧ ¬runs 6 b) ∧ ((s.channel 7).state = .unhomed ∧ runs 7 b)
      ∧ s.homingDue = none := by
  refine ⟨⟨?_, ?_, ?_, ?_⟩, by decide +kernel⟩
  · exact asked_of (by decide +kernel) (by decide +kernel)
  · exact asked_of (by decide +kernel) (by decide +kernel)
  · exact asked_of (by decide +kernel) (by decide +kernel)
  · exact ⟨rfl, Or.inl rfl, fun _ => rfl, fun _ => ⟨rfl, rfl, rfl⟩, fun _ => Or.inl rfl, rfl, fun _ => rfl, rfl, rfl,
      fun h => absurd rfl h⟩

/-- Channel 7 in FAULT, with the latch clear and set, after its dead time and within it; channel 0 in another state, and no
channel 8. -/
theorem test_hyps_ReleaseDamperIsDecided :
    let f (x : State) (off : Time) : State :=
      { x with channels := put x.channels 7 { resetChannel off with state := .fault } }
    let s := f live 0
    let u := f live (sec 100)
    let b := (asks 0x09 [7]).age
    (Asked s 0x09 [7] ∧ Asked (f halted 0) 0x09 [7] ∧ Asked u 0x09 [7] ∧ Asked s 0x09 [0] ∧ Asked s 0x09 [8])
      ∧ (∀ x ∈ [s, f halted 0, u], (x.channel 7).state = .fault ∧ (7 : ChannelId) ∉ x.queue ∧ x.homingDue = none)
      ∧ (s.supply.latch = false ∧ (s.channel 7).lastOff + ms (s.channel 7).restMs ≤ s.now + b)
      ∧ (f halted 0).supply.latch = true ∧ ¬(u.channel 7).lastOff + ms (u.channel 7).restMs ≤ u.now + b
      ∧ (s.channel 0).state ≠ .fault := by
  refine ⟨⟨?_, ?_, ?_, ?_, ?_⟩, by decide +kernel⟩ <;> exact asked_of (by decide +kernel) (by decide +kernel)

theorem test_hyps_ClearCountersClears : Asked live 0x0A [] := asked_of (by decide +kernel) (by decide +kernel)

/-- A request of the panel; and codes 0 and 11 from the tool. -/
theorem test_hyps_RequestsAreChecked :
    (Hears (polling live 0x20 false) (burst 0x20 0x24 [0, 1]).age (burst 0x20 0x24 [0, 1])
        ⟨0x20, false, sec 100 + ms 30⟩ 0x24 [0, 1]
        ∧ ¬FromTool (polling live 0x20 false) ⟨0x20, false, sec 100 + ms 30⟩)
      ∧ Asked live 0 [] ∧ Asked live 11 [] :=
  ⟨⟨hears_of (by decide +kernel), by unfold FromTool; decide +kernel⟩,
    asked_of (by decide +kernel) (by decide +kernel), asked_of (by decide +kernel) (by decide +kernel)⟩

/-! ### The plant line -/

/-- The first slot of a round may be any of the three, or none. -/
theorem test_hyps_PlantRoundsSend_first_slot :
    let sends (s : State) (n : Node) : Bool :=
      decide ((s.link n).state ≠ .down) ||
        (match s.plant.lastWake.get n with | some t => decide (t + sec 2 ≤ s.now) | none => true)
    let s1 := { live with
      plant := { live.plant with lastWake := ⟨some (sec 99), none⟩ } }
    let s2 := { live with
      plant := { live.plant with lastWake := ⟨some (sec 99), some (sec 99)⟩ }
      relay := { resetRelay with entries := [aQuery 0] } }
    let s3 := { s2 with relay := resetRelay }
    (live.phase = .running ∧ live.plant.wait = none ∧ live.plant.sendAfter ≤ live.now + 0
        ∧ live.plant.roundDue = some (sec 100) ∧ sec 100 ≤ live.now + 0 ∧ live.plant.slot = .over)
      ∧ sends live .airHandler = true ∧ (sends s1 .airHandler, sends s1 .outdoorUnit) = (false, true)
      ∧ (sends s2 .airHandler, sends s2 .outdoorUnit, s2.relay.offered.isSome) = (false, false, true)
      ∧ (sends s3 .airHandler, sends s3 .outdoorUnit) = (false, false) ∧ s3.relay.offered = none := by decide +kernel

/-- The port is free in the slot of a bound node; and of a node that is DOWN, with no WAKE so far, one 2 s ago and one a tick
later. -/
theorem test_hyps_PlantRoundsSend :
    let s := { bound with plant := { bound.plant with slot := .outdoorUnit } }
    let d (w : Option Time) := { live with plant := { live.plant with slot := .airHandler, lastWake := ⟨w, none⟩ } }
    (s.phase = .running ∧ s.plant.wait = none ∧ s.plant.sendAfter ≤ s.now + 0 ∧ s.plant.slot = slotOf .outdoorUnit
        ∧ (s.link .outdoorUnit).state ≠ .down)
      ∧ ((d none).plant.slot = slotOf .airHandler ∧ ((d none).link .airHandler).state = .down)
      ∧ (d none).plant.lastWake.get .airHandler = none
      ∧ (d (some (sec 98))).plant.lastWake.get .airHandler = some (sec 98) ∧ sec 98 + sec 2 ≤ (d none).now + 0
      ∧ (d none).now + 0 < (sec 98 + 1) + sec 2
      ∧ s.plant.dueSince + ms 50 ≤ s.now + 0 ∧ 191 < ms 4
      ∧ { s with plant := { s.plant with dueSince := s.now } }.now + (ms 50 - 1) < s.now + ms 50 := by decide +kernel

/-- Two queries of which the second waits; and an acceptance of the tag on the line. -/
theorem test_hyps_QueriesGoOutAndAreAccepted :
    let e := { aQuery 0 with state := .sent }
    let s := { bound with
      plant := { bound.plant with slot := .query }
      relay := { resetRelay with entries := [e] ++ { aQuery 1 with requester := 0x22 } :: [] } }
    let t := asking { s with relay := { s.relay with onLine := some 1 } } .outdoorUnit .accept .query
    let b := burst 0x48 0x46 [1]
    HearsPlant t b.age b ⟨.outdoorUnit, .accept, sec 100 + ms 50⟩ 0x46 [1] ∧ t.plant.slot = .query
      ∧ (s.phase = .running ∧ s.plant.wait = none ∧ s.plant.sendAfter ≤ s.now + 0 ∧ s.plant.slot = .query
        ∧ s.relay.onLine = none ∧ s.plant.dueSince + ms 50 ≤ s.now + 0)
      ∧ ∀ x ∈ [e], x.state ≠ .waiting :=
  ⟨hears_plant_of (by decide +kernel), by decide +kernel⟩

/-- A sent query whose answer comes, another answer, and its expiry at its moment; in a PLANT STATUS, to a relay that takes its
part first, and to one that takes it after a link that stays READY. -/
theorem test_hyps_QueriesEnd :
    let e := { aQuery 15 with state := .sent, sentTime := some (sec 98), answerDue := some (sec 100) }
    let s := { bound with relay := { resetRelay with entries := [] ++ e :: [{ aQuery 3 with requester := 0x22 }] } }
    let a : AnswerPart := ⟨15, 0, 0⟩
    let q := asking s .outdoorUnit .status .outdoorUnit
    let w : PlantWait := ⟨.outdoorUnit, .status, sec 100 + ms 50⟩
    let p (tag : Byte) : List Byte := [0, 0, 0, 2, 0, 0, 0, 0, tag, 1, 0, 0, 0, 7]
    let b (tag : Byte) (o : Bool) : Burst := { burst 0x48 0x44 (p tag) with relayFirst := o }
    (HearsPlant q (b 15 true).age (b 15 true) w 0x44 (p 15) ∧ HearsPlant q (b 15 false).age (b 15 false) w 0x44 (p 15)
        ∧ HearsPlant q (b 3 false).age (b 3 false) w 0x44 (p 3))
      ∧ ((q.link .outdoorUnit).state.reachable = true ∧ ∃ t, exec (.plantStatus (b 15 false).age (b 15 false)) q = .next t
        ∧ (t.link .outdoorUnit).state.reachable = true)
      ∧ (e.state = .sent ∧ e.tag = a.tag ∧ e.target = .outdoorUnit
      ∧ (∀ x ∈ [] ++ [{ aQuery 3 with requester := 0x22 }], x.tag ≠ a.tag)
      ∧ (∀ x ∈ s.relay.entries, ¬(x.state = .sent ∧ x.tag = 3 ∧ x.target = .outdoorUnit))
      ∧ 14 ≤ (p 3).length ∧ s.phase = .running ∧ e.answerDue = some (sec 100) ∧ sec 100 ≤ s.now + 0) :=
  ⟨⟨hears_plant_of (by decide +kernel), hears_plant_of (by decide +kernel), hears_plant_of (by decide +kernel)⟩,
    ⟨by decide +kernel, _, rfl, by decide +kernel⟩, by decide +kernel⟩

/-- A report of the outdoor unit with a valid slot 1 and a fault code, from a link that is DOWN. -/
theorem test_hyps_StatusesMoveTheLink :
    let s := asking live .outdoorUnit .status .outdoorUnit
    let p : List Byte := [0, 0, 7, 1, 30, 1, 0, 0]
    let b := burst 0x48 0x44 p
    HearsPlant s b.age b ⟨.outdoorUnit, .status, sec 100 + ms 50⟩ 0x44 p ∧ LinkHolds (s.link .outdoorUnit)
      ∧ (s.link .outdoorUnit).state = .down ∧ p.length < 14 ∧ s.house.compressor = false
      ∧ nat16 (byteAt p 1) (byteAt p 2) ≠ 0 ∧ reportedState .outdoorUnit (byteAt p 0) = some .idle :=
  ⟨hears_plant_of (by decide +kernel), link_holds_reset, by decide +kernel⟩

/-- An outdoor unit whose slots 1 to 4 have come. -/
def outdoorBinding : Link :=
  { resetLink with
    state := .binding, bindDue := some (sec 130), expected := some 4, runLength := 4,
    annex := put resetLink.annex 0 ⟨some (.capability (.outdoor 30 true)), 4⟩ }

/-- Slot 5 completes its run, under LEVEL 3 with the cap below its Cmin. -/
theorem test_hyps_StatusesMoveTheLink_binding :
    let s := asking { live with
      links := ⟨resetLink, outdoorBinding⟩
      decoder := { resetDecoder false with level := .level3, holdDue := some (sec 1000) } } .outdoorUnit .status .outdoorUnit
    let p : List Byte := [0, 0, 0, 5, 0, 0, 0, 9]
    let b := burst 0x48 0x44 p
    HearsPlant s b.age b ⟨.outdoorUnit, .status, sec 100 + ms 50⟩ 0x44 p ∧ LinkHolds (s.link .outdoorUnit)
      ∧ s.house.compressor = false ∧ s.commandedOn .outdoorUnit = false ∧ (s.link .outdoorUnit).state = .binding
      ∧ (s.link .outdoorUnit).runLength = 4 ∧ (s.link .outdoorUnit).expected = some 4 ∧ byteAt p 3 = 5
      ∧ annexValueOf .outdoorUnit 4 (byteAt p 4) (byteAt p 5) (byteAt p 6) (byteAt p 7) = some (.counter 9)
      ∧ (s.link .outdoorUnit).slot1 = some (.outdoor 30 true) ∧ s.cap < 30 ∧ s.house = .idle :=
  ⟨hears_plant_of (by decide +kernel),
    ⟨rfl, rfl, rfl, rfl, rfl, fun h => (nomatch h), fun h => (nomatch h), fun h => (nomatch h), fun _ _ => rfl⟩,
    by decide +kernel⟩

/-- A SILENT link with its stop sequence open or not, and RUNNING or IDLE reported, in COOL; a STOPPING link after two STOP
commands and after three. -/
theorem test_hyps_StatusesMoveTheLink_returns :
    let x (st : LinkState) (o : Bool) (k : Nat) : Link :=
      { outdoorReady with
        state := st, silenceDue := if st = .silent then none else some (sec 101)
        lossDue := if st = .silent then some (sec 160) else none
        stopOpen := o, stopCount := k, stopDue := if o then some (sec 110) else none }
    let s (l : Link) := asking { cooling with links := ⟨airReady, l⟩ } .outdoorUnit .status .outdoorUnit
    let p (st : Byte) : List Byte := [st, 0, 0, 2, 0, 0, 0, 0]
    let b (st : Byte) := burst 0x48 0x44 (p st)
    let w : PlantWait := ⟨.outdoorUnit, .status, sec 100 + ms 50⟩
    (∀ l ∈ [x .silent true 2, x .silent true 3, x .silent false 0, x .stopping true 2, x .stopping true 3],
      ∀ st ∈ [(0 : Byte), 2], HearsPlant (s l) (b st).age (b st) w 0x44 (p st))
      ∧ (∀ st ∈ [(0 : Byte), 2], byteAt (p st) 0 = st ∧ byteAt (p st) 0 ≠ 5 ∧ 2 ≤ (byteAt (p st) 3).toNat)
      ∧ (s (x .silent true 2)).commandedOn .outdoorUnit = true ∧ live.commandedOn .outdoorUnit = false := by
  refine ⟨fun l hl st hst => ?_, by decide +kernel⟩
  simp only [List.mem_cons, List.not_mem_nil, or_false] at hl hst
  rcases hl with rfl | rfl | rfl | rfl | rfl <;> rcases hst with rfl | rfl <;> exact hears_plant_of (by decide +kernel)

theorem house_holds_cooling : HouseHolds cooling :=
  ⟨rfl, Or.inl rfl, fun h => (nomatch h), fun h => (nomatch h), fun h => (nomatch h), rfl, fun _ => rfl, rfl, rfl,
    fun h => absurd rfl h⟩

theorem house_holds_asking (n : Node) : HouseHolds (asking cooling n .status (slotOf n)) :=
  ⟨rfl, Or.inl rfl, fun h => (nomatch h), fun h => (nomatch h), fun h => (nomatch h), rfl, fun _ => rfl, rfl, rfl,
    fun h => absurd rfl h⟩

theorem links_hold_bound : LinksHold bound := fun n => match n with
  | .airHandler => ⟨rfl, rfl, rfl, rfl, rfl, fun h => (nomatch h), fun h => (nomatch h), fun h => (nomatch h), fun h => (nomatch h)⟩
  | .outdoorUnit => ⟨rfl, rfl, rfl, rfl, rfl, fun h => (nomatch h), fun h => (nomatch h), fun h => (nomatch h), fun h => (nomatch h)⟩

/-- In COOL: another Cmin, below the cap; no heat pump any more; and other air limits, without the reheat element. -/
theorem test_hyps_StatusesMoveTheLink_capability :
    let s (n : Node) := asking cooling n .status (slotOf n)
    let p (x y z : Byte) : List Byte := [0, 0, 0, 1, x, y, z, 0]
    let b (n : Node) (x y z : Byte) := burst (nodeAddress n) 0x44 (p x y z)
    let w (n : Node) : PlantWait := ⟨n, .status, sec 100 + ms 50⟩
    (∀ n, HouseHolds (s n) ∧ LinksHold (s n))
      ∧ HearsPlant (s .outdoorUnit) (b .outdoorUnit 40 1 0).age (b .outdoorUnit 40 1 0) (w .outdoorUnit) 0x44 (p 40 1 0)
      ∧ HearsPlant (s .outdoorUnit) (b .outdoorUnit 30 0 0).age (b .outdoorUnit 30 0 0) (w .outdoorUnit) 0x44 (p 30 0 0)
      ∧ HearsPlant (s .airHandler) (b .airHandler 60 80 0).age (b .airHandler 60 80 0) (w .airHandler) 0x44 (p 60 80 0)
      ∧ ((cooling.link .outdoorUnit).cap = some (.outdoor 30 true) ∧ (cooling.link .airHandler).cap = some (.air 250 900 true))
      ∧ (capabilityOf .outdoorUnit 40 1 0 = some (.outdoor 40 true) ∧ capabilityOf .outdoorUnit 30 0 0 = some (.outdoor 30 false)
        ∧ capabilityOf .airHandler 60 80 0 = some (.air 300 800 false))
      ∧ 40 ≤ cooling.cap ∧ { cooling with decoder := { resetDecoder false with level := .level3 } }.cap < 40 :=
  ⟨fun n => match n with
    | .airHandler => ⟨house_holds_asking _, fun m => match m with
      | .airHandler => links_hold_bound .airHandler | .outdoorUnit => links_hold_bound .outdoorUnit⟩
    | .outdoorUnit => ⟨house_holds_asking _, fun m => match m with
      | .airHandler => links_hold_bound .airHandler | .outdoorUnit => links_hold_bound .outdoorUnit⟩,
    hears_plant_of (by decide +kernel), hears_plant_of (by decide +kernel), hears_plant_of (by decide +kernel),
    by decide +kernel⟩

/-- The cooling house turned to HEAT, and to DEFROST. -/
def heating (h : HouseState) : State :=
  { cooling with
    arbiter := { cooling.arbiter with
      house := h, lastRun := some .heat, remembered := if h = .defrost then some 300 else none }
    command := ⟨.heat, 30, .heat, 250, false, h = .defrost⟩ }

theorem house_holds_heating : HouseHolds (heating .heat) :=
  ⟨rfl, Or.inl rfl, fun h => (nomatch h), fun h => (nomatch h), fun h => (nomatch h), rfl, fun _ => rfl, rfl, rfl,
    fun h => absurd rfl h⟩

/-- RUNNING with the items of slots 2 and 5, in COOL and in DEFROST; and DEFROST, in HEAT. -/
theorem test_hyps_RunningAndDefrostAreTaken :
    let s := asking cooling .outdoorUnit .status .outdoorUnit
    let d := asking (heating .defrost) .outdoorUnit .status .outdoorUnit
    let e := asking (heating .heat) .outdoorUnit .status .outdoorUnit
    let p (st k : Byte) : List Byte := [st, 0, 0, k, 0, 0, 0, 0]
    let b (st k : Byte) := burst 0x48 0x44 (p st k)
    let w : PlantWait := ⟨.outdoorUnit, .status, sec 100 + ms 50⟩
    (HearsPlant s (b 2 2).age (b 2 2) w 0x44 (p 2 2) ∧ HearsPlant d ((b 2 5).age + ms 50) (b 2 5) w 0x44 (p 2 5)
        ∧ HearsPlant e (b 3 2).age (b 3 2) w 0x44 (p 3 2) ∧ HouseHolds e)
      ∧ ((s.link .outdoorUnit).state = .ready ∧ s.commandedOn .outdoorUnit = true)
      ∧ (annexValueOf .outdoorUnit 1 0 0 0 0).isSome = true ∧ (annexValueOf .outdoorUnit 4 0 0 0 0).isSome = true
      ∧ ((d.link .outdoorUnit).state = .ready ∧ d.commandedOn .outdoorUnit = true ∧ d.house = .defrost
        ∧ d.arbiter.remembered = some 300 ∧ d.airLimits = some (250, 900))
      ∧ e.house = .heat ∧ e.airLimits = some (250, 900) :=
  ⟨⟨hears_plant_of (by decide +kernel), hears_plant_of (by decide +kernel), hears_plant_of (by decide +kernel),
    ⟨rfl, Or.inl rfl, fun h => (nomatch h), fun h => (nomatch h), fun h => (nomatch h), rfl, fun _ => rfl, rfl, rfl,
      fun h => absurd rfl h⟩⟩, by decide +kernel⟩

theorem test_hyps_LinksGoDown :
    let b := { live with links := ⟨{ resetLink with state := .binding, bindDue := some (sec 100) }, resetLink⟩ }
    let l := { cooling with
      links := ⟨airReady, { outdoorReady with state := .silent, silenceDue := none, lossDue := some (sec 100) }⟩ }
    (b.phase = .running ∧ sec 100 ≤ b.now + 0 ∧ (b.link .airHandler).state = .binding
        ∧ (b.link .airHandler).bindDue = some (sec 100) ∧ b.house ≠ .shed)
      ∧ l.phase = .running ∧ (l.link .outdoorUnit).state = .silent ∧ (l.link .outdoorUnit).lossDue = some (sec 100)
      ∧ l.house.compressor = true ∧ (l.link .outdoorUnit).cap.isSome = true
      ∧ (l.link .outdoorUnit).nodeState ≠ some .locked := by decide +kernel

/-- Silence in READY and in STOPPING, and the stop timer in STOPPING. -/
theorem test_hyps_LinkTimersAct :
    let st := { airReady with state := .stopping, stopOpen := true, stopDue := some (sec 101) }
    let s := { live with links := ⟨st, outdoorReady⟩ }
    s.phase = .running ∧ sec 101 ≤ s.now + sec 1
      ∧ (s.link .outdoorUnit).silenceDue = some (sec 101) ∧ (s.link .outdoorUnit).state = .ready
      ∧ (s.link .airHandler).silenceDue = some (sec 101) ∧ (s.link .airHandler).state = .stopping
      ∧ (s.link .airHandler).stopDue = some (sec 101) := by decide +kernel

/-! ### Zones, house and computation -/

/-- Section 1.5: with Sc = 240 a zone starts cooling at 245 and keeps cooling down to 239; with Sh = 200 it starts heating at 195
and keeps heating up to 201; and a DRY call, at 5 %RH over Hd and 1 °C over Sh, and above them. -/
theorem test_hyps_CallsStartAndContinue :
    let r (c : Call) (t : Int) := { resetZoneRun defaultZone with call := c, t := some t }
    let d (c : Call) (t h : Int) := { r c t with h := some h }
    (r .none 245).call = .none ∧ (r .cool 239).call = .cool ∧ defaultZone.permission ≠ .heatOnly
      ∧ defaultZone.permission ≠ .coolOnly ∧ (r .none 245).sc = 240 ∧ (r .none 195).sh = 200 ∧ (r .none 195).hd = 55
      ∧ { defaultZone with permission := .heatOnly }.permission = .heatOnly
      ∧ callFormed defaultProfile defaultZone (r .none 245) = .cool
      ∧ callFormed defaultProfile defaultZone (r .none 244) = .none
      ∧ callKept defaultProfile defaultZone (r .cool 239) = .cool
      ∧ callKept defaultProfile defaultZone (r .cool 238) = .none
      ∧ callFormed defaultProfile defaultZone (r .none 195) = .heat
      ∧ callFormed defaultProfile defaultZone (r .none 196) = .none
      ∧ callKept defaultProfile defaultZone (r .heat 201) = .heat
      ∧ callKept defaultProfile defaultZone (r .heat 202) = .none
      ∧ callFormed defaultProfile defaultZone (d .none 210 60) = .dry
      ∧ callFormed defaultProfile defaultZone (d .none 209 60) = .none
      ∧ callFormed defaultProfile defaultZone (d .none 210 59) = .none
      ∧ callKept defaultProfile defaultZone (d .dry 206 56) = .dry
      ∧ callKept defaultProfile defaultZone (d .dry 205 56) = .none
      ∧ callKept defaultProfile defaultZone (d .dry 206 55) = .none
      ∧ callKept defaultProfile defaultZone (d .dry 245 56) = .cool
      ∧ ((r .none 250).evaluate defaultProfile defaultZone true).demand ≠ 0
      ∧ 10 ≤ (r .none 250).sc - (r .none 250).sh ∧ 3 ≤ defaultProfile.ton := by decide +kernel

theorem test_hyps_CycleEvaluatesEveryZone :
    live.phase = .running ∧ live.arbiter.cycleDue = some (sec 100) ∧ sec 100 ≤ live.now + 0 := by decide +kernel

/-- The bound house with zone 0 warm: the cycle starts COOL; and with no call it stays IDLE. -/
def warm : State :=
  { bound with zones := put bound.zones 0 { bound.zone 0 with t := some 268, loss := .running (sec 160) } }

theorem house_holds_idle (s : State) (hc : s.command = resetCommand) (hl : s.supply.latch = false)
    (ha : s.arbiter = { resetArbiter with house := .idle, restStart := some 0, cycleDue := some (sec 100) })
    (hp : s.phase = .running) : HouseHolds s := by
  refine ⟨?_, Or.inl ?_, fun _ => ?_, fun _ => ?_, fun h => ?_, ?_, fun _ => ?_, ?_, ?_, fun h => absurd hp h⟩
  all_goals simp_all [resetCommand, HouseState.outMode, HouseState.airMode, resetArbiter, State.house, Command.outOn]

/-- LEVEL 3 holds a house: the cap is 0, below every Cmin. -/
def capped (s : State) : State := { s with decoder := { s.decoder with level := .level3, holdDue := some (sec 4000) } }

/-- A warm house starts, or with the cap below Cmin sheds; one that has not rested waits, and one without a call stays as it is
or turns to FAN for the panel. -/
theorem test_hyps_IdleAndFanDecide :
    let e (s : State) := (s.elapse (sec 100)).evaluateZones
    let windy := { bound with zones := put bound.zones 0 { bound.zone 0 with fan := true, loss := .running (sec 260) } }
    let sums (s : State) := (e s).sumCool + (e s).sumDry + (e s).sumHeat
    (warm.phase = .running ∧ warm.arbiter.cycleDue = some (sec 100) ∧ sec 100 ≤ warm.now + sec 100 ∧ warm.house = .idle)
      ∧ (HouseHolds warm ∧ HouseHolds bound ∧ HouseHolds windy ∧ HouseHolds (capped warm))
      ∧ ((capped warm).cap < 30 ∧ (capped warm).cmin = some 30 ∧ (capped warm).bothStartable = true
        ∧ 0 < sums (capped warm) ∧ (capped warm).arbiter = warm.arbiter ∧ (capped warm).phase = .running
        ∧ (e (capped warm)).chooseTarget = (e warm).chooseTarget)
      ∧ Rested warm (warm.now + sec 100) (e warm).chooseTarget.runMode ∧ ¬Rested warm (sec 1) .cool
      ∧ (0 < sums warm ∧ warm.bothStartable = true ∧ warm.cmin = some 30 ∧ 30 ≤ warm.cap)
      ∧ (sums bound = 0 ∧ (e bound).anyFan = false)
      ∧ sums windy = 0 ∧ (e windy).anyFan = true ∧ windy.startable .airHandler = true := by
  refine ⟨by decide +kernel, ⟨?_, ?_, ?_, ?_⟩, by decide +kernel, ⟨0, by decide +kernel, by decide +kernel⟩, ?_,
    by decide +kernel⟩
  · exact house_holds_idle _ (by decide +kernel) (by decide +kernel) (by decide +kernel) (by decide +kernel)
  · exact house_holds_idle _ (by decide +kernel) (by decide +kernel) (by decide +kernel) (by decide +kernel)
  · exact house_holds_idle _ (by decide +kernel) (by decide +kernel) (by decide +kernel) (by decide +kernel)
  · exact house_holds_idle _ (by decide +kernel) (by decide +kernel) (by decide +kernel) (by decide +kernel)
  · rintro ⟨r, hr, h⟩
    have : r = 0 := by
      have h0 : warm.arbiter.restStart = some 0 := by decide +kernel
      exact Option.some.inj (hr.symm.trans h0)
    subst this
    revert h
    decide +kernel

/-- A cooling house with a caller of each family and with none, before and after the minimum run; a heating one; and the cooling
one with a caller and the cap below Cmin. -/
theorem test_hyps_RunningHouseDecides :
    let zone (s : State) (t : Int) : State :=
      { s with zones := put s.zones 0 { s.zone 0 with t := some t, loss := .running (sec 600) } }
    let e (s : State) (dt : Nat) := (s.elapse dt).evaluateZones
    let sums (s : State) (dt : Nat) := ((e s dt).sumCool, (e s dt).sumDry, (e s dt).sumHeat)
    (cooling.phase = .running ∧ cooling.arbiter.cycleDue = some (sec 100) ∧ sec 100 ≤ cooling.now + 0
        ∧ cooling.house = .cool ∧ (heating .heat).house = .heat)
      ∧ (HouseHolds cooling ∧ HouseHolds (heating .heat) ∧ HouseHolds (capped (zone cooling 268)))
      ∧ (0 < (sums (capped (zone cooling 268)) 0).1 ∧ (sums (capped (zone cooling 268)) 0).2.2 = 0
        ∧ (capped (zone cooling 268)).cmin = some 30 ∧ (capped (zone cooling 268)).cap < 30)
      ∧ (0 < (sums (zone cooling 268) 0).1 ∧ 0 < (sums (zone cooling 100) (sec 250)).2.2
        ∧ (sums (zone cooling 100) (sec 250)).1 = 0 ∧ sums cooling 0 = (0, 0, 0))
      ∧ cooling.arbiter.runStart = some (sec 50) ∧ sec 50 + sec cooling.profile.minRun ≤ cooling.now + sec 250
      ∧ cooling.now + 0 < sec 50 + sec cooling.profile.minRun ∧ cooling.cmin = some 30 ∧ 30 ≤ cooling.cap := by
  refine ⟨by decide +kernel, ⟨house_holds_cooling, house_holds_heating,
    rfl, Or.inl rfl, fun h => (nomatch h), fun h => (nomatch h), fun h => (nomatch h), rfl, fun _ => rfl, rfl, rfl,
    fun h => absurd rfl h⟩, by decide +kernel⟩

/-- A house in CHANGEOVER since 0 s, towards cooling. -/
def changing : State := { warm with arbiter := { warm.arbiter with
  house := .changeover, dwellStart := some 0, pendingTarget := some .dry, lastRun := some .heat } }

/-- CHANGEOVER before and after its dwell, with a target and without, and with the cap below Cmin; SHED, and HALT. -/
theorem test_hyps_OtherHouseStatesDecide :
    let e := (changing.elapse (sec 100)).evaluateZones
    let shed := { live with arbiter := { live.arbiter with house := .shed } }
    (changing.phase = .running ∧ changing.arbiter.cycleDue = some (sec 100) ∧ sec 100 ≤ changing.now + 0)
      ∧ (HouseHolds changing ∧ HouseHolds shed ∧ HouseHolds halted ∧ HouseHolds (capped changing))
      ∧ (changing.house = .changeover ∧ shed.house = .shed ∧ halted.house = .halt)
      ∧ (0 < e.sumCool ∧ changing.bothStartable = true)
      ∧ (changing.arbiter.dwellStart = some 0 ∧ sec changing.profile.dwell ≤ changing.now + sec 100
        ∧ changing.now + 0 < sec changing.profile.dwell)
      ∧ Rested changing (changing.now + sec 100) .cool
      ∧ (capped changing).arbiter = changing.arbiter ∧ (capped changing).cmin = some 30 ∧ (capped changing).cap < 30 := by
  refine ⟨by decide +kernel, ⟨?_, ?_, house_holds_halted, ?_⟩, by decide +kernel, by decide +kernel, by decide +kernel,
    ⟨0, by decide +kernel, by decide +kernel⟩, by decide +kernel⟩
  · exact ⟨by decide +kernel, Or.inl (by decide +kernel), fun _ => by decide +kernel, fun _ => by decide +kernel,
      fun h => absurd h (by decide +kernel), by decide +kernel, fun _ => by decide +kernel, by decide +kernel,
      by decide +kernel, fun h => absurd rfl h⟩
  · exact ⟨rfl, Or.inr ⟨rfl, rfl⟩, fun _ => rfl, fun _ => ⟨rfl, rfl, rfl⟩, fun h => (nomatch h), rfl, fun _ => rfl, rfl,
      rfl, fun h => absurd rfl h⟩
  · exact ⟨by decide +kernel, Or.inl (by decide +kernel), fun _ => by decide +kernel, fun _ => by decide +kernel,
      fun h => absurd h (by decide +kernel), by decide +kernel, fun _ => by decide +kernel, by decide +kernel,
      by decide +kernel, fun h => absurd rfl h⟩

/-- Cases A and C meet every hypothesis, in each state that computes; in A zone 1 spills, and in C the spill is short and reheat
is on. -/
theorem test_hyps_ComputationKeepsItsLimits :
    let routes (z : ZoneId) : Vector RouteCfg 16 := tab fun i =>
      if i = 0 then panel else if i = 1 then { sensor with zone := some z } else defaultRoute
    let s := { caseA with tables := { caseA.tables with routes := routes 2 } }
    let u := { caseHouse with
      tables := { caseHouse.tables with routes := routes 3 }
      zones := tab fun z =>
        if z = 3 then { calls .dry 36 with t := some 212, h := some 64 }
        else if z = 0 then { calls .dry 24 with h := some 61 } else resetZoneRun defaultZone }
    (TablesHold s ∧ CallsHold s ∧ CallsInPlay s ∧ PositionsHold s)
      ∧ (TablesHold u ∧ CallsHold u ∧ CallsInPlay u ∧ PositionsHold u)
      ∧ (∀ h ∈ [HouseState.cool, .heat, .dry, .fan, .shed], (s.compute h).isSome = true ∧ (u.compute h).isSome = true)
      ∧ (HouseState.cool.conditions = true ∧ HouseState.dry.conditions = true ∧ HouseState.fan.conditions = false)
      ∧ s.airLimits = some (250, 900) ∧ u.airLimits = some (250, 900)
      ∧ (s.compute .cool).map (fun f => (look f.record.spill 1, look f.record.served 2)) = some (true, true)
      ∧ (u.compute .dry).map (fun f => (f.record.short, f.reheat)) = some (true, true) := by
  refine ⟨⟨?_, ?_, ⟨by decide +kernel, fun h => absurd rfl h⟩, ⟨by decide +kernel, fun h => absurd rfl h⟩⟩,
    ⟨?_, ?_, ⟨by decide +kernel, fun h => absurd rfl h⟩, ⟨by decide +kernel, fun h => absurd rfl h⟩⟩, by decide +kernel⟩
  · show (State.tables _).valid = true
    decide +kernel
  · show ∀ z : ZoneId, _
    decide +kernel
  · show (State.tables _).valid = true
    decide +kernel
  · show ∀ z : ZoneId, _
    decide +kernel

theorem test_hyps_LossAndDefrostTimersAct :
    let z (i : ZoneId) (e : Bool) : State := { live with
      zones := put live.zones i { live.zone i with loss := .running (sec 100), status := .satisfied }
      tables := { live.tables with zones := put live.tables.zones i { live.zoneCfg i with enabled := e } }
      arbiter := { live.arbiter with defrostDue := some (sec 100) } }
    (∀ e : Bool, (z 0 e).phase = .running ∧ ((z 0 e).zone 0).loss = .running (sec 100) ∧ sec 100 ≤ (z 0 e).now + 0
        ∧ (z 0 e).hasSource 0 = true ∧ ((z 0 e).zoneCfg 0).enabled = e)
      ∧ ((z 0 true).zone 0).status ≠ .lost ∧ (z 0 true).arbiter.defrostDue = some (sec 100) := by decide +kernel

/-! ### Damper drives -/

/-- A house with channel 0 as given, the others as after a reset. -/
def withChannel (r : Channel) : State := { live with channels := put live.channels 0 r }

/-- A drive towards a goal that began 50 ms ago. -/
def driving (st : ChannelState) (g : Goal) (d : Dir) (n : Nat) : Channel :=
  { resetChannel 0 with
    state := st, count := n, homed := g.isMove, goal := some g, dir := some d, lastDir := some d,
    silenceDue := some (sec 100), seekDue := some (sec 100) }

/-- Pulses at count 0 and at the stroke, within the settle band and short of it, and in the three seeks; in a coast at rest and in
the queue; and stray, the first of its direction and one past 500 ms, and the sixteenth IDLE, QUEUED, SETTLING and in FAULT. -/
theorem test_hyps_PulsesAreCounted :
    let a := withChannel (driving .moving (.move 600) .opening 593)
    let b := withChannel (driving .moving (.move 600) .opening 0)
    let c := withChannel (driving .moving (.move 600) .closing 1200)
    let seek (g : Goal) (d : Dir) := withChannel (driving .seeking g d 600)
    let off (st : ChannelState) (k : Nat) : Channel :=
      { resetChannel (sec 100) with state := st, count := 593, homed := true, lastDir := some .opening, stray := k }
    let waits := { withChannel { off .queued 15 with goal := some (.move 600) } with queue := [0] }
    (∀ s ∈ [a, b, c], s.phase = .running ∧ (0 : ChannelId) ∉ s.queue
        ∧ (s.channel 0).dir.isSome = true ∧ (s.channel 0).goal = some (.move 600)
        ∧ (s.channel 0).count ≤ (s.damperCfg 0).stroke)
      ∧ Sys2Proof.Machine.dist 600 594 ≤ (a.damperCfg 0).settle ∧ (b.damperCfg 0).settle < Sys2Proof.Machine.dist 600 1
      ∧ (∀ x ∈ [(Goal.seekOpen, Dir.opening), (.seekClosed, .closing), (.home, .closing)],
        (seek x.1 x.2).phase = .running ∧ (0 : ChannelId) ∉ (seek x.1 x.2).queue
          ∧ ((seek x.1 x.2).channel 0).dir = some x.2 ∧ ((seek x.1 x.2).channel 0).goal = some x.1)
      ∧ (live.channel 0).dir = none ∧ (live.channel 0).lastDir = none ∧ (live.channel 0).stray < 15
      ∧ (∀ st ∈ [ChannelState.settling, .fault, .idle],
        let s := withChannel (off st 15)
        s.phase = .running ∧ (0 : ChannelId) ∉ s.queue ∧ (s.channel 0).state = st ∧ (s.channel 0).dir = none
          ∧ (s.channel 0).lastDir = some .opening ∧ (s.channel 0).stray = 15 ∧ (s.channel 0).homed = true
          ∧ s.supply.latch = false ∧ s.homingDue = none ∧ s.now + ms 500 ≤ (s.channel 0).lastOff + ms 500
          ∧ (s.channel 0).lastOff + ms 500 < s.now + (ms 500 + 1)
          ∧ (s.channel 0).lastOff + ms (s.channel 0).restMs ≤ s.now + ms 500)
      ∧ waits.phase = .running ∧ { waits with supply := ⟨.sag, .released, false, 0⟩ }.supply.supply = .sag
      ∧ (waits.channel 0).state = .queued ∧ (waits.channel 0).goal = some (.move 600) ∧ waits.queue = [0]
      ∧ (waits.channel 0).count ≤ (waits.damperCfg 0).stroke ∧ (waits.channel 0).stray = 15
      ∧ Sys2Proof.Machine.dist 600 594 ≤ (waits.damperCfg 0).settle
      ∧ { withChannel (off .idle 15) with supply := ⟨.normal, .asserted, true, 0⟩ }.supply.latch = true := by decide +kernel

theorem test_hyps_StrokesEndByTheirTimers :
    let a := withChannel (driving .seeking .home .closing 1200)
    let b := withChannel (driving .moving (.move 600) .opening 300)
    let c := withChannel { driving .moving (.move 600) .opening 300 with retry := true }
    (∀ s ∈ [a, b, c], s.phase = .running ∧ (0 : ChannelId) ∉ s.queue ∧ (s.channel 0).silenceDue = some (sec 100)
        ∧ (s.channel 0).seekDue = some (sec 100) ∧ sec 100 ≤ s.now + 0)
      ∧ (a.channel 0).state = .seeking ∧ (a.channel 0).dir = some .closing
      ∧ (b.channel 0).state = .moving ∧ (b.channel 0).retry = false
      ∧ (c.channel 0).state = .moving ∧ (c.channel 0).retry = true := by decide +kernel

/-- A settling channel that is homed with nothing to adopt, with a target that needs motion and one that needs none; one that is not
homed, with the latch set and clear; and a channel that waits UNHOMED, in SAG and in NORMAL, alone, with a lower one that joins
at the same moment, and behind a higher one that has just joined. -/
theorem test_hyps_SettledAndWaitingChannels :
    let r (h : Bool) := { resetChannel (sec 99) with state := .settling, homed := h, deadDue := some (sec 100) }
    let a := withChannel (r true)
    let t := withChannel { r true with target := some 50 }
    let u := withChannel { r true with target := some 50, count := 594 }
    let b := { withChannel (r false) with supply := ⟨.normal, .released, true, 0⟩ }
    let c := withChannel (r false)
    let w := withChannel { resetChannel (sec 100) with count := 0 }
    let rest : Channel := { resetChannel 0 with state := .fault }
    let sag (f : ChannelId → Channel) (q : List ChannelId) : State :=
      { live with supply := ⟨.sag, .released, false, 0⟩, channels := tab f, queue := q }
    let waiting (j : Time) : Channel := { resetChannel 0 with state := .queued, goal := some .home, joined := j }
    let two := sag (fun k => if k = 0 then r false else if k = 1 then resetChannel 0 else rest) []
    let front := sag (fun k =>
      if k = 1 then resetChannel 0 else if k = 2 then waiting (sec 100) else if k = 5 then waiting (sec 99) else rest) [5, 2]
    (∀ s ∈ [a, t, u, b, c], s.phase = .running ∧ (0 : ChannelId) ∉ s.queue ∧ (s.channel 0).state = .settling
        ∧ (s.channel 0).deadDue = some (sec 100) ∧ sec 100 ≤ s.now + 0)
      ∧ ((a.channel 0).homed = true ∧ (a.channel 0).target = none)
      ∧ (∀ s ∈ [t, u], (s.channel 0).homed = true ∧ (s.channel 0).target = some 50 ∧ (s.channel 0).taken = false
        ∧ s.supply.latch = false ∧ (s.channel 0).lastOff + ms (s.channel 0).restMs ≤ s.now + 0)
      ∧ (goalFor (t.damperCfg 0) 50 = .move 600 ∧ (t.channel 0).count = 0 ∧ (u.channel 0).count = 594
        ∧ (t.damperCfg 0).settle = 6)
      ∧ ((b.channel 0).homed = false ∧ b.supply.latch = true)
      ∧ ((c.channel 0).homed = false ∧ c.supply.latch = false ∧ c.homingDue = none
        ∧ (c.channel 0).lastOff + ms (c.channel 0).restMs ≤ c.now + 0)
      ∧ (∀ s ∈ [sag (fun _ => resetChannel 0) [], live], s.phase = .running ∧ (s.channel 0).state = .unhomed
        ∧ s.homingDue = none ∧ s.supply.latch = false ∧ (s.channel 0).lastOff + ms (s.channel 0).restMs ≤ s.now + 0)
      ∧ w.now + ms 299 < (w.channel 0).lastOff + ms (w.channel 0).restMs
      ∧ ((two.channel 1).state = .unhomed ∧ (two.channel 0).state = .settling ∧ (two.channel 0).homed = false
        ∧ (two.channel 0).deadDue = some (sec 100) ∧ (two.channel 0).lastOff + ms (two.channel 0).restMs ≤ two.now + 0
        ∧ two.queue = [] ∧ ∀ k : ChannelId, k < 1 → k = 0)
      ∧ ((front.channel 1).state = .unhomed ∧ (front.channel 0).state = .fault ∧ front.queue = [5] ++ 2 :: []
        ∧ (front.channel 5).joined ≠ front.now + 0 ∧ (front.channel 2).joined = front.now + 0 ∧ (1 : ChannelId) < 2)
      ∧ (live.supply.supply = .normal ∧ live.queue = [] ∧ live.drivingCount < live.slotLimit
        ∧ live.drivingCount < live.profile.slots) := by decide +kernel

/-- The join at its moment, in NORMAL, in SAG and under the latch. -/
theorem test_hyps_ChannelsJoinAndAdopt :
    let s (u : Supply) : State := { live with homingDue := some (sec 100), supply := u }
    (∀ u ∈ [(⟨.normal, .released, false, 0⟩ : Supply), ⟨.sag, .released, false, 0⟩, ⟨.normal, .released, true, 0⟩],
      (s u).phase = .running ∧ (s u).homingDue = some (sec 100) ∧ sec 100 ≤ (s u).now + 0 ∧ (s u).queue = []
        ∧ ∀ c : ChannelId, ((s u).channel c).state = .unhomed
          ∧ ((s u).channel c).lastOff + ms ((s u).channel c).restMs ≤ (s u).now + 0) := by decide +kernel

/-- A warm house whose channels are in FAULT; UNHOMED; SETTLING and unhomed; IDLE and homed; QUEUED for another goal; MOVING;
SETTLING and homed, at its settle end; and IDLE again. -/
def warmDrives : State :=
  let h := { resetChannel 0 with homed := true }
  { warm with
    zones := put warm.zones 0 { warm.zone 0 with damperFault := true }
    channels := tab fun c => if c = 0 then { h with state := .fault } else if c = 1 then resetChannel 0
      else if c = 2 then { resetChannel 0 with state := .settling, deadDue := some (sec 300) }
      else if c = 3 then { h with state := .idle }
      else if c = 4 then { h with state := .queued, goal := some (.move 600) }
      else if c = 5 then { driving .moving (.move 600) .closing 900 with silenceDue := some (sec 300), seekDue := none }
      else if c = 6 then { h with state := .settling, deadDue := some (sec 200) }
      else { h with state := .idle }
    queue := [4] }

theorem drives_hold_warm : DrivesHold warmDrives where
  channels c := by
    have e : ∀ c : ChannelId, ((warmDrives.channel c).dir.isSome = (warmDrives.channel c).driving)
        ∧ ((warmDrives.channel c).state = .idle → (warmDrives.channel c).homed = true)
        ∧ ((warmDrives.channel c).state = .unhomed → (warmDrives.channel c).homed = false)
        ∧ ((warmDrives.channel c).state = .queued → (warmDrives.channel c).goal.isSome = true
          ∧ ((warmDrives.channel c).homed = false ↔ (warmDrives.channel c).goal = some .home))
        ∧ ((warmDrives.channel c).state = .moving → (warmDrives.channel c).homed = true
          ∧ (warmDrives.channel c).goal = some (.move 600))
        ∧ (warmDrives.channel c).state ≠ .seeking := by decide +kernel
    obtain ⟨h1, h2, h3, h4, h5, h6⟩ := e c
    exact ⟨h1, h2, h3, h4, fun h => ⟨(h5 h).1, 600, (h5 h).2⟩, fun h => absurd h h6⟩
  queueOnce := List.nodup_singleton 4
  queueStates := by decide +kernel
  slots := by decide +kernel
  latched h := nomatch h
  faultMarks := by decide +kernel
  silentBefore h := absurd rfl h

/-- The cycle of the warm house publishes, zone 0 served and the others closed but for spill; that of the house without a call
publishes nothing. -/
theorem test_hyps_ChannelsJoinAndAdopt_cycle :
    (∀ s ∈ [warmDrives, bound], s.phase = .running ∧ s.arbiter.cycleDue = some (sec 100) ∧ sec 100 ≤ s.now + sec 100)
      ∧ (warmDrives.tables.valid = true ∧ bound.tables.valid = true)
      ∧ (HouseHolds warmDrives ∧ DrivesHold warmDrives ∧ HouseHolds bound ∧ DrivesHold bound)
      ∧ (∃ t, exec (.cycleExpiry (sec 100)) warmDrives = .next t ∧ t.house.conditions = true ∧ t.arbiter.hold = false)
      ∧ (∃ t, exec (.cycleExpiry (sec 100)) bound = .next t ∧ t.house = .idle)
      ∧ (warmDrives.channel 0).state = .fault ∧ (warmDrives.channel 1).state = .unhomed
      ∧ (∀ c ∈ [(2 : ChannelId), 6], (warmDrives.channel c).state = .settling)
      ∧ (∀ c ∈ [(3 : ChannelId), 7], (warmDrives.channel c).state = .idle)
      ∧ (warmDrives.channel 4).state = .queued ∧ (warmDrives.channel 5).dir = some .closing := by
  refine ⟨by decide +kernel, by decide +kernel, ⟨?_, drives_hold_warm, ?_, ?_⟩, ⟨_, rfl, by decide +kernel⟩, ⟨_, rfl, by decide +kernel⟩,
    by decide +kernel⟩
  · exact house_holds_idle _ (by decide +kernel) (by decide +kernel) (by decide +kernel) (by decide +kernel)
  · exact house_holds_idle _ (by decide +kernel) (by decide +kernel) (by decide +kernel) (by decide +kernel)
  · refine ⟨fun c => ?_, List.nodup_nil, by decide +kernel, by decide +kernel, fun h => (nomatch h), by decide +kernel,
      fun h => absurd rfl h⟩
    have e : ∀ c : ChannelId, bound.channel c = resetChannel 0 := by decide +kernel
    rw [e c]; exact channel_holds_reset 0

/-! ### Curtailment -/

/-- A house with the decoder as given. -/
def withDecoder (d : Decoder) : State := { live with decoder := d }

/-- An assertion in QUIET; 50 ms of it exactly; a tick over 500 ms; its end at 50 ms, at 500 ms and a tick later; a glitch, a tick
short of 50 ms, that began in QUIET, a tick before the 2 s of a gap, and at them; and an assertion in WAIT REST. -/
theorem test_hyps_PulsesFormATrain :
    let q := resetDecoder false
    let p (r : Bool) := { q with pin := true, train := .pulse, pulseStart := some (sec 100), reached := r }
    let g (x : Time) := { p false with gapStart := some x }
    (withDecoder q).phase = .running
      ∧ (q.pin = false ∧ q.train = .quiet)
      ∧ ((p false).train = .pulse ∧ (p false).pulseStart = some (sec 100) ∧ (p false).reached = false
        ∧ sec 100 + ms 50 ≤ (withDecoder (p false)).now + ms 50)
      ∧ ((p true).reached = true ∧ sec 100 + ms 500 < (withDecoder (p true)).now + (ms 500 + 1))
      ∧ ((p true).pin = true ∧ sec 100 + ms 50 ≤ (withDecoder (p true)).now + ms 50
        ∧ (withDecoder (p true)).now + ms 500 ≤ sec 100 + ms 500)
      ∧ ((p false).pin = true ∧ (p false).gapStart = none ∧ (withDecoder (p false)).now + (ms 50 - 1) < sec 100 + ms 50)
      ∧ (∀ x ∈ [sec 98 + ms 50, sec 98 + ms 49], (g x).pin = true ∧ (g x).train = .pulse ∧ (g x).gapStart = some x)
      ∧ ((withDecoder (g (sec 98 + ms 50))).now + (ms 50 - 1) < sec 98 + ms 50 + sec 2
        ∧ sec 98 + ms 49 + sec 2 ≤ (withDecoder (g (sec 98 + ms 49))).now + (ms 50 - 1))
      ∧ { q with pin := true, train := .waitRest }.pin = true := by decide +kernel

/-- The four trains, a train of another length, and a spoiled one, 2 s after their last pulse; under RELEASE and under LEVEL
1. -/
theorem test_hyps_TrainsAndHoldSetTheLevel :
    let d (n : Nat) (sp : Bool) :=
      { resetDecoder false with train := .gap, gapStart := some (sec 98), pulses := n, spoiled := sp }
    (∀ n ∈ [3, 5, 7, 9, 4], (withDecoder (d n false)).phase = .running ∧ (d n false).train = .gap
        ∧ (d n false).gapStart = some (sec 98) ∧ sec 98 + sec 2 ≤ (withDecoder (d n false)).now + 0
        ∧ (d n false).spoiled = false)
      ∧ (∀ x ∈ [(3, CurtailLevel.level1), (5, .level2), (7, .level3), (9, .release)],
        ((d x.1 false).pulses, x.2) ∈ [(3, CurtailLevel.level1), (5, .level2), (7, .level3), (9, .release)])
      ∧ (d 9 false).level = .release ∧ (d 3 false).level ≠ .level1
      ∧ (d 4 false).pulses ∉ [3, 5, 7, 9] ∧ (d 3 true).spoiled = true := by decide +kernel

/-- Seven pulses in every house state that sheds, with the fan kept and without; and nine in SHED. -/
theorem test_hyps_TrainsAndHoldSetTheLevel_shed :
    let d (n : Nat) : Decoder := { resetDecoder false with train := .gap, gapStart := some (sec 98), pulses := n }
    let h (x : HouseState) (fan : Bool) : State :=
      { cooling with
        decoder := d 7, arbiter := { cooling.arbiter with house := x }
        zones := put cooling.zones 0 { cooling.zone 0 with fan := fan, t := some 230, loss := .running (sec 160) } }
    let shed : State :=
      { bound with decoder := { d 9 with level := .level3 }, arbiter := { live.arbiter with house := .shed } }
    (∀ x ∈ [HouseState.idle, .fan, .cool, .heat, .dry, .defrost, .changeover], ∀ f ∈ [false, true],
        (h x f).phase = .running ∧ (h x f).house = x ∧ (h x f).cmin = some 30 ∧ CurtailLevel.level3.cap < 30
          ∧ (h x f).decoder.level ≠ .level3 ∧ x ≠ .uncommissioned ∧ x ≠ .halt ∧ x ≠ .shed)
      ∧ (FanKept (h .cool true) ∧ ¬FanKept (h .cool false) ∧ (h .cool true).airLimits = some (250, 900))
      ∧ shed.phase = .running ∧ shed.decoder.train = .gap
      ∧ shed.house = .shed ∧ shed.cmin = some 30 ∧ 30 ≤ CurtailLevel.release.cap ∧ shed.decoder.level ≠ .release := by
  unfold FanKept
  decide +kernel

/-- The end of the hold at its moment, in IDLE and in SHED. -/
theorem test_hyps_TrainsAndHoldSetTheLevel_expiry :
    let s := { withDecoder { resetDecoder false with level := .level3, holdDue := some (sec 100) } with
      links := bound.links }
    let t := { s with arbiter := { s.arbiter with house := .shed } }
    (s.phase = .running ∧ s.decoder.holdDue = some (sec 100) ∧ sec 100 ≤ s.now + 0 ∧ s.decoder.level ≠ .release)
      ∧ s.cmin = some 30 ∧ (s.house ≠ .shed ∧ s.command.capacity ≤ 100) ∧ t.house = .shed ∧ t.phase = .running := by
  decide +kernel

/-! ### Supply, resets, shutdown and the store -/

/-- NORMAL; and SAG, with channel 0 at the head of the queue for HOME. -/
theorem test_hyps_SagIsFollowed :
    let s := { withChannel { resetChannel 0 with state := .queued, goal := some .home } with
      queue := [0], supply := ⟨.sag, .released, false, 0⟩ }
    State.reset.phase ≠ .running ∧ State.reset.supply.supply = .normal ∧
    live.phase = .running ∧ live.supply.supply = .normal ∧ s.phase = .running ∧ s.supply.supply = .sag
      ∧ s.queue = 0 :: [] ∧ (s.channel 0).goal = some .home ∧ s.supply.latch = false
      ∧ s.drivingCount < s.slotLimit ∧ s.drivingCount < s.profile.slots ∧ (0 : ChannelId) ∉ ([] : List ChannelId) := by
  decide +kernel

/-- 100 ms after a line reset, with a good image and without one; and after a power-on reset. -/
theorem test_hyps_ResetsAndStartUp :
    let held := State.blank (sec 100) [] .normal .released false ⟨.level1, 60, .line⟩ ⟨true, true, houseTables⟩
    (held.phase = .held ∧ held.resetAt + ms 100 ≤ held.now + ms 100 ∧ held.supply.supply = .normal
        ∧ held.retained.cause = .line ∧ held.retained.cause ≠ .powerOn
        ∧ held.store.markGood = true ∧ held.store.checkGood = true ∧ held.store.tables.valid = true)
      ∧ State.reset.phase = .held ∧ State.reset.resetAt + ms 100 ≤ State.reset.now + ms 100
      ∧ State.reset.supply.holdFrom + ms 100 ≤ State.reset.now + ms 100 ∧ State.reset.supply.supply = .normal
      ∧ State.reset.retained.cause = .powerOn ∧ State.reset.store.markGood = false := by decide +kernel

/-- From a reset, with the image good: the air handler's WAKE is due. With a WAKE of its own just gone out the outdoor unit's is, and
with one of both the first slot is the query slot or none. -/
theorem test_hyps_StartUpCompletes :
    let s : State := { State.reset with phase := .loading, storeState := .valid, tables := houseTables }
    let at' (x y : Option Time) : State := { s with plant := { s.plant with lastWake := ⟨x, y⟩ } }
    (∀ u ∈ [s, at' (some 0) none, at' (some 0) (some 0)], u.phase = .loading ∧ ∀ n, (u.link n).state = .down)
      ∧ s.plant.lastWake.get .airHandler = none ∧ s.now + 0 < 0 + sec 2
      ∧ (at' (some 0) none).plant.lastWake.get .airHandler = some 0
      ∧ (at' (some 0) none).plant.lastWake.get .outdoorUnit = none
      ∧ (at' (some 0) (some 0)).plant.lastWake.get .outdoorUnit = some 0
      ∧ (∀ z : ZoneId, look s.computation.spill z = false) ∧ s.hasSource 0 = true ∧ (s.zoneCfg 0).enabled = true
      ∧ s.hasSource 1 = false ∧ (s.zoneCfg 1).enabled = false ∧ s.supply.input = .released
      ∧ { s with supply := { s.supply with input := .asserted } }.supply.input = .asserted
      ∧ s.retained.level = .release ∧ s.retained.holdLeft = 0 := by
  refine ⟨fun u hu => ?_, by decide +kernel⟩
  simp only [List.mem_cons, List.not_mem_nil, or_false] at hu
  rcases hu with rfl | rfl | rfl <;> exact ⟨rfl, fun n => match n with | .airHandler => rfl | .outdoorUnit => rfl⟩

/-- The latch clear, with channel 0 driving, and the latch set. -/
theorem test_hyps_ShutdownInputSetsTheLatch :
    let s := withChannel (driving .moving (.move 600) .opening 300)
    s.phase = .running ∧ s.supply.latch = false ∧ s.house ≠ .uncommissioned ∧ (s.channel 0).driving = true
      ∧ { s with arbiter := resetArbiter }.house = .uncommissioned
      ∧ halted.phase = .running ∧ halted.supply.latch = true := by decide +kernel

end Sys2Proof.Tests
end

section
/-! PROOF. What a step can do: every command lets its time pass and then makes one of the moves of `Acts`. -/

namespace Sys2Proof.Machine

@[simp] theorem State.isRunning_iff (s : State) : s.isRunning = true ↔ s.phase = .running := by
  simp [State.isRunning]

theorem State.isRunning_eq_false_iff (s : State) : s.isRunning = false ↔ s.phase ≠ .running := by
  simp [State.isRunning]

/-- Two states that agree in every field are one. -/
@[ext] theorem State.ext_fields {s t : State} (now : s.now = t.now) (pending : s.pending = t.pending)
    (phase : s.phase = t.phase) (resetAt : s.resetAt = t.resetAt) (supply : s.supply = t.supply)
    (retained : s.retained = t.retained) (store : s.store = t.store) (storeState : s.storeState = t.storeState)
    (saving : s.saving = t.saving) (tables : s.tables = t.tables) (routes : s.routes = t.routes)
    (serviceHeld : s.serviceHeld = t.serviceHeld) (zones : s.zones = t.zones) (arbiter : s.arbiter = t.arbiter)
    (command : s.command = t.command) (computation : s.computation = t.computation)
    (channels : s.channels = t.channels) (queue : s.queue = t.queue) (slotLimit : s.slotLimit = t.slotLimit)
    (homingDue : s.homingDue = t.homingDue) (links : s.links = t.links) (room : s.room = t.room)
    (plant : s.plant = t.plant) (relay : s.relay = t.relay) (decoder : s.decoder = t.decoder)
    (events : s.events = t.events) : s = t := by
  cases s
  cases t
  simp_all only

/-! ### A port that does not run hears nothing -/

theorem State.roomVerdict_not_running (s : State) (b : Burst) (h : s.phase ≠ .running) : s.roomVerdict b = .unheard := by
  simp [State.roomVerdict, (State.isRunning_eq_false_iff s).2 h]

theorem State.plantVerdict_not_running (s : State) (b : Burst) (h : s.phase ≠ .running) : s.plantVerdict b = .unheard := by
  simp [State.plantVerdict, (State.isRunning_eq_false_iff s).2 h]

theorem State.judgeRoom_not_running (s : State) (b : Burst) (h : s.phase ≠ .running) : s.judgeRoom b = s := by
  unfold State.judgeRoom
  rw [s.roomVerdict_not_running b h]
  rfl

theorem State.judgePlant_not_running (s : State) (b : Burst) (h : s.phase ≠ .running) : s.judgePlant b = s := by
  unfold State.judgePlant
  rw [s.plantVerdict_not_running b h]
  rfl

/-- A step that leaves a state as it is may be folded over any list. -/
theorem foldl_fixed {α : Type} (f : State → α → State) (s : State) (h : ∀ a, f s a = s) (l : List α) :
    l.foldl f s = s := by
  induction l with
  | nil => rfl
  | cons a l ih => rw [List.foldl_cons, h, ih]

theorem State.receiveRoom_not_running (s : State) (b : Burst) (h : s.phase ≠ .running) : s.receiveRoom b = s :=
  foldl_fixed _ s (fun a => s.judgeRoom_not_running a h) _

theorem State.receivePlant_not_running (s : State) (b : Burst) (h : s.phase ≠ .running) : s.receivePlant b = s :=
  foldl_fixed _ s (fun a => s.judgePlant_not_running a h) _

/-! ### The moves -/

/-- What a command does once its time has passed, each move with its occasion (log entry 5). -/
inductive Acts (u : State) : State → Prop
  | idle : Acts u u
  | polls (quiet : Nat) (free : u.roomFree quiet = true) : Acts u u.sendPoll
  | hearsRoom (running : u.phase = .running) (b : Burst) : Acts u (u.receiveRoom b)
  | hearsPlant (running : u.phase = .running) (b : Burst) : Acts u (u.receivePlant b)
  | roomTimesOut (under : Option Nat) (ended : u.roomTimedOut under = true) : Acts u u.roomTimeout
  | plantTimesOut (under : Option Nat) (ended : u.plantTimedOut under = true) : Acts u u.plantTimeout
  | roundBegins (free : u.plantFree = true) (expired : due u.plant.roundDue u.now = true) (ended : u.plant.slot = .over) :
      Acts u u.startRound
  | sendsCommand (quiet : Nat) (n : Node) (free : u.plantSendsNow quiet = true) (slot : u.plant.slot = slotOf n)
      (up : (u.link n).state ≠ .down) : Acts u (u.sendCommand n)
  | sendsWake (quiet : Nat) (n : Node) (free : u.plantSendsNow quiet = true) (slot : u.plant.slot = slotOf n)
      (down : (u.link n).state = .down) (wake : u.wakeDue n = true) : Acts u (u.sendWake n)
  | sendsQuery (quiet : Nat) (free : u.plantSendsNow quiet = true) (slot : u.plant.slot = .query) : Acts u u.sendQuery
  | bindingFails (running : u.phase = .running) (n : Node) (expired : due (u.link n).bindDue u.now = true) :
      Acts u (u.bindingFailed n)
  | fallsSilent (running : u.phase = .running) (n : Node) (expired : due (u.link n).silenceDue u.now = true) :
      Acts u (u.fallSilent n)
  | losesLink (running : u.phase = .running) (n : Node) (expired : due (u.link n).lossDue u.now = true) :
      Acts u (u.loseLink n)
  | stopTimesOut (running : u.phase = .running) (n : Node) (expired : due (u.link n).stopDue u.now = true) :
      Acts u (u.stopTimedOut n)
  | answerTimesOut (running : u.phase = .running) (tag : Nat) : Acts u (u.answerTimerExpired tag)
  | cycles (running : u.phase = .running) (expired : due u.arbiter.cycleDue u.now = true) : Acts u u.cycle
  | defrostsLong (running : u.phase = .running) (expired : due u.arbiter.defrostDue u.now = true) : Acts u u.defrostLong
  | losesZone (running : u.phase = .running) (z : ZoneId) (expired : (u.zone z).lossDue u.now = true) :
      Acts u (u.loseZone z)
  | pulses (running : u.phase = .running) (c : ChannelId) : Acts u (u.pulse c)
  | silenceExpires (running : u.phase = .running) (c : ChannelId) (expired : due (u.channel c).silenceDue u.now = true) :
      Acts u (u.silenceExpired c)
  | seekExpires (running : u.phase = .running) (c : ChannelId) (expired : due (u.channel c).seekDue u.now = true) :
      Acts u (u.seekExpired c)
  | joins (running : u.phase = .running) (c : ChannelId)
      (comes : (u.channel c).settleOver u.now = true ∨ u.joinsNow c = true) : Acts u (u.joinInOrder c)
  | homes (running : u.phase = .running) (expired : due u.homingDue u.now = true) : Acts u u.startHoming
  | curtailAsserted : Acts u u.curtailAsserted
  | curtailAtRest : Acts u u.curtailAtRest
  | pulseReaches (running : u.phase = .running) (long : u.decoder.lasts u.now (ms 50) = true) :
      Acts u (u.setDecoder u.decoder.reach)
  | pulseSpoils (running : u.phase = .running) (long : u.decoder.lasts u.now (ms 500 + 1) = true) :
      Acts u (u.setDecoder u.decoder.spoil)
  | trainEnds (running : u.phase = .running) (gap : u.decoder.train = .gap) (quiet : u.decoder.quietOver u.now = true) :
      Acts u u.endTrain
  | holdExpires (running : u.phase = .running) (expired : due u.decoder.holdDue u.now = true) : Acts u u.holdExpired
  | sags : Acts u u.enterSag
  | leavesSag : Acts u u.leaveSag
  | resets (cause : ResetCause) : Acts u (u.takeReset cause)
  | starts (above : Nat) (good : Bool) (ended : u.holdOver above = true) : Acts u (u.beginStart good)
  | completes (loading : u.phase = .loading) : Acts u u.completeStart
  | inputAsserted : Acts u u.inputAsserted
  | inputReleased : Acts u (u.setInput .released)
  | saveEnds (running : u.phase = .running) (agrees : Bool) (saving : u.isSaving = true) : Acts u (u.endSave agrees)

/-- A move that is made on its occasion only. -/
theorem Acts.ite {u v : State} {b : Bool} (h : b = true → Acts u v) : Acts u (if b then v else u) := by
  cases b with
  | true => exact h rfl
  | false => exact .idle

theorem Acts.room (u : State) (b : Burst) : Acts u (u.receiveRoom b) := by
  by_cases h : u.phase = .running
  · exact .hearsRoom h b
  · rw [u.receiveRoom_not_running b h]
    exact .idle

theorem Acts.plant (u : State) (b : Burst) : Acts u (u.receivePlant b) := by
  by_cases h : u.phase = .running
  · exact .hearsPlant h b
  · rw [u.receivePlant_not_running b h]
    exact .idle

theorem running_and {u : State} {b : Bool} (h : (u.isRunning && b) = true) : u.phase = .running ∧ b = true := by
  simpa using h

/-- Every command is answered by a next state: its time passes, and one move of `Acts` follows. -/
theorem exec_acts (i : Instr) (s : State) : ∃ t, exec i s = .next t ∧ Acts (s.elapse i.dt) t := by
  cases i with
  | poll o => exact ⟨_, rfl, .ite fun h => .polls _ h⟩
  | nothing dt b => exact ⟨_, rfl, .room _ b⟩
  | roomReport dt b => exact ⟨_, rfl, .room _ b⟩
  | setpointChange dt b => exact ⟨_, rfl, .room _ b⟩
  | plantQuery dt b => exact ⟨_, rfl, .room _ b⟩
  | identify dt b => exact ⟨_, rfl, .room _ b⟩
  | readTable dt b => exact ⟨_, rfl, .room _ b⟩
  | writeTable dt b => exact ⟨_, rfl, .room _ b⟩
  | save dt b => exact ⟨_, rfl, .room _ b⟩
  | restart dt b => exact ⟨_, rfl, .room _ b⟩
  | readState dt b => exact ⟨_, rfl, .room _ b⟩
  | clearEvents dt b => exact ⟨_, rfl, .room _ b⟩
  | clearShutdown dt b => exact ⟨_, rfl, .room _ b⟩
  | releaseDamper dt b => exact ⟨_, rfl, .room _ b⟩
  | clearCounters dt b => exact ⟨_, rfl, .room _ b⟩
  | unknownRequestCode dt b => exact ⟨_, rfl, .room _ b⟩
  | decidingBurstMiss dt l b =>
    cases l with
    | room => exact ⟨_, rfl, .room _ b⟩
    | plant => exact ⟨_, rfl, .plant _ b⟩
  | burstOutsideWait dt l b =>
    cases l with
    | room => exact ⟨_, rfl, .room _ b⟩
    | plant => exact ⟨_, rfl, .plant _ b⟩
  | roomReplyTimeout o => exact ⟨_, rfl, .ite fun h => .roomTimesOut _ h⟩
  | plantRound dt =>
    refine ⟨_, rfl, .ite fun h => ?_⟩
    obtain ⟨⟨free, expired⟩, ended⟩ : (_ ∧ _) ∧ _ := by simpa only [Bool.and_eq_true, decide_eq_true_eq] using h
    exact .roundBegins free expired ended
  | plantCommand o n =>
    refine ⟨_, rfl, .ite fun h => ?_⟩
    obtain ⟨⟨free, slot⟩, up⟩ : (_ ∧ _) ∧ _ := by simpa only [Bool.and_eq_true, decide_eq_true_eq] using h
    exact .sendsCommand _ n free slot up
  | wake o n =>
    refine ⟨_, rfl, .ite fun h => ?_⟩
    obtain ⟨⟨⟨free, slot⟩, down⟩, wake⟩ : ((_ ∧ _) ∧ _) ∧ _ := by
      simpa only [Bool.and_eq_true, decide_eq_true_eq] using h
    exact .sendsWake _ n free slot down wake
  | query o =>
    refine ⟨_, rfl, .ite fun h => ?_⟩
    obtain ⟨free, slot⟩ : _ ∧ _ := by simpa only [Bool.and_eq_true, decide_eq_true_eq] using h
    exact .sendsQuery _ free slot
  | plantStatus dt b => exact ⟨_, rfl, .plant _ b⟩
  | queryAccept dt b => exact ⟨_, rfl, .plant _ b⟩
  | plantReplyTimeout o => exact ⟨_, rfl, .ite fun h => .plantTimesOut _ h⟩
  | bindingSupervisorExpiry dt n => exact ⟨_, rfl, .ite fun h => .bindingFails (running_and h).1 n (running_and h).2⟩
  | linkSilenceTimerExpiry dt n => exact ⟨_, rfl, .ite fun h => .fallsSilent (running_and h).1 n (running_and h).2⟩
  | linkLossTimerExpiry dt n => exact ⟨_, rfl, .ite fun h => .losesLink (running_and h).1 n (running_and h).2⟩
  | stopTimerExpiry dt n => exact ⟨_, rfl, .ite fun h => .stopTimesOut (running_and h).1 n (running_and h).2⟩
  | answerTimerExpiry dt tag => exact ⟨_, rfl, .ite fun h => .answerTimesOut ((State.isRunning_iff _).1 h) tag⟩
  | cycleExpiry dt => exact ⟨_, rfl, .ite fun h => .cycles (running_and h).1 (running_and h).2⟩
  | defrostTimerExpiry dt => exact ⟨_, rfl, .ite fun h => .defrostsLong (running_and h).1 (running_and h).2⟩
  | zoneLossTimerExpiry dt z => exact ⟨_, rfl, .ite fun h => .losesZone (running_and h).1 z (running_and h).2⟩
  | feedbackPulse dt c => exact ⟨_, rfl, .ite fun h => .pulses ((State.isRunning_iff _).1 h) c⟩
  | channelSilenceTimerExpiry dt c =>
    exact ⟨_, rfl, .ite fun h => .silenceExpires (running_and h).1 c (running_and h).2⟩
  | seekTimerExpiry dt c => exact ⟨_, rfl, .ite fun h => .seekExpires (running_and h).1 c (running_and h).2⟩
  | settleEnd dt c => exact ⟨_, rfl, .ite fun h => .joins (running_and h).1 c (.inl (running_and h).2)⟩
  | deadTimeElapsed dt c => exact ⟨_, rfl, .ite fun h => .joins (running_and h).1 c (.inr (running_and h).2)⟩
  | startUpHomingJoin dt => exact ⟨_, rfl, .ite fun h => .homes (running_and h).1 (running_and h).2⟩
  | curtailInputAsserted dt => exact ⟨_, rfl, .curtailAsserted⟩
  | curtailInputAtRest dt => exact ⟨_, rfl, .curtailAtRest⟩
  | countedPulse dt => exact ⟨_, rfl, .ite fun h => .pulseReaches (running_and h).1 (running_and h).2⟩
  | pulseSpoiled dt => exact ⟨_, rfl, .ite fun h => .pulseSpoils (running_and h).1 (running_and h).2⟩
  | trainEnd dt =>
    refine ⟨_, rfl, .ite fun h => ?_⟩
    obtain ⟨⟨running, gap⟩, quiet⟩ : (_ ∧ _) ∧ _ := by
      simpa only [Bool.and_eq_true, decide_eq_true_eq, State.isRunning_iff] using h
    exact .trainEnds running gap quiet
  | holdTimerExpiry dt => exact ⟨_, rfl, .ite fun h => .holdExpires (running_and h).1 (running_and h).2⟩
  | sagEntry dt => exact ⟨_, rfl, .sags⟩
  | sagExit dt => exact ⟨_, rfl, .leavesSag⟩
  | dropoutReset dt => exact ⟨_, rfl, .resets .dropout⟩
  | powerOnReset dt => exact ⟨_, rfl, .resets .powerOn⟩
  | lineReset dt => exact ⟨_, rfl, .ite fun _ => .resets .line⟩
  | startUp o good => exact ⟨_, rfl, .ite fun h => .starts _ good h⟩
  | startUpCompletion dt =>
    by_cases h : s.phase = .loading
    · exact ⟨_, congrArg Host.Outcome.next (if_pos h), .completes h⟩
    · exact ⟨_, congrArg Host.Outcome.next (if_neg h), .idle⟩
  | shutdownInputAsserted dt => exact ⟨_, rfl, .inputAsserted⟩
  | shutdownInputReleased dt => exact ⟨_, rfl, .inputReleased⟩
  | saveEnd dt agrees => exact ⟨_, rfl, .ite fun h => .saveEnds (running_and h).1 agrees (running_and h).2⟩

/-- What the waiting commands and the passing of time do not touch, and every move keeps, every step keeps. -/
theorem step_keeps {I : State → Prop} (hpending : ∀ s rest, I s → I { s with pending := rest })
    (helapse : ∀ s dt, I s → I (s.elapse dt)) (hacts : ∀ u t, Acts u t → I u → I t) {s t : State} (hs : I s)
    (h : step s = .next t) : I t := by
  unfold step at h
  cases hq : s.pending with
  | nil =>
    rw [hq] at h
    obtain rfl : s = t := by simpa using h
    exact hs
  | cons c rest =>
    rw [hq] at h
    obtain ⟨t', ht, hact⟩ := exec_acts c { s with pending := rest }
    obtain rfl : t' = t := by simpa [ht] using h
    exact hacts _ _ hact (helapse _ _ (hpending _ _ hs))

end Sys2Proof.Machine
end

section
/-! PROOF. What a burst on the room line can do, reply by reply, and what an accepted management request does to the state. -/

namespace Sys2Proof.Machine

/-! ### Records decoded -/

/-- Every record of a list is decoded exactly when the list holds no refused one. -/
theorem allSome_eq_some_iff {α : Type} (l : List (Option α)) (xs : List α) : allSome l = some xs ↔ l = xs.map some := by
  induction l generalizing xs with
  | nil => cases xs <;> simp [allSome]
  | cons a l ih =>
    cases a with
    | none => cases xs <;> simp [allSome]
    | some y =>
      cases xs with
      | nil => simp [allSome]
      | cons x xs =>
        simp only [allSome, Option.map_eq_some_iff, List.map_cons, List.cons.injEq, Option.some.injEq]
        constructor
        · rintro ⟨ys, hys, rfl, rfl⟩
          exact ⟨rfl, (ih _).1 hys⟩
        · rintro ⟨rfl, h⟩
          exact ⟨xs, (ih _).2 h, rfl, rfl⟩

@[simp] theorem length_chunks (len count : Nat) (p : List Byte) : (chunks len count p).length = count := by
  induction count generalizing p with
  | zero => rfl
  | succ k ih => simp [chunks, ih]

/-- The records of a write that is not refused: as many as its count, each one decoded. -/
theorem recordsOf_eq_some {α : Type} {f : List Byte → Option α} {len count : Nat} {p : List Byte} {xs : List α}
    (h : recordsOf f len count p = some xs) : xs.length = count ∧ ∀ x ∈ xs, ∃ r, f r = some x := by
  have h := (allSome_eq_some_iff _ _).1 h
  refine ⟨by simpa using (congrArg List.length h).symm, fun x hx => ?_⟩
  have hmem : some x ∈ (chunks len count p).map f := h ▸ List.mem_map_of_mem hx
  obtain ⟨r, -, hr⟩ := List.mem_map.1 hmem
  exact ⟨r, hr⟩

theorem keepIf_eq_some_iff {α : Type} (p : α → Bool) (x y : α) : keepIf p x = some y ↔ p x = true ∧ x = y := by
  unfold keepIf
  split <;> simp_all

/-- A Route record that is taken is valid as it is stored (R119, R120). -/
theorem routeRecord_valid {r : List Byte} {c : RouteCfg} (h : routeRecord r = some c) : c.valid = true := by
  simp only [routeRecord] at h
  split at h
  · exact absurd h (by simp)
  · split at h
    · exact absurd h (by simp)
    · split at h
      · exact absurd h (by simp)
      · obtain ⟨d, hd, rfl⟩ := Option.map_eq_some_iff.1 h
        obtain ⟨hv, rfl⟩ := (keepIf_eq_some_iff _ _ _).1 hd
        simp only [RouteCfg.valid, RouteCfg.stored, Bool.and_eq_true, Bool.or_eq_true, decide_eq_true_eq] at hv ⊢
        refine ⟨hv.1, hv.2.imp_right fun hz => ?_⟩
        split
        · simp_all
        · exact hz

theorem zoneRecord_valid {r : List Byte} {c : ZoneCfg} (h : zoneRecord r = some c) : c.valid = true := by
  simp only [zoneRecord] at h
  split at h
  · exact absurd h (by simp)
  · split at h
    · exact absurd h (by simp)
    · obtain ⟨hv, rfl⟩ := (keepIf_eq_some_iff _ _ _).1 h
      exact hv

theorem damperRecord_valid {r : List Byte} {c : DamperCfg} (h : damperRecord r = some c) : c.valid = true := by
  obtain ⟨hv, rfl⟩ := (keepIf_eq_some_iff _ _ _).1 h
  exact hv

theorem profileRecord_valid {r : List Byte} {c : Profile} (h : profileRecord r = some c) : c.valid = true := by
  obtain ⟨hv, rfl⟩ := (keepIf_eq_some_iff _ _ _).1 h
  exact hv

/-! ### The state after a management request -/

/-- What a management request can do to the state before it is answered (R184 to R192). -/
inductive Manages (s : State) : State → Prop
  | nothing : Manages s s
  | writesRoutes (start : Nat) (xs : List RouteCfg) (fits : indexFits .route start xs.length = true)
      (valid : ∀ x ∈ xs, x.valid = true) (unique : uniqueRoutes (writeAt s.tables.routes start xs) = true) :
      Manages s (s.routesWritten (writeAt s.tables.routes start xs))
  | writesZones (start : Nat) (xs : List ZoneCfg) (fits : indexFits .zone start xs.length = true)
      (valid : ∀ x ∈ xs, x.valid = true) : Manages s (s.zonesWritten start xs)
  | writesDampers (start : Nat) (xs : List DamperCfg) (fits : indexFits .damper start xs.length = true)
      (valid : ∀ x ∈ xs, x.valid = true) (free : s.channelBusy start xs.length = false) :
      Manages s (s.dampersWritten start xs)
  | writesProfile (p : Profile) (valid : p.valid = true) : Manages s (s.profileWritten p)
  | saves (idle : s.isSaving = false) (normal : s.supply.supply ≠ .sag) :
      Manages s { s with storeState := .saving, saving := some s.tables }
  | clearsEvents (es : List Event) : Manages s (es.foldl State.clearEvent s)
  | clearsLatch (released : s.supply.input ≠ .asserted) (latched : s.supply.latch = true) : Manages s s.clearLatch
  | releases (c : ChannelId) (faulted : s.faulted c = true) : Manages s (s.releaseChannel c)
  | clearsCounters : Manages s s.clearCounters.state

theorem State.writeRecords_manages (s : State) (k : Table) (start count : Nat) (head records : List Byte)
    (fits : indexFits k start count = true) : Manages s (s.writeRecords k start count head records).state := by
  cases k with
  | route =>
    simp only [State.writeRecords]
    split
    · exact .nothing
    · next xs hxs =>
      obtain ⟨rfl, hx⟩ := recordsOf_eq_some hxs
      split
      · next hu => exact .writesRoutes start xs fits (fun x h => routeRecord_valid (hx x h).choose_spec) hu
      · exact .nothing
  | zone =>
    simp only [State.writeRecords]
    split
    · exact .nothing
    · next xs hxs =>
      obtain ⟨rfl, hx⟩ := recordsOf_eq_some hxs
      exact .writesZones start xs fits fun x h => zoneRecord_valid (hx x h).choose_spec
  | damper =>
    simp only [State.writeRecords]
    split
    · exact .nothing
    · next xs hxs =>
      obtain ⟨rfl, hx⟩ := recordsOf_eq_some hxs
      split
      · exact .nothing
      · next hb =>
        exact .writesDampers start xs fits (fun x h => damperRecord_valid (hx x h).choose_spec) (by simpa using hb)
  | profile =>
    simp only [State.writeRecords]
    split
    · exact .nothing
    · next p hp => exact .writesProfile p (profileRecord_valid hp)

theorem State.writeTable_manages (s : State) (q : List Byte) : Manages s (s.writeTable q).state := by
  simp only [State.writeTable]
  split
  · exact .nothing
  · next k _ =>
    split_ifs with hlen hsave hfit hsize
    · exact .nothing
    · exact .nothing
    · exact .nothing
    · exact .nothing
    · exact s.writeRecords_manages k _ _ _ _ (by simpa using hfit)

theorem State.saveTables_manages (s : State) : Manages s s.saveTables.state := by
  unfold State.saveTables
  split
  · exact .nothing
  · next hsave =>
    split
    · exact .nothing
    · next hsag => exact .saves (by simpa using hsave) hsag

theorem State.clearShutdown_manages (s : State) : Manages s s.clearShutdown.state := by
  unfold State.clearShutdown
  split
  · exact .nothing
  · next hin =>
    split
    · next hlatch =>
      rw [State.grant_state]
      exact .clearsLatch hin hlatch
    · exact .nothing

theorem State.perform_manages (s : State) (r : Request) (q : List Byte) : Manages s (s.perform r q).state := by
  cases r with
  | identify => exact .nothing
  | readTable =>
    rw [show (s.perform .readTable q).state = s from (s.reads_state q).1]
    exact .nothing
  | writeTable => exact s.writeTable_manages q
  | save => exact s.saveTables_manages
  | restart =>
    rw [show (s.perform .restart q).state = s from s.asks_state.2]
    exact .nothing
  | readState =>
    rw [show (s.perform .readState q).state = s from (s.reads_state q).2]
    exact .nothing
  | clearEvents =>
    simp only [State.perform, State.clearEvents]
    split
    · exact .nothing
    · split
      · exact .nothing
      · exact .clearsEvents _
  | clearShutdown => exact s.clearShutdown_manages
  | releaseDamper =>
    simp only [State.perform, State.releaseDamper]
    split
    · exact .nothing
    · split
      · exact .nothing
      · next c _ =>
        split_ifs with hf
        · rw [State.grant_state]
          exact .releases c hf
        · exact .nothing
  | clearCounters => exact .clearsCounters

theorem State.manage_manages (s : State) (x : Sender) (code : Byte) (q : List Byte) :
    Manages s (s.manage x code q).state := by
  simp only [State.manage]
  split
  · exact .nothing
  · split
    · exact .nothing
    · exact s.perform_manages _ _

/-! ### What every reply keeps -/

/-- What the ports' own writes, the reports, the changes, the queries and the requests of room nodes keep. -/
structure KeptByReplies (I : State → Prop) : Prop where
  port : ∀ s r, I s → I (s.setRoom r)
  miss : ∀ s a, I s → I (s.missEntry a)
  credit : ∀ s a, I s → I (s.creditEntry a)
  notice : ∀ s carried taken, I s → I (s.noticeOutcome carried taken)
  report : ∀ s x r, I s → I (s.takeReport x r)
  change : ∀ s x sc g p, I s → I (s.takeChange x sc g p)
  query : ∀ s x n item arg, I s → I (s.askPlant x n item arg)
  manage : ∀ s t, s.phase = .running → Manages s t → I s → I t

variable {I : State → Prop}

theorem KeptByReplies.missed (k : KeptByReplies I) {s : State} (h : I s) : I s.roomMissed := by
  unfold State.roomMissed
  split
  · exact k.notice _ _ _ (k.miss _ _ (k.port _ _ h))
  · exact h

theorem KeptByReplies.reply (k : KeptByReplies I) {s : State} (hrun : s.phase = .running) (h : I s) (x : Sender)
    (cls : Byte) (p : List Byte) : I (s.takeReply x cls p) := by
  simp only [State.takeReply]
  split_ifs
  · exact k.report _ _ _ h
  · exact k.change _ _ _ _ _ h
  · exact k.query _ _ _ _ _ h
  · exact k.port _ _ (k.manage _ _ hrun (s.manage_manages x _ _) h)
  · exact h

theorem KeptByReplies.answered (k : KeptByReplies I) {s : State} (hrun : s.phase = .running) (h : I s) (cls : Byte)
    (p : List Byte) : I (s.roomAnswered cls p) := by
  simp only [State.roomAnswered]
  split
  · exact k.reply (by simpa using hrun) (k.notice _ _ _ (k.credit _ _ (k.port _ _ h))) _ _ _
  · exact h

theorem KeptByReplies.judge (k : KeptByReplies I) {s : State} (hrun : s.phase = .running) (h : I s) (b : Burst) :
    I (s.judgeRoom b) := by
  have hc : I (s.countRoom (s.roomVerdict b)) := k.port _ _ h
  simp only [State.judgeRoom]
  split
  · exact hc
  · exact hc
  · exact k.missed hc
  · exact k.missed hc
  · exact k.missed hc
  · exact k.answered (by simpa using hrun) hc _ _

/-- What every reply keeps, every burst on the room line keeps. -/
theorem KeptByReplies.receive (k : KeptByReplies I) {s : State} (hrun : s.phase = .running) (h : I s) (b : Burst) :
    I (s.receiveRoom b) := by
  unfold State.receiveRoom
  generalize heard b s.now s.room.frames = l
  induction l generalizing s with
  | nil => exact h
  | cons a l ih => exact ih (by simpa using hrun) (k.judge hrun h a)

/-- What every reply keeps, a reply timeout keeps. -/
theorem KeptByReplies.timeout (k : KeptByReplies I) {s : State} (h : I s) : I s.roomTimeout :=
  k.missed (k.port _ _ h)

end Sys2Proof.Machine
end

section
/-! PROOF. Chapter 1, operation by operation: the record of a zone after each operation of the zones, and the events raised. -/

namespace Sys2Proof.Machine

/-! ### Tables of fixed size -/

theorem look_ext {α : Type} {n : Nat} {v w : Vector α n} (h : ∀ i : Fin n, look v i = look w i) : v = w :=
  Vector.ext fun i hi => h ⟨i, hi⟩

@[simp] theorem put_put {α : Type} {n : Nat} (v : Vector α n) (i : Fin n) (x y : α) : put (put v i x) i y = put v i y :=
  look_ext fun j => by simp only [look_put]; split <;> rfl

theorem anyIx_iff {n : Nat} (p : Fin n → Bool) : anyIx p = true ↔ ∃ i, p i = true := by
  simp [anyIx]

theorem anyIx_eq_false_iff {n : Nat} (p : Fin n → Bool) : anyIx p = false ↔ ∀ i, p i = false := by
  simp [anyIx]

theorem covers_iff (start count i : Nat) : covers start count i = true ↔ start ≤ i ∧ i < start + count := by
  simp [covers]

/-- In an operation made for every index, one index `i` meets a state that the others have left as it was for `g`, and what it
makes of that stands at the end. -/
theorem State.forIx_at {n : Nat} {β : Type} (g : State → β) (P : State → Prop) (f : Fin n → State → State) (i : Fin n)
    (s : State) (h0 : P s) (hstep : ∀ j t, P t → P (f j t)) (hother : ∀ j t, j ≠ i → P t → g (f j t) = g t) :
    ∃ u, P u ∧ g u = g s ∧ g (s.forIx f) = g (f i u) := by
  have key : ∀ (l : List (Fin n)) (s : State), l.Nodup → P s →
      (i ∉ l → g (l.foldl (fun a j => f j a) s) = g s)
        ∧ (i ∈ l → ∃ u, P u ∧ g u = g s ∧ g (l.foldl (fun a j => f j a) s) = g (f i u)) := by
    intro l
    induction l with
    | nil => exact fun s _ _ => ⟨fun _ => rfl, fun h => absurd h (by simp)⟩
    | cons j l ih =>
      intro s hnd hs
      obtain ⟨hj, hnd⟩ := List.nodup_cons.1 hnd
      obtain ⟨hout, hin⟩ := ih (f j s) hnd (hstep j s hs)
      constructor
      · intro hi
        rw [List.mem_cons, not_or] at hi
        exact (hout hi.2).trans (hother j s (Ne.symm hi.1) hs)
      · intro hi
        by_cases hji : j = i
        · subst hji
          exact ⟨s, hs, rfl, hout hj⟩
        · obtain ⟨u, hu, hgu, hg⟩ := hin ((List.mem_cons.1 hi).resolve_left (Ne.symm hji))
          exact ⟨u, hu, hgu.trans (hother j s hji hs), hg⟩
  exact (key _ s (List.nodup_finRange n) h0).2 (List.mem_finRange i)

/-! ### Reads of the state -/

theorem State.zone_congr {s t : State} (h : t.zones = s.zones) (z : ZoneId) : t.zone z = s.zone z := by
  simp only [State.zone, h]

theorem State.zoneCfg_congr {s t : State} (h : t.tables = s.tables) (z : ZoneId) : t.zoneCfg z = s.zoneCfg z := by
  simp only [State.zoneCfg, h]

theorem State.routeCfg_congr {s t : State} (h : t.tables = s.tables) (i : RouteId) : t.routeCfg i = s.routeCfg i := by
  simp only [State.routeCfg, h]

theorem State.routeRun_congr {s t : State} (h : t.routes = s.routes) (i : RouteId) : t.routeRun i = s.routeRun i := by
  simp only [State.routeRun, h]

theorem State.channel_congr {s t : State} (h : t.channels = s.channels) (c : ChannelId) : t.channel c = s.channel c := by
  simp only [State.channel, h]

theorem State.damperCfg_congr {s t : State} (h : t.tables = s.tables) (c : ChannelId) : t.damperCfg c = s.damperCfg c := by
  simp only [State.damperCfg, h]

theorem State.hasSource_congr {s t : State} (h : t.tables = s.tables) (z : ZoneId) : t.hasSource z = s.hasSource z := by
  simp only [State.hasSource, State.routeCfg, h]

theorem State.house_congr {s t : State} (h : t.arbiter = s.arbiter) : t.house = s.house := by
  simp only [State.house, h]

theorem State.freshReadings_congr {s t : State} (htab : t.tables = s.tables) (hrun : t.routes = s.routes)
    (hnow : t.now = s.now) (pick : RouteRun → Option Reading) (z : ZoneId) :
    t.freshReadings pick z = s.freshReadings pick z := by
  simp only [State.freshReadings, State.routeCfg, State.routeRun, htab, hrun, hnow] <;> rfl

theorem State.zone_setZone_other (s : State) (z z' : ZoneId) (r : ZoneRun) (h : z' ≠ z) :
    (s.setZone z r).zone z' = s.zone z' := by
  simp [State.zone, look_put_other _ _ _ _ h]

@[simp] theorem State.setZone_setZone (s : State) (z : ZoneId) (r r' : ZoneRun) :
    (s.setZone z r).setZone z r' = s.setZone z r' := by
  simp [State.setZone]

theorem State.inPlay_iff (s : State) (z : ZoneId) :
    s.inPlay z = true ↔ (s.zoneCfg z).enabled = true ∧ s.hasSource z = true ∧ (s.zone z).expired = false
      ∧ (s.zone z).switchOn = true := by
  simp [State.inPlay, and_assoc]

/-! ### The event list -/

@[simp] theorem State.raise_events (s : State) (e : Event) : (s.raise e).events = afterRaise s.events e := by
  unfold State.raise afterRaise
  split <;> rfl

/-! ### The status (R23) -/

/-- The status of a zone follows the tables, the computation, the record, the house state, and of the zone its loss timer, its
switch, its fan request and its call. -/
theorem State.statusOf_congr {s t : State} (z : ZoneId) (tables : t.tables = s.tables)
    (computation : t.computation = s.computation) (command : t.command = s.command) (house : t.house = s.house)
    (loss : (t.zone z).loss = (s.zone z).loss) (switchOn : (t.zone z).switchOn = (s.zone z).switchOn)
    (fan : (t.zone z).fan = (s.zone z).fan) (call : (t.zone z).call = (s.zone z).call) : t.statusOf z = s.statusOf z := by
  have hexp : (t.zone z).expired = (s.zone z).expired := by simp only [ZoneRun.expired, loss]
  have hserved : t.isServed z = s.isServed z := by
    simp only [State.isServed, State.fanCounts, State.inPlay, State.fanRuns, State.zoneCfg_congr tables,
      State.hasSource_congr tables, hexp, switchOn, fan, call, house, command]
  simp only [State.statusOf, State.isLost, hserved, hexp, State.zoneCfg_congr tables, State.hasSource_congr tables,
    computation, switchOn, call, house] <;> rfl

/-- A zone without a source is DISABLED, SPILL or NO SOURCE, whatever its record holds. -/
theorem State.statusOf_noSource {s : State} {z : ZoneId} (h : s.hasSource z = false) :
    s.statusOf z =
      if !(s.zoneCfg z).enabled then .disabled else if look s.computation.spill z then .spill else .noSource := by
  simp [State.statusOf, State.isLost, h]

theorem State.statusOf_eq_lost_iff (s : State) (z : ZoneId) :
    s.statusOf z = .lost ↔ (s.zoneCfg z).enabled = true ∧ s.isLost z = true := by
  unfold State.statusOf
  split_ifs <;> simp_all

/-- A disabled zone is DISABLED. -/
theorem State.statusOf_disabled {s : State} {z : ZoneId} (h : (s.zoneCfg z).enabled = false) : s.statusOf z = .disabled := by
  simp [State.statusOf, h]

@[simp] theorem State.zone_raise (s : State) (e : Event) (z : ZoneId) : (s.raise e).zone z = s.zone z :=
  State.zone_congr (by simp) z

theorem State.deriveStatus_other (s : State) (z z' : ZoneId) (h : z' ≠ z) : (s.deriveStatus z).zone z' = s.zone z' := by
  simp only [State.deriveStatus]
  split <;> simp [State.zone_setZone_other _ _ _ _ h]

theorem State.deriveStatus_zone (s : State) (z : ZoneId) :
    (s.deriveStatus z).zone z = { s.zone z with status := s.statusOf z } := by
  simp only [State.deriveStatus]
  split <;> simp

theorem State.deriveStatus_statusOf (s : State) (z : ZoneId) : (s.deriveStatus z).statusOf z = s.statusOf z := by
  apply State.statusOf_congr <;> simp [State.deriveStatus_zone, State.house]

/-- The status that an operation has derived stands in the zone, and is the one that the state after gives. -/
theorem State.deriveStatus_same (s : State) (z : ZoneId) :
    (s.deriveStatus z).zone z = { s.zone z with status := (s.deriveStatus z).statusOf z } := by
  rw [State.deriveStatus_statusOf, State.deriveStatus_zone]

/-- A zone that does not enter LOST raises nothing (R8). -/
theorem State.deriveStatus_events {s : State} {z : ZoneId} (h : s.statusOf z ≠ .lost) :
    (s.deriveStatus z).events = s.events := by
  simp [State.deriveStatus, h]

/-- A zone that enters LOST raises ZONE LOST (R8). -/
theorem State.deriveStatus_events_lost {s : State} {z : ZoneId} (h : s.statusOf z = .lost)
    (hold : (s.zone z).status ≠ .lost) : (s.deriveStatus z).events = afterRaise s.events .zoneLost := by
  simp [State.deriveStatus, h, hold]

/-! ### Leaving play (R24) -/

/-- A zone that asks for nothing (R17, R22). -/
def ZoneRun.quiet (r : ZoneRun) : ZoneRun := { r with call := .none, demand := 0, unmet := 0 }

theorem State.leavePlay_other (s : State) (z z' : ZoneId) (h : z' ≠ z) : (s.leavePlay z).zone z' = s.zone z' := by
  simp only [State.leavePlay, State.deriveStatus_other _ _ _ h, State.zone_setZone_other _ _ _ _ h]

theorem State.leavePlay_same (s : State) (z : ZoneId) :
    (s.leavePlay z).zone z = { (s.zone z).quiet with status := (s.leavePlay z).statusOf z } := by
  simp only [State.leavePlay]
  rw [State.deriveStatus_same]
  simp [ZoneRun.quiet]

theorem State.leavePlay_events {s : State} {z : ZoneId} (h : s.isLost z = false) : (s.leavePlay z).events = s.events := by
  have hl : (s.setZone z { s.zone z with call := .none, demand := 0, unmet := 0 }).statusOf z ≠ .lost := by
    rw [Ne, State.statusOf_eq_lost_iff]
    simpa [State.isLost, State.hasSource_congr, ZoneRun.expired, State.hasSource, State.routeCfg] using fun _ => h
  simp only [State.leavePlay]
  rw [State.deriveStatus_events hl, State.setZone_events]

/-! ### Readings (R5, R6) -/

theorem State.recombine_other (s : State) (z z' : ZoneId) (h : z' ≠ z) : (s.recombine z).zone z' = s.zone z' := by
  simp only [State.recombine, State.zone_setZone_other _ _ _ _ h]

theorem State.recombine_same (s : State) (z : ZoneId) :
    (s.recombine z).zone z =
      { s.zone z with t := combine (s.freshReadings (·.temp) z), h := combine (s.freshReadings (·.hum) z) } := by
  simp [State.recombine]

theorem State.heardZone_other (s : State) (z z' : ZoneId) (h : z' ≠ z) : (s.heardZone z).zone z' = s.zone z' := by
  simp only [State.heardZone, State.zone_setZone_other _ _ _ _ h]

theorem State.heardZone_same (s : State) (z : ZoneId) :
    (s.heardZone z).zone z = { s.zone z with lastFresh := some s.now, loss := .running (s.now + sec 60) } := by
  simp [State.heardZone]

@[simp] theorem State.zone_setRoute (s : State) (i : RouteId) (r : RouteRun) (z : ZoneId) :
    (s.setRoute i r).zone z = s.zone z := rfl

theorem State.takeReadings_other (s : State) (i : RouteId) (z z' : ZoneId) (t h : Option Int) (hz : z' ≠ z) :
    (s.takeReadings i z t h).zone z' = s.zone z' := by
  simp only [State.takeReadings]
  split_ifs <;>
    simp only [State.deriveStatus_other _ _ _ hz, State.recombine_other _ _ _ hz, State.heardZone_other _ _ _ hz,
      State.zone_setRoute]

/-- The readings of a report bring a fresh value (R5). -/
def bringsReading (t h : Option Int) : Bool := (validTemp t).isSome || (validHum h).isSome

/-- The record of an entry once it has taken the valid ones of some readings (R5). -/
def RouteRun.withReadings (r : RouteRun) (t h : Option Int) (now : Time) : RouteRun :=
  { r with
    temp := match validTemp t with | some x => some ⟨x, now⟩ | none => r.temp
    hum := match validHum h with | some x => some ⟨x, now⟩ | none => r.hum }

@[simp] theorem State.takeReadings_routes (s : State) (i : RouteId) (z : ZoneId) (t h : Option Int) :
    (s.takeReadings i z t h).routes = put s.routes i ((s.routeRun i).withReadings t h s.now) := by
  simp only [State.takeReadings, RouteRun.withReadings]
  split_ifs <;> simp <;> rfl

/-- A report's readings are recorded, then combined; then the status of a zone that they recover is derived (R5, R6, R8). -/
theorem State.takeReadings_eq (s : State) (i : RouteId) (z : ZoneId) (t h : Option Int) :
    let u := s.setRoute i ((s.routeRun i).withReadings t h s.now)
    let v := (if bringsReading t h then u.heardZone z else u).recombine z
    s.takeReadings i z t h = if bringsReading t h && (s.zone z).expired then v.deriveStatus z else v := by
  simp only [State.takeReadings, RouteRun.withReadings, bringsReading] <;> rfl

theorem State.takeReadings_same (s : State) (i : RouteId) (z : ZoneId) (t h : Option Int) :
    (s.takeReadings i z t h).zone z =
      { s.zone z with
        t := combine ((s.takeReadings i z t h).freshReadings (·.temp) z)
        h := combine ((s.takeReadings i z t h).freshReadings (·.hum) z)
        lastFresh := if bringsReading t h then some s.now else (s.zone z).lastFresh
        loss := if bringsReading t h then .running (s.now + sec 60) else (s.zone z).loss
        status :=
          if bringsReading t h && (s.zone z).expired then (s.takeReadings i z t h).statusOf z else (s.zone z).status } := by
  set u := s.setRoute i ((s.routeRun i).withReadings t h s.now) with hu
  set v := (if bringsReading t h then u.heardZone z else u) with hv
  have heq : s.takeReadings i z t h =
      if bringsReading t h && (s.zone z).expired then (v.recombine z).deriveStatus z else v.recombine z :=
    s.takeReadings_eq i z t h
  have hfresh : ∀ pick, (s.takeReadings i z t h).freshReadings pick z = v.freshReadings pick z := fun pick => by
    apply State.freshReadings_congr <;> simp [hv, hu]
  have hv' : v.zone z =
      { s.zone z with
        lastFresh := if bringsReading t h then some s.now else (s.zone z).lastFresh
        loss := if bringsReading t h then .running (s.now + sec 60) else (s.zone z).loss } := by
    rw [hv]
    split
    · rw [State.heardZone_same]
      rfl
    · rfl
  rw [hfresh, hfresh]
  cases hd : bringsReading t h && (s.zone z).expired with
  | true =>
    rw [hd] at heq
    simp only [if_true] at heq ⊢
    rw [heq, State.deriveStatus_same, State.recombine_same, hv']
  | false =>
    rw [hd] at heq
    simp only [Bool.false_eq_true, if_false] at heq ⊢
    rw [heq, State.recombine_same, hv']

/-! ### The zone switch, the fan request and the loss timer (R8, R10, R11) -/

theorem State.takeSwitch_other (s : State) (z z' : ZoneId) (on fan : Bool) (h : z' ≠ z) :
    (s.takeSwitch z on fan).zone z' = s.zone z' := by
  simp only [State.takeSwitch]
  split_ifs <;>
    simp only [State.deriveStatus_other _ _ _ h, State.leavePlay_other _ _ _ h, State.zone_setZone_other _ _ _ _ h]

/-- A zone whose switch and fan request are taken at once: enabled, with a source and not lost (R11). -/
def State.heedsSwitch (s : State) (z : ZoneId) : Bool := (s.zoneCfg z).enabled && s.hasSource z && !(s.zone z).expired

theorem State.takeSwitch_eq (s : State) (z : ZoneId) (on fan : Bool) :
    s.takeSwitch z on fan =
      let u := s.setZone z { s.zone z with switchOn := on, fan := fan }
      if s.heedsSwitch z then
        if (s.zone z).switchOn && !on then u.leavePlay z else if !(s.zone z).switchOn && on then u.deriveStatus z else u
      else u := by
  have h : (s.setZone z { s.zone z with switchOn := on, fan := fan }).heedsSwitch z = s.heedsSwitch z := by
    simp [State.heedsSwitch, State.zoneCfg, State.hasSource, State.routeCfg, ZoneRun.expired]
  rw [← h]
  rfl

theorem State.takeSwitch_same (s : State) (z : ZoneId) (on fan : Bool) :
    (s.takeSwitch z on fan).zone z =
      { s.zone z with
        switchOn := on
        fan := fan
        call := if s.heedsSwitch z && (s.zone z).switchOn && !on then .none else (s.zone z).call
        demand := if s.heedsSwitch z && (s.zone z).switchOn && !on then 0 else (s.zone z).demand
        unmet := if s.heedsSwitch z && (s.zone z).switchOn && !on then 0 else (s.zone z).unmet
        status :=
          if s.heedsSwitch z && ((s.zone z).switchOn != on) then (s.takeSwitch z on fan).statusOf z
          else (s.zone z).status } := by
  have heq := s.takeSwitch_eq z on fan
  cases hh : s.heedsSwitch z <;> cases hw : (s.zone z).switchOn <;> cases on <;>
    simp only [hh, hw, Bool.not_true, Bool.not_false, Bool.and_true, Bool.and_false, Bool.false_eq_true, if_true,
      if_false] at heq <;> rw [heq]
  case true.true.false => rw [State.leavePlay_same]; simp [ZoneRun.quiet]
  case true.false.true => rw [State.deriveStatus_same]; simp
  all_goals simp

theorem State.loseZone_other (s : State) (z z' : ZoneId) (h : z' ≠ z) : (s.loseZone z).zone z' = s.zone z' := by
  simp only [State.loseZone]
  split_ifs <;> simp only [State.leavePlay_other _ _ _ h, State.zone_setZone_other _ _ _ _ h]

theorem State.loseZone_enabled {s : State} {z : ZoneId} (h : (s.zoneCfg z).enabled = true) :
    (s.loseZone z).zone z = { (s.zone z).quiet with loss := .expired, status := (s.loseZone z).statusOf z } := by
  have heq : s.loseZone z = (s.setZone z { s.zone z with loss := .expired }).leavePlay z := if_pos h
  rw [heq, State.leavePlay_same]
  simp [ZoneRun.quiet]

theorem State.loseZone_disabled {s : State} {z : ZoneId} (h : (s.zoneCfg z).enabled = false) :
    s.loseZone z = s.setZone z { s.zone z with loss := .expired } :=
  if_neg (Bool.eq_false_iff.1 h)

/-! ### Setpoints (R16) -/

theorem State.changeZone_other (s : State) (x : Setpoints) (z z' : ZoneId) (h : z' ≠ z) :
    (s.changeZone x z).zone z' = s.zone z' :=
  State.zone_setZone_other _ _ _ _ h

@[simp] theorem State.changeZone_same (s : State) (x : Setpoints) (z : ZoneId) :
    (s.changeZone x z).zone z = (s.zone z).change x := by
  simp [State.changeZone]

theorem State.changeZones_zone (s : State) (x : Setpoints) (p : ZoneCfg → Bool) (z : ZoneId) :
    (s.changeZones x p).zone z =
      if (s.zoneCfg z).enabled && p (s.zoneCfg z) then (s.zone z).change x else s.zone z := by
  have hother : ∀ (j : ZoneId) (t : State), j ≠ z → t.tables = s.tables →
      (if (t.zoneCfg j).enabled && p (t.zoneCfg j) then t.changeZone x j else t).zone z = t.zone z := by
    intro j t hj _
    split
    · exact t.changeZone_other x j z (Ne.symm hj)
    · rfl
  obtain ⟨u, htab, hz, hres⟩ := State.forIx_at (fun t => t.zone z) (fun t => t.tables = s.tables)
    (fun z t => if (t.zoneCfg z).enabled && p (t.zoneCfg z) then t.changeZone x z else t) z s rfl
    (fun j t ht => by simp [ht]) hother
  refine hres.trans ?_
  simp only [State.zoneCfg_congr htab]
  split
  · rw [State.changeZone_same, hz]
  · exact hz

/-! ### The evaluation at an expiry (R17, R22, R34) -/

@[simp] theorem State.evaluateZones_zone (s : State) (z : ZoneId) :
    s.evaluateZones.zone z = (s.zone z).evaluate s.profile (s.zoneCfg z) (s.inPlay z) := by
  simp [State.evaluateZones, State.zone]

/-- Nothing but the zones and the events distinguishes two states. -/
def SameButZones (s t : State) : Prop :=
  t.tables = s.tables ∧ t.computation = s.computation ∧ t.command = s.command ∧ t.arbiter = s.arbiter

theorem SameButZones.statusOf {s t : State} (h : SameButZones s t) {z : ZoneId}
    (hz : t.zone z = { s.zone z with status := (t.zone z).status }) : t.statusOf z = s.statusOf z := by
  obtain ⟨htab, hcomp, hcmd, harb⟩ := h
  apply State.statusOf_congr z htab hcomp hcmd (State.house_congr harb) <;> rw [hz]

/-- Deriving the status of every zone gives each zone the status that the state after gives it. -/
theorem State.deriveAll_zone (s : State) (z : ZoneId) :
    (s.forIx fun z t => t.deriveStatus z).zone z = { s.zone z with status := s.statusOf z } := by
  obtain ⟨u, hu, hz, hres⟩ := State.forIx_at (fun t => t.zone z) (SameButZones s)
    (fun (z : ZoneId) t => t.deriveStatus z) z s ⟨rfl, rfl, rfl, rfl⟩
    (fun j t ⟨h1, h2, h3, h4⟩ => ⟨by simp [h1], by simp [h2], by simp [h3], by simp [h4]⟩)
    (fun j t hj _ => t.deriveStatus_other j z (Ne.symm hj))
  rw [hres, State.deriveStatus_zone, hz, hu.statusOf (by rw [hz])]

theorem State.deriveAll_statusOf (s : State) (z : ZoneId) :
    (s.forIx fun z t => t.deriveStatus z : State).statusOf z = s.statusOf z := by
  refine SameButZones.statusOf ⟨?_, ?_, ?_, ?_⟩ (by rw [State.deriveAll_zone])
  all_goals simp

theorem State.updateZones_zone (s : State) (z : ZoneId) :
    s.updateZones.zone z = { (s.zone z).countUnmet s.house with status := s.updateZones.statusOf z } := by
  simp only [State.updateZones]
  rw [State.deriveAll_statusOf, State.deriveAll_zone]
  simp [State.zone]

/-! ### Written records (R3, R7, R12, R24) -/

theorem State.zoneWritten_other (s : State) (z z' : ZoneId) (old : ZoneCfg) (h : z' ≠ z) :
    (s.zoneWritten z old).zone z' = s.zone z' := by
  simp only [State.zoneWritten]
  split_ifs <;>
    simp only [State.deriveStatus_other _ _ _ h, State.leavePlay_other _ _ _ h, State.zone_setZone_other _ _ _ _ h]

theorem State.zoneWritten_same (s : State) (z : ZoneId) (old : ZoneCfg) :
    (s.zoneWritten z old).zone z =
      { (if old.enabled && !(s.zoneCfg z).enabled then ((s.zone z).takeStored old (s.zoneCfg z)).quiet
          else (s.zone z).takeStored old (s.zoneCfg z)) with
        status :=
          if old.enabled = (s.zoneCfg z).enabled then (s.zone z).status else (s.zoneWritten z old).statusOf z } := by
  have heq : s.zoneWritten z old =
      let u := s.setZone z ((s.zone z).takeStored old (s.zoneCfg z))
      if old.enabled && !(s.zoneCfg z).enabled then u.leavePlay z
      else if !old.enabled && (s.zoneCfg z).enabled then u.deriveStatus z else u := rfl
  cases ho : old.enabled <;> cases hc : (s.zoneCfg z).enabled <;>
    simp only [ho, hc, Bool.not_true, Bool.not_false, Bool.and_true, Bool.and_false, Bool.false_eq_true, if_true,
      if_false] at heq <;> rw [heq]
  case true.false => rw [State.leavePlay_same]; simp
  case false.true => rw [State.deriveStatus_same]; simp
  all_goals simp [ZoneRun.takeStored]

theorem State.loseSource_other (s : State) (z z' : ZoneId) (h : z' ≠ z) : (s.loseSource z).zone z' = s.zone z' := by
  simp only [State.loseSource, State.leavePlay_other _ _ _ h, State.zone_setZone_other _ _ _ _ h]

theorem State.loseSource_same (s : State) (z : ZoneId) :
    (s.loseSource z).zone z =
      { (s.zone z).quiet with
        t := none, h := none, lastFresh := none, loss := .stopped, status := (s.loseSource z).statusOf z } := by
  simp only [State.loseSource]
  rw [State.leavePlay_same]
  simp [ZoneRun.quiet]

theorem State.gainSource_other (s : State) (z z' : ZoneId) (h : z' ≠ z) : (s.gainSource z).zone z' = s.zone z' := by
  simp only [State.gainSource, State.deriveStatus_other _ _ _ h, State.zone_setZone_other _ _ _ _ h]

theorem State.gainSource_same (s : State) (z : ZoneId) :
    (s.gainSource z).zone z =
      { s.zone z with loss := .running (s.now + sec 60), status := (s.gainSource z).statusOf z } := by
  simp only [State.gainSource]
  rw [State.deriveStatus_same]
  simp

end Sys2Proof.Machine
end

section
/-! PROOF. Setpoints, calls and demand: the statements about one zone's record. -/

namespace Sys2Proof.Machine

/-! ### A setpoint change (R16) -/

/-- The heat setpoint that a change forms, before the pair is corrected. -/
def ZoneRun.newHeat (r : ZoneRun) (x : Setpoints) : Int := ((x.heat.form r.sh).map (clampInt 50 300)).getD r.sh

/-- The cool setpoint that a change forms, before the pair is corrected. -/
def ZoneRun.newCool (r : ZoneRun) (x : Setpoints) : Int := ((x.cool.form r.sc).map (clampInt 150 350)).getD r.sc

/-- The dry setpoint that a change forms. -/
def ZoneRun.newDry (r : ZoneRun) (x : Setpoints) : Int := ((x.dry.form r.hd).map (clampInt 35 70)).getD r.hd

theorem clampInt_range {lo hi : Int} (h : lo ≤ hi) (v : Int) : lo ≤ clampInt lo hi v ∧ clampInt lo hi v ≤ hi := by
  simp only [clampInt]
  omega

theorem getD_clampInt_range {lo hi r : Int} (h : lo ≤ hi) (hr : lo ≤ r ∧ r ≤ hi) (v : Option Int) :
    lo ≤ (v.map (clampInt lo hi)).getD r ∧ (v.map (clampInt lo hi)).getD r ≤ hi := by
  cases v with
  | none => exact hr
  | some v => exact clampInt_range h v

/-- A change in closed form: the values formed, and where they come too near each other the other value moves away from the one
given, the heat value first. -/
theorem ZoneRun.change_eq (r : ZoneRun) (x : Setpoints) :
    r.change x =
      { r with
        sh := if r.newCool x - r.newHeat x < 10 ∧ x.heat.form r.sh = none ∧ (x.cool.form r.sc).isSome then r.newCool x - 10
          else r.newHeat x
        sc := if r.newCool x - r.newHeat x < 10 ∧ (x.heat.form r.sh).isSome then r.newHeat x + 10 else r.newCool x
        hd := r.newDry x } := by
  unfold ZoneRun.change
  rcases Option.eq_none_or_eq_some (x.heat.form r.sh) with hh | ⟨v, hh⟩ <;>
    rcases Option.eq_none_or_eq_some (x.cool.form r.sc) with hc | ⟨u, hc⟩ <;>
    rcases Option.eq_none_or_eq_some (x.dry.form r.hd) with hd | ⟨w, hd⟩ <;>
    simp [ZoneRun.newHeat, ZoneRun.newCool, ZoneRun.newDry, hh, hc, hd] <;> split <;> rfl

/-- The ranges of R12, and the 1 °C between heat and cool. -/
def ZoneRun.InRange (r : ZoneRun) : Prop :=
  (50 ≤ r.sh ∧ r.sh ≤ 300) ∧ (150 ≤ r.sc ∧ r.sc ≤ 350) ∧ 10 ≤ r.sc - r.sh ∧ (35 ≤ r.hd ∧ r.hd ≤ 70)

/-- A change keeps the ranges of R12. -/
theorem ZoneRun.InRange.change {r : ZoneRun} (h : r.InRange) (x : Setpoints) : (r.change x).InRange := by
  obtain ⟨hsh, hsc, hgap, hhd⟩ := h
  have h1 : 50 ≤ r.newHeat x ∧ r.newHeat x ≤ 300 := getD_clampInt_range (by decide) hsh _
  have h2 : 150 ≤ r.newCool x ∧ r.newCool x ≤ 350 := getD_clampInt_range (by decide) hsc _
  have h3 : 35 ≤ r.newDry x ∧ r.newDry x ≤ 70 := getD_clampInt_range (by decide) hhd _
  have hkeep : x.heat.form r.sh = none → x.cool.form r.sc = none → 10 ≤ r.newCool x - r.newHeat x := by
    intro hh hc
    simpa [ZoneRun.newHeat, ZoneRun.newCool, hh, hc] using hgap
  rw [ZoneRun.change_eq]
  simp only [ZoneRun.InRange]
  cases hh : x.heat.form r.sh with
  | some v => simp; split <;> omega
  | none =>
    cases hc : x.cool.form r.sc with
    | some v => simp; split <;> omega
    | none =>
      have := hkeep hh hc
      simp
      omega

/-- Settles O21: the closed form of a change, with the value given first deciding which of the two setpoints moves. -/
theorem setpointsAreClamped : Obligations.SetpointsAreClamped := by
  intro r x h1 h2 h3 h4 hgap h5 h6 n sc
  obtain ⟨hsh, hsc, hsep, hhd⟩ := ZoneRun.InRange.change (r := r) ⟨⟨h1, h2⟩, ⟨h3, h4⟩, hgap, h5, h6⟩ x
  have hn : n = r.change x := rfl
  have hc : sc = r.newCool x := rfl
  rw [ZoneRun.change_eq] at hn
  refine ⟨fun v hv => ?_, fun hv => ?_, by rw [hn]; rfl, hsh, hsc, hsep, hhd, by rw [hn]⟩
  · have hheat : r.newHeat x = clampInt 50 300 v := by simp [ZoneRun.newHeat, hv]
    rw [hc, ← hheat, hn]
    simp [hv]
    split <;> omega
  · have hheat : r.newHeat x = r.sh := by simp [ZoneRun.newHeat, hv]
    have hcool : x.cool.form r.sc = none → r.newCool x = r.sc := fun h => by simp [ZoneRun.newCool, h]
    rw [hc, hn]
    cases hf : x.cool.form r.sc with
    | none =>
      have := hcool hf
      simp [hv, hheat]
      omega
    | some v =>
      simp [hv, hheat]
      split <;> omega

/-! ### Calls (R18 to R20) -/

theorem coolStarts_iff (p : Profile) (c : ZoneCfg) (r : ZoneRun) :
    coolStarts p c r = true ↔ ∃ t, r.t = some t ∧ (p.ton : Int) ≤ t - r.sc ∧ c.permission ≠ .heatOnly := by
  unfold coolStarts
  cases r.t <;> simp

theorem coolGoesOn_iff (p : Profile) (c : ZoneCfg) (r : ZoneRun) :
    coolGoesOn p c r = true ↔ ∃ t, r.t = some t ∧ -(p.toff : Int) < t - r.sc ∧ c.permission ≠ .heatOnly := by
  unfold coolGoesOn
  cases r.t <;> simp

theorem heatStarts_iff (p : Profile) (c : ZoneCfg) (r : ZoneRun) :
    heatStarts p c r = true ↔ ∃ t, r.t = some t ∧ (p.ton : Int) ≤ r.sh - t ∧ c.permission ≠ .coolOnly := by
  unfold heatStarts
  cases r.t <;> simp

theorem heatGoesOn_iff (p : Profile) (c : ZoneCfg) (r : ZoneRun) :
    heatGoesOn p c r = true ↔ ∃ t, r.t = some t ∧ -(p.toff : Int) < r.sh - t ∧ c.permission ≠ .coolOnly := by
  unfold heatGoesOn
  cases r.t <;> simp

theorem dryStarts_iff (c : ZoneCfg) (r : ZoneRun) :
    dryStarts c r = true ↔
      ∃ t h, r.t = some t ∧ r.h = some h ∧ r.hd + 5 ≤ h ∧ r.sh + 10 ≤ t ∧ c.permission ≠ .heatOnly := by
  unfold dryStarts
  cases r.t <;> cases r.h <;> simp [and_assoc]

theorem dryGoesOn_iff (c : ZoneCfg) (r : ZoneRun) :
    dryGoesOn c r = true ↔
      ∃ t h, r.t = some t ∧ r.h = some h ∧ r.hd < h ∧ r.sh + 5 < t ∧ c.permission ≠ .heatOnly := by
  unfold dryGoesOn
  cases r.t <;> cases r.h <;> simp [and_assoc]

/-- The start that a zone without a call makes: COOL before HEAT before DRY. -/
theorem callStarted_iff (p : Profile) (c : ZoneCfg) (r : ZoneRun) :
    (callStarted p c r = .cool ↔ coolStarts p c r = true)
      ∧ (callStarted p c r = .heat ↔ heatStarts p c r = true ∧ ¬coolStarts p c r = true)
      ∧ (callStarted p c r = .dry ↔ dryStarts c r = true ∧ ¬coolStarts p c r = true ∧ ¬heatStarts p c r = true) := by
  unfold callStarted
  split_ifs <;> simp_all

/-- A DRY call gives way to COOL and HEAT before it is tested. -/
theorem callKept_dry_iff (p : Profile) (c : ZoneCfg) {r : ZoneRun} (h : r.call = .dry) :
    (callKept p c r = .cool ↔ coolStarts p c r = true)
      ∧ (callKept p c r = .heat ↔ heatStarts p c r = true ∧ ¬coolStarts p c r = true)
      ∧ (callKept p c r = .dry ↔ dryGoesOn c r = true ∧ ¬coolStarts p c r = true ∧ ¬heatStarts p c r = true) := by
  unfold callKept
  rw [h]
  dsimp only
  split_ifs <;> simp_all

theorem callKept_none {p : Profile} {c : ZoneCfg} {r : ZoneRun} (h : r.call = .none) : callKept p c r = .none := by
  simp [callKept, h]

theorem callKept_cool_iff (p : Profile) (c : ZoneCfg) {r : ZoneRun} (h : r.call = .cool) :
    callKept p c r = .cool ↔ coolGoesOn p c r = true := by
  unfold callKept
  rw [h]
  dsimp only
  split_ifs <;> simp_all

theorem callKept_heat_iff (p : Profile) (c : ZoneCfg) {r : ZoneRun} (h : r.call = .heat) :
    callKept p c r = .heat ↔ heatGoesOn p c r = true := by
  unfold callKept
  rw [h]
  dsimp only
  split_ifs <;> simp_all

theorem callFormed_of_kept {p : Profile} {c : ZoneCfg} {r : ZoneRun} (h : callKept p c r ≠ .none) :
    callFormed p c r = callKept p c r := by
  simp [callFormed, h]

theorem callFormed_of_ended {p : Profile} {c : ZoneCfg} {r : ZoneRun} (h : callKept p c r = .none) :
    callFormed p c r = callStarted p c r := by
  simp [callFormed, h]

/-- HEAT ONLY leaves no COOL call (R18). -/
theorem callFormed_heatOnly {p : Profile} {c : ZoneCfg} {r : ZoneRun} (hp : c.permission = .heatOnly) :
    callFormed p c r ≠ .cool := by
  have h1 : coolStarts p c r = false := by
    rw [← Bool.not_eq_true, coolStarts_iff]
    rintro ⟨t, -, -, h⟩
    exact h hp
  have h2 : coolGoesOn p c r = false := by
    rw [← Bool.not_eq_true, coolGoesOn_iff]
    rintro ⟨t, -, -, h⟩
    exact h hp
  have hs : callStarted p c r ≠ .cool := fun h => by simp [(callStarted_iff p c r).1.1 h] at h1
  by_cases hk : callKept p c r = .none
  · rwa [callFormed_of_ended hk]
  · rw [callFormed_of_kept hk]
    unfold callKept
    cases r.call <;> simp [h1, h2]
    all_goals split_ifs <;> simp

/-- A call that is formed has a temperature to go by, or in DRY a humidity. -/
theorem demandOf_ge {c : ZoneCfg} {r : ZoneRun} {call : Call} (h : call ≠ .none) : 10 ≤ demandOf c r call := by
  cases call with
  | none => exact absurd rfl h
  | cool => simp only [demandOf]; split <;> omega
  | heat => simp only [demandOf]; split <;> omega
  | dry => simp only [demandOf]; split <;> omega

theorem demandOf_le (c : ZoneCfg) (r : ZoneRun) (call : Call) : demandOf c r call ≤ 100 := by
  cases call with
  | none => exact Nat.zero_le _
  | cool => simp only [demandOf]; split <;> omega
  | heat => simp only [demandOf]; split <;> omega
  | dry => simp only [demandOf]; split <;> omega

/-- The excess over zero as the manual writes it. -/
theorem posPart_cast (x : Int) : (posPart x : Int) = max x 0 := Int.toNat_eq_max x

theorem demandOf_cool {c : ZoneCfg} {r : ZoneRun} {t : Int} (h : r.t = some t) :
    (demandOf c r .cool : Int) = min 100 (max 10 (max (t - r.sc) 0 * c.kp / 4)) := by
  simp [demandOf, h, posPart_cast]

theorem demandOf_heat {c : ZoneCfg} {r : ZoneRun} {t : Int} (h : r.t = some t) :
    (demandOf c r .heat : Int) = min 100 (max 10 (max (r.sh - t) 0 * c.kp / 4)) := by
  simp [demandOf, h, posPart_cast]

theorem demandOf_dry {c : ZoneCfg} {r : ZoneRun} {h : Int} (hh : r.h = some h) :
    (demandOf c r .dry : Int) = min 60 (max 10 ((h - r.hd) * 4)) := by
  simp [demandOf, hh, posPart_cast]
  omega

/-- With the setpoints 1 °C apart COOL and HEAT never start together. -/
theorem coolStarts_heatStarts {p : Profile} {c : ZoneCfg} {r : ZoneRun} (hgap : 10 ≤ r.sc - r.sh)
    (hc : coolStarts p c r = true) (hh : heatStarts p c r = true) : False := by
  obtain ⟨t, ht, h1, -⟩ := (coolStarts_iff p c r).1 hc
  obtain ⟨t', ht', h2, -⟩ := (heatStarts_iff p c r).1 hh
  obtain rfl : t = t' := Option.some.inj (ht.symm.trans ht')
  omega

/-- Settles O44, from the tests of R18 to R20 one by one and their order in R17. -/
theorem callsStartAndContinue : Obligations.CallsStartAndContinue := by
  refine ⟨fun p c r => ?_, fun c r hp hsc t ht => ?_, fun c r hp hsh hgap t ht => ?_⟩
  · simp only [← coolStarts_iff, ← heatStarts_iff, ← dryStarts_iff, ← coolGoesOn_iff, ← heatGoesOn_iff,
      ← dryGoesOn_iff]
    have hstarts : callKept p c r = .none → _ := fun h => (callFormed_of_ended h) ▸ callStarted_iff p c r
    refine ⟨fun h => hstarts (callKept_none h), callKept_cool_iff p c, fun _ => callFormed_heatOnly,
      callKept_heat_iff p c, callKept_dry_iff p c, callFormed_of_kept, hstarts,
      fun hgap _ h => coolStarts_heatStarts hgap h.1 h.2, rfl, fun h => ?_, fun h => demandOf_ge h, fun h t ht => ?_,
      fun h t ht => ?_, fun h x hx => ?_, rfl⟩
    · simp [ZoneRun.evaluate, h, demandOf]
    · simpa [ZoneRun.evaluate, h] using demandOf_cool ht
    · simpa [ZoneRun.evaluate, h] using demandOf_heat ht
    · simpa [ZoneRun.evaluate, h] using demandOf_dry hx
  · have hs : coolStarts defaultProfile c r = true ↔ 245 ≤ t := by
      simp [coolStarts, ht, hp, hsc, defaultProfile]
      omega
    have hg : coolGoesOn defaultProfile c r = true ↔ 239 ≤ t := by
      simp [coolGoesOn, ht, hp, hsc, defaultProfile]
      omega
    refine ⟨fun h => ?_, fun h => (callKept_cool_iff _ c h).trans hg⟩
    rw [callFormed_of_ended (callKept_none h), (callStarted_iff _ c r).1, hs]
  · have hs : heatStarts defaultProfile c r = true ↔ t ≤ 195 := by
      simp [heatStarts, ht, hp, hsh, defaultProfile]
      omega
    have hg : heatGoesOn defaultProfile c r = true ↔ t ≤ 201 := by
      simp [heatGoesOn, ht, hp, hsh, defaultProfile]
      omega
    refine ⟨fun h => ?_, fun h => (callKept_heat_iff _ c h).trans hg⟩
    rw [callFormed_of_ended (callKept_none h), (callStarted_iff _ c r).2.1, hs, and_iff_left_iff_imp]
    exact fun h' hc => coolStarts_heatStarts (by omega) hc (hs.2 h')

end Sys2Proof.Machine
end

section
/-! PROOF. The timers of a zone, of DEFROST and of the cycle, and the part right after its first reset. -/

namespace Sys2Proof.Machine

/-- A timer that holds a moment that has come has expired. -/
theorem due_of_le {d : Option Time} {m now : Time} (h : d = some m) (hle : @LE.le Nat _ m now) : due d now = true := by
  rw [h]
  exact decide_eq_true hle

theorem ZoneRun.lossDue_of_le {r : ZoneRun} {m now : Time} (h : r.loss = .running m) (hle : @LE.le Nat _ m now) :
    r.lossDue now = true := by
  simp only [ZoneRun.lossDue, h]
  exact decide_eq_true hle

theorem running_and_elapse {s : State} (dt : Nat) {b : Bool} (hrun : s.phase = .running) (hb : b = true) :
    ((s.elapse dt).isRunning && b) = true := by
  simp [hrun, hb]

/-! ### Loss of a zone and a long defrost (R8, R45) -/

/-- An enabled zone with a source whose loss timer expires is LOST and has left play; ZONE LOST is raised (R8, R24). -/
theorem State.loseZone_eq_of_enabled {s : State} {z : ZoneId} (he : (s.zoneCfg z).enabled = true)
    (hsrc : s.hasSource z = true) (hst : (s.zone z).status ≠ .lost) :
    s.loseZone z =
      { s with
        zones := put s.zones z
          { s.zone z with loss := .expired, call := .none, demand := 0, unmet := 0, status := .lost }
        events := afterRaise s.events .zoneLost } := by
  set u := s.setZone z { (s.zone z).quiet with loss := .expired } with hu
  have heq : s.loseZone z = u.deriveStatus z := by
    rw [show s.loseZone z = (s.setZone z { s.zone z with loss := .expired }).leavePlay z from if_pos he]
    simp [State.leavePlay, ZoneRun.quiet, hu]
  have hlost : u.statusOf z = .lost := by
    rw [State.statusOf_eq_lost_iff]
    exact ⟨he, by simpa [State.isLost, ZoneRun.expired, hu, State.hasSource, State.routeCfg] using hsrc⟩
  have hevents : (u.deriveStatus z).events = afterRaise s.events .zoneLost :=
    State.deriveStatus_events_lost hlost (by simpa [hu, ZoneRun.quiet] using hst)
  have hzones : (u.deriveStatus z).zones =
      put s.zones z { s.zone z with loss := .expired, call := .none, demand := 0, unmet := 0, status := .lost } := by
    refine look_ext fun j => ?_
    by_cases hj : j = z
    · subst hj
      rw [look_put_same]
      refine (State.deriveStatus_zone u j).trans ?_
      rw [hlost]
      simp [hu, ZoneRun.quiet]
    · rw [look_put_other _ _ _ _ hj]
      refine (State.deriveStatus_other u z j hj).trans ?_
      exact State.zone_setZone_other s z j _ hj
  rw [heq]
  ext1
  case zones => exact hzones
  case events => exact hevents
  all_goals simp [hu]

/-- Settles O50: each timer on its occasion, by the equations of the two operations. -/
theorem lossAndDefrostTimersAct : Obligations.LossAndDefrostTimersAct := by
  refine ⟨fun s dt z d hrun hloss hle hsrc => ⟨fun he hst => ?_, fun he => ?_⟩, fun s dt d hrun hd hle => ?_⟩
  · have hguard : ((s.elapse dt).isRunning && ((s.elapse dt).zone z).lossDue (s.elapse dt).now) = true := by
      rw [Bool.and_eq_true]
      exact ⟨(State.isRunning_iff _).2 hrun, ZoneRun.lossDue_of_le hloss hle⟩
    refine (congrArg Host.Outcome.next (if_pos hguard)).trans ?_
    rw [State.loseZone_eq_of_enabled (s := s.elapse dt) he hsrc hst]
    rfl
  · have hguard : ((s.elapse dt).isRunning && ((s.elapse dt).zone z).lossDue (s.elapse dt).now) = true := by
      rw [Bool.and_eq_true]
      exact ⟨(State.isRunning_iff _).2 hrun, ZoneRun.lossDue_of_le hloss hle⟩
    refine (congrArg Host.Outcome.next (if_pos hguard)).trans ?_
    rw [State.loseZone_disabled (s := s.elapse dt) he]
    rfl
  · have hguard : ((s.elapse dt).isRunning && due (s.elapse dt).arbiter.defrostDue (s.elapse dt).now) = true := by
      rw [Bool.and_eq_true]
      exact ⟨(State.isRunning_iff _).2 hrun, due_of_le hd hle⟩
    refine (congrArg Host.Outcome.next (if_pos hguard)).trans (congrArg Host.Outcome.next ?_)
    ext1
    case events => simp [State.defrostLong]
    all_goals simp [State.defrostLong]

/-! ### The cycle (R34) -/

/-- The part once the decision of an expiry has been acted on: step 4 of R34. -/
def State.decided (s : State) : State :=
  if s.evaluateZones.decision.2 then s.evaluateZones.decision.1.computeAndPublish
  else s.evaluateZones.decision.1.noComputation

/-- The part once the zones have been updated: step 5 of R34. -/
def State.updated (s : State) : State := s.decided.updateZones

theorem State.cycle_eq (s : State) :
    s.cycle = s.updated.setArbiter { s.updated.arbiter with cycleDue := s.updated.after (sec s.updated.profile.cycle) } := by
  simp only [State.cycle, State.updated, State.decided]

theorem State.decided_zone (s : State) (z : ZoneId) :
    s.decided.zone z = (s.zone z).evaluate s.profile (s.zoneCfg z) (s.inPlay z) := by
  have h : s.decided.zones = s.evaluateZones.zones := by simp [State.decided]
  rw [State.zone_congr h, State.evaluateZones_zone]

/-- Every zone at an expiry: its evaluation, its unmet count by the house state decided on, its status last. -/
theorem State.cycle_zone (s : State) (z : ZoneId) :
    s.cycle.zone z =
      { ((s.zone z).evaluate s.profile (s.zoneCfg z) (s.inPlay z)).countUnmet s.cycle.house with
        status := s.cycle.statusOf z } := by
  have hzone : s.cycle.zone z = s.updated.zone z := State.zone_congr (by simp [State.cycle_eq]) z
  have hhouse : s.cycle.house = s.decided.house := by simp [State.cycle_eq, State.updated, State.house]
  have hstatus : s.cycle.statusOf z = s.updated.statusOf z := by
    apply State.statusOf_congr <;> simp [State.cycle_eq, State.house, State.zone]
  rw [hzone, hhouse, hstatus, State.updated, State.updateZones_zone, State.decided_zone]

/-- Settles O45: the cycle evaluates every zone before the decision, counts and derives after it. -/
theorem cycleEvaluatesEveryZone : Obligations.CycleEvaluatesEveryZone := by
  intro s dt d hrun hd hle
  have hguard := running_and_elapse dt hrun (due_of_le hd hle)
  refine ⟨(s.elapse dt).cycle, congrArg Host.Outcome.next (if_pos hguard), ?_, fun z => ?_, ?_⟩
  · simp [State.cycle_eq, State.updated, State.decided, State.after, State.profile]
  · rw [State.cycle_zone]
    rfl
  · ext1 <;> simp

/-! ### The part after its first reset (R177) -/

/-- Settles O3: a fixed state, invariant by invariant. -/
theorem resetIsSafe : Obligations.ResetIsSafe := by
  have hchan : ∀ c, State.reset.channel c = resetChannel 0 := fun c => look_replicate _ c
  have hzone : ∀ z, State.reset.zone z = resetZoneRun defaultZone := fun z => look_replicate _ z
  have hdamper : ∀ c, State.reset.damperCfg c = defaultDamper := fun c => look_replicate _ c
  have hroute : ∀ i, State.reset.routeRun i = resetRouteRun := fun i => look_replicate _ i
  have hlink : ∀ n, State.reset.link n = resetLink := fun n => by cases n <;> rfl
  refine ⟨?_, fun z => ?_, fun z => ?_, ⟨fun z h => ?_, fun _ z => ?_⟩, ⟨fun c => ?_, fun _ c => ?_⟩,
    ?_, ?_, ?_, fun n => ?_, ?_, ?_, fun i => ?_⟩
  · change defaultTables.valid = true
    decide +kernel
  · rw [hzone]
    decide
  · rw [hzone]
    decide
  · rw [hzone] at h
    exact absurd rfl h
  · rw [hzone]
    rfl
  · rw [hchan, hdamper]
    decide
  · rw [hchan]
    rfl
  · exact ⟨rfl, .inl rfl, fun _ => rfl, fun _ => ⟨rfl, rfl, rfl⟩, fun h => absurd h (by decide), rfl,
      fun h => absurd h (by decide), rfl, rfl, fun _ => ⟨rfl, rfl⟩⟩
  · refine ⟨fun c => ?_, List.nodup_nil, fun c => ?_, by decide +kernel, fun h => absurd h (by decide), fun c => ?_,
      fun _ => ⟨rfl, fun c => ?_⟩⟩
    · rw [hchan]
      exact ⟨rfl, fun h => absurd h (by decide), fun _ => rfl, fun h => absurd h (by decide),
        fun h => absurd h (by decide), fun h => absurd h (by decide)⟩
    · rw [hchan]
      exact ⟨fun h => absurd h List.not_mem_nil, fun h => absurd h (by decide)⟩
    · rw [hzone, hchan]
      rfl
    · rw [hchan]
      rfl
  · exact ⟨by decide, List.nodup_nil, List.nodup_nil, fun e he => absurd he List.not_mem_nil⟩
  · rw [hlink]
    exact ⟨rfl, rfl, rfl, rfl, rfl, fun h => absurd h (by decide), fun h => absurd h (by decide), fun _ => rfl,
      fun h => absurd h (by decide)⟩
  · exact ⟨rfl, rfl, fun h => absurd h (by decide), fun _ => rfl, fun h => absurd h (by decide)⟩
  · exact BitVec.zero_and
  · rw [hroute]
    decide

end Sys2Proof.Machine
end

section
/-! PROOF. What every step keeps of the tables and of the zones: the cases of a step in which the tables, the zones or the phase
change, once for every invariant that depends on nothing else. -/

namespace Sys2Proof.Machine

/-! ### Tables written -/

theorem look_writeAt {α : Type} {n : Nat} (v : Vector α n) (start : Nat) (xs : List α) (i : Fin n) :
    look (writeAt v start xs) i =
      if covers start xs.length i.val then xs.getD (i.val - start) (look v i) else look v i := by
  simp only [writeAt, look_tab]

/-- A record that a write covers is one of those written. -/
theorem look_writeAt_mem {α : Type} {n : Nat} {v : Vector α n} {start : Nat} {xs : List α} {i : Fin n}
    (h : covers start xs.length i.val = true) : look (writeAt v start xs) i ∈ xs := by
  obtain ⟨h1, h2⟩ := (covers_iff _ _ _).1 h
  have hlt : i.val - start < xs.length := by omega
  rw [look_writeAt, if_pos h, List.getD_eq_getElem _ _ hlt]
  exact List.getElem_mem hlt

theorem look_writeAt_outside {α : Type} {n : Nat} {v : Vector α n} {start : Nat} {xs : List α} {i : Fin n}
    (h : covers start xs.length i.val = false) : look (writeAt v start xs) i = look v i := by
  simp [look_writeAt, h]

/-- What every old record and every written one meets, every record meets after a write. -/
theorem forall_look_writeAt {α : Type} {n : Nat} {p : α → Prop} {v : Vector α n} {xs : List α} (start : Nat)
    (hv : ∀ i, p (look v i)) (hx : ∀ x ∈ xs, p x) (i : Fin n) : p (look (writeAt v start xs) i) := by
  cases h : covers start xs.length i.val with
  | true => exact hx _ (look_writeAt_mem h)
  | false =>
    rw [look_writeAt_outside h]
    exact hv i

theorem all_toList_iff {α : Type} {n : Nat} (v : Vector α n) (p : α → Bool) :
    v.toList.all p = true ↔ ∀ i : Fin n, p (look v i) = true := by
  rw [List.all_eq_true]
  constructor
  · exact fun h i => h _ (Vector.mem_toList_iff.2 (Vector.getElem_mem i.isLt))
  · intro h x hx
    obtain ⟨i, hi, rfl⟩ := Vector.mem_iff_getElem.1 (Vector.mem_toList_iff.1 hx)
    exact h ⟨i, hi⟩

/-- The tables are valid record by record (R179). -/
theorem Tables.valid_iff (t : Tables) :
    t.valid = true ↔ (∀ i : RouteId, (look t.routes i).valid = true) ∧ (∀ z : ZoneId, (look t.zones z).valid = true)
      ∧ (∀ c : ChannelId, (look t.dampers c).valid = true) ∧ t.profile.valid = true ∧ uniqueRoutes t.routes = true := by
  simp only [Tables.valid, Bool.and_eq_true, all_toList_iff, and_assoc]

theorem defaultTables_valid : defaultTables.valid = true := by decide +kernel

/-- The hold in reset ends in reset (R176). -/
theorem State.not_running_of_holdOver {s : State} {above : Nat} (h : s.holdOver above = true) : s.phase ≠ .running := by
  simp only [State.holdOver, Bool.and_eq_true, decide_eq_true_eq] at h
  obtain ⟨⟨⟨held, -⟩, -⟩, -⟩ := h
  simp [held]

/-! ### The tables -/

theorem TablesHold.congr {s t : State} (h : t.tables = s.tables) (hs : TablesHold s) : TablesHold t := by
  unfold TablesHold at *
  rwa [h]

/-- What a management request writes is valid (R186). -/
theorem TablesHold.manages {s t : State} (h : TablesHold s) (m : Manages s t) : TablesHold t := by
  obtain ⟨hr, hz, hd, hp, hu⟩ := (Tables.valid_iff _).1 h
  cases m with
  | writesRoutes start xs _ hx hun =>
    have htab : (s.routesWritten (writeAt s.tables.routes start xs)).tables =
        { s.tables with routes := writeAt s.tables.routes start xs } := by simp [State.routesWritten]
    rw [TablesHold, htab]
    exact (Tables.valid_iff _).2 ⟨forall_look_writeAt start hr hx, hz, hd, hp, hun⟩
  | writesZones start xs _ hx =>
    have htab : (s.zonesWritten start xs).tables = { s.tables with zones := writeAt s.tables.zones start xs } := by
      simp [State.zonesWritten]
    rw [TablesHold, htab]
    exact (Tables.valid_iff _).2 ⟨hr, forall_look_writeAt start hz hx, hd, hp, hu⟩
  | writesDampers start xs _ hx _ =>
    have htab : (s.dampersWritten start xs).tables = { s.tables with dampers := writeAt s.tables.dampers start xs } := by
      simp [State.dampersWritten]
    rw [TablesHold, htab]
    exact (Tables.valid_iff _).2 ⟨hr, hz, forall_look_writeAt start hd hx, hp, hu⟩
  | writesProfile p hx =>
    have htab : (s.profileWritten p).tables = { s.tables with profile := p } := by simp [State.profileWritten]
    rw [TablesHold, htab]
    exact (Tables.valid_iff _).2 ⟨hr, hz, hd, hx, hu⟩
  | nothing => exact h
  | saves _ _ => exact h
  | clearsEvents es => exact h.congr (by simp)
  | clearsLatch _ _ => exact h.congr (by simp)
  | releases c _ => exact h.congr (by simp)
  | clearsCounters => exact h

theorem TablesHold.keptByReplies : KeptByReplies TablesHold where
  port _ _ h := h
  miss _ _ h := h.congr (by simp)
  credit _ _ h := h.congr (by simp)
  notice _ _ _ h := h.congr (by simp)
  report _ _ _ h := h.congr (by simp)
  change _ _ _ _ _ h := h.congr (by simp)
  query _ _ _ _ _ h := h.congr (by simp)
  manage _ _ _ m h := h.manages m

theorem TablesHold.acts {u t : State} (a : Acts u t) (h : TablesHold u) : TablesHold t := by
  cases a with
  | hearsRoom running b => exact TablesHold.keptByReplies.receive running h b
  | resets cause => exact defaultTables_valid
  | starts above good _ =>
    simp only [TablesHold, State.beginStart, State.loadStore]
    split
    · next hg =>
      simp only [StoreImage.good, Bool.and_eq_true] at hg
      exact hg.2
    · exact defaultTables_valid
  | _ => exact h.congr (by simp)

/-! ### The zones -/

/-- What keeps an invariant that depends on nothing but the zones, the configurations of zones and entries, and the phase. -/
structure KeptByZones (I : State → Prop) : Prop where
  congr : ∀ s t : State, t.zones = s.zones → t.tables.zones = s.tables.zones → t.tables.routes = s.tables.routes →
    t.phase = s.phase → I s → I t
  readings : ∀ (s : State) i z t h, I s → I (s.takeReadings i z t h)
  switch : ∀ (s : State) z on fan, I s → I (s.takeSwitch z on fan)
  lose : ∀ (s : State) z, I s → I (s.loseZone z)
  change : ∀ (s : State) x z, I s → I (s.changeZone x z)
  confirm : ∀ (s : State) z, I s → I (s.setZone z { s.zone z with confirmed := true })
  fault : ∀ (s : State) z b, I s → I (s.setZone z { s.zone z with damperFault := b })
  evaluate : ∀ s : State, s.phase = .running → I s → I s.evaluateZones
  update : ∀ s : State, I s → I s.updateZones
  routes : ∀ (s : State) start xs, I s → I (s.routesWritten (writeAt s.tables.routes start xs))
  zones : ∀ (s : State) start xs, (∀ x ∈ xs, ZoneCfg.valid x = true) → I s → I (s.zonesWritten start xs)
  reset : ∀ (s : State) cause, I (s.takeReset cause)
  start : ∀ (s : State) good, s.phase ≠ .running → I s → I (s.beginStart good)

variable {I : State → Prop}

/-- What keeps the zones, the tables and the phase keeps the invariant. -/
theorem KeptByZones.same (k : KeptByZones I) {s t : State} (hz : t.zones = s.zones) (htab : t.tables = s.tables)
    (hp : t.phase = s.phase) (h : I s) : I t :=
  k.congr s t hz (congrArg Tables.zones htab) (congrArg Tables.routes htab) hp h

theorem KeptByZones.hold (k : KeptByZones I) {s : State} (h : I s) (x : Sender) (r : HeldResult) : I (s.hold x r) :=
  k.same (by simp) (by simp) (by simp) h

theorem KeptByZones.report (k : KeptByZones I) {s : State} (h : I s) (x : Sender) (r : RoomReport) :
    I (s.takeReport x r) := by
  have h1 : I (s.reportReadings x r) := by
    unfold State.reportReadings
    split
    · exact k.readings _ _ _ _ _ h
    · exact k.readings _ _ _ _ _ h
    · exact h
  have h2 : I ((s.reportReadings x r).reportSwitch x r) := by
    unfold State.reportSwitch
    split
    · exact k.switch _ _ _ _ h1
    · exact h1
  simp only [State.takeReport]
  split
  · unfold State.reportSetpoints
    split
    · split
      · exact k.hold (k.confirm _ _ (k.change _ _ _ h2)) _ _
      · exact k.hold h2 _ _
    · exact k.hold h2 _ _
  · exact h2

theorem KeptByZones.changes (k : KeptByZones I) {s : State} (h : I s) (x : Setpoints) (p : ZoneCfg → Bool) :
    I (s.changeZones x p) := by
  refine State.forIx_induct I _ s h fun z t ht => ?_
  split
  · exact k.change _ _ _ ht
  · exact ht

theorem KeptByZones.takeChange (k : KeptByZones I) {s : State} (h : I s) (x : Sender) (sc : Scope) (g : Nat)
    (p : Setpoints) : I (s.takeChange x sc g p) := by
  refine k.hold ?_ _ _
  split
  · unfold State.applyChange
    split
    · split
      · exact k.change _ _ _ h
      · exact h
    · exact k.changes h _ _
    · exact k.changes h _ _
    · exact h
  · exact h

/-- Only a FAULT, and the release from it, touches a zone from the damper drives. -/
theorem KeptByZones.enterFault (k : KeptByZones I) {s : State} (h : I s) (c : ChannelId) (homed : Bool) :
    I (s.enterFault c homed) :=
  k.same (by simp [State.enterFault, State.zone]) (by simp) (by simp) (k.fault s c true h)

theorem KeptByZones.silenceExpired (k : KeptByZones I) {s : State} (h : I s) (c : ChannelId) :
    I (s.silenceExpired c) := by
  simp only [State.silenceExpired]
  split
  case h_2 =>
    split
    · exact k.same (by simp) (by simp) (by simp) (k.enterFault h c (s.channel c).homed)
    · exact k.same (by simp) (by simp) (by simp) h
  all_goals exact k.same (by simp) (by simp) (by simp) h

theorem KeptByZones.release (k : KeptByZones I) {s : State} (h : I s) (c : ChannelId) : I (s.releaseChannel c) :=
  k.same (by simp [State.releaseChannel, State.zone]) (by simp) (by simp) (k.fault s c false h)

theorem KeptByZones.manages (k : KeptByZones I) {s t : State} (h : I s) (m : Manages s t) : I t := by
  cases m with
  | writesRoutes start xs _ _ _ => exact k.routes s start xs h
  | writesZones start xs _ hx => exact k.zones s start xs hx h
  | writesDampers start xs _ _ _ =>
    exact k.congr s _ (by simp) (by simp [State.dampersWritten]) (by simp [State.dampersWritten]) (by simp) h
  | writesProfile p _ =>
    exact k.congr s _ (by simp) (by simp [State.profileWritten]) (by simp [State.profileWritten]) (by simp) h
  | releases c _ => exact k.release h c
  | nothing => exact h
  | saves _ _ => exact k.same (by rfl) (by rfl) (by rfl) h
  | clearsEvents es => exact k.same (by simp) (by simp) (by simp) h
  | clearsLatch _ _ => exact k.same (by simp) (by simp) (by simp) h
  | clearsCounters => exact k.same (by rfl) (by rfl) (by rfl) h

theorem KeptByZones.keptByReplies (k : KeptByZones I) : KeptByReplies I where
  port s r h := k.same (s := s) rfl rfl rfl h
  miss s a h := k.same (by simp) (by simp) (by simp) h
  credit s a h := k.same (by simp) (by simp) (by simp) h
  notice s a b h := k.same (by simp) (by simp) (by simp) h
  report s x r h := k.report h x r
  change s x sc g p h := k.takeChange h x sc g p
  query s x n item arg h := k.same (by simp) (by simp) (by simp) h
  manage s t _ m h := k.manages h m

theorem KeptByZones.cycle (k : KeptByZones I) {s : State} (running : s.phase = .running) (h : I s) : I s.cycle := by
  have h1 : I s.decided := k.same (by simp [State.decided]) (by simp [State.decided]) (by simp [State.decided]) 
    (k.evaluate s running h)
  rw [State.cycle_eq]
  exact k.same (s := s.updated) (by simp) (by simp) (by simp) (k.update _ h1)

/-- What the operations of the zones keep, every move keeps; start-up completion is for the invariant to say. -/
theorem KeptByZones.acts (k : KeptByZones I) {u t : State} (a : Acts u t)
    (complete : u.phase = .loading → I u → I u.completeStart) (h : I u) : I t := by
  cases a with
  | hearsRoom running b => exact k.keptByReplies.receive running h b
  | cycles running _ => exact k.cycle running h
  | losesZone _ z _ => exact k.lose u z h
  | silenceExpires _ c _ => exact k.silenceExpired h c
  | seekExpires _ c _ => exact k.same (by simp [State.seekExpired]) (by simp) (by simp) (k.enterFault h c false)
  | resets cause => exact k.reset u cause
  | starts above good ended => exact k.start u good (State.not_running_of_holdOver ended) h
  | completes hl => exact complete hl h
  | _ => exact k.same (by simp) (by simp) (by simp) h

end Sys2Proof.Machine
end

section
/-! PROOF. Route Table and Zone Table writes, zone by zone (R3, R7, R10, R13, R134). -/

namespace Sys2Proof.Machine

/-! ### The sources of a zone after a route write (R7, R134) -/

theorem State.hasSource_eq (s : State) (z : ZoneId) : s.hasSource z = sourceIn s.tables.routes z := rfl

theorem State.reviewSources_other (s : State) (old : Vector RouteCfg 16) (z z' : ZoneId) (h : z' ≠ z) :
    (s.reviewSources old z).zone z' = s.zone z' := by
  simp only [State.reviewSources]
  split_ifs <;>
    simp only [State.loseSource_other _ _ _ h, State.gainSource_other _ _ _ h, State.recombine_other _ _ _ h]

theorem State.reviewSources_unchanged {s : State} {old : Vector RouteCfg 16} {z : ZoneId}
    (h : sourcesChanged old s.tables.routes z = false) : s.reviewSources old z = s := by
  simp [State.reviewSources, h]

theorem State.reviewSources_lost {s : State} {old : Vector RouteCfg 16} {z : ZoneId}
    (h : sourcesChanged old s.tables.routes z = true) (hnone : s.hasSource z = false) :
    s.reviewSources old z = (s.recombine z).loseSource z := by
  have hnone' : (s.recombine z).hasSource z = false := by simpa [State.hasSource, State.routeCfg] using hnone
  simp [State.reviewSources, h, hnone']

theorem State.reviewSources_gained {s : State} {old : Vector RouteCfg 16} {z : ZoneId}
    (h : sourcesChanged old s.tables.routes z = true) (hsome : s.hasSource z = true) (hhad : sourceIn old z = false) :
    s.reviewSources old z = (s.recombine z).gainSource z := by
  have hsome' : (s.recombine z).hasSource z = true := by simpa [State.hasSource, State.routeCfg] using hsome
  simp [State.reviewSources, h, hsome', hhad]

theorem State.reviewSources_left {s : State} {old : Vector RouteCfg 16} {z : ZoneId}
    (h : sourcesChanged old s.tables.routes z = true) (hsome : s.hasSource z = true) (hhad : sourceIn old z = true) :
    s.reviewSources old z = s.recombine z := by
  have hsome' : (s.recombine z).hasSource z = true := by simpa [State.hasSource, State.routeCfg] using hsome
  simp [State.reviewSources, h, hsome', hhad]

/-- A zone that has a source before a write and none after it, or none before and one after, has its set of sources changed. -/
theorem sourcesChanged_of_sourceIn_ne {old new : Vector RouteCfg 16} {z : ZoneId} (h : sourceIn old z ≠ sourceIn new z) :
    sourcesChanged old new z = true := by
  rw [← Bool.not_eq_false]
  intro hc
  refine h (congrArg anyIx (funext fun i => ?_))
  have hi := (anyIx_eq_false_iff _).1 hc i
  simp only [Bool.or_eq_false_iff, bne_eq_false_iff_eq] at hi
  exact hi.1

/-! ### The PANEL of a zone after a route write (R10, R13, R134) -/

theorem State.reviewPanel_kept {s : State} {old : Vector RouteCfg 16} {z : ZoneId}
    (h : panelIn old z = panelIn s.tables.routes z) : s.reviewPanel old z = s := by
  unfold State.reviewPanel
  rw [h]
  cases panelIn s.tables.routes z <;> simp

theorem State.reviewPanel_another {s : State} {old : Vector RouteCfg 16} {z : ZoneId} {p : RouteId × Byte}
    (hnew : panelIn s.tables.routes z = some p) (h : panelIn old z ≠ some p) :
    s.reviewPanel old z = s.setZone z { s.zone z with confirmed := false } := by
  unfold State.reviewPanel
  rw [hnew]
  cases hold : panelIn old z with
  | none => simp
  | some q => simp [show q ≠ p from fun e => h (by rw [hold, e])]

theorem State.reviewPanel_gone {s : State} {old : Vector RouteCfg 16} {z : ZoneId}
    (hnew : panelIn s.tables.routes z = none) (h : panelIn old z ≠ none) :
    s.reviewPanel old z = s.takeSwitch z true false := by
  unfold State.reviewPanel
  rw [hnew]
  cases hold : panelIn old z with
  | none => exact absurd hold h
  | some q => rfl

/-- The three things a route write can do to a zone for its PANEL. -/
theorem State.reviewPanel_cases (s : State) (old : Vector RouteCfg 16) (z : ZoneId) :
    s.reviewPanel old z = s ∨ s.reviewPanel old z = s.setZone z { s.zone z with confirmed := false }
      ∨ s.reviewPanel old z = s.takeSwitch z true false := by
  by_cases h : panelIn old z = panelIn s.tables.routes z
  · exact .inl (State.reviewPanel_kept h)
  · cases hn : panelIn s.tables.routes z with
    | some p => exact .inr (.inl (State.reviewPanel_another hn fun e => h (e.trans hn.symm)))
    | none => exact .inr (.inr (State.reviewPanel_gone hn fun e => h (e.trans hn.symm)))

theorem State.reviewPanel_other (s : State) (old : Vector RouteCfg 16) (z z' : ZoneId) (h : z' ≠ z) :
    (s.reviewPanel old z).zone z' = s.zone z' := by
  rcases s.reviewPanel_cases old z with heq | heq | heq <;> rw [heq]
  · exact State.zone_setZone_other _ _ _ _ h
  · exact State.takeSwitch_other _ _ _ _ _ h

/-! ### The whole write -/

/-- The part once a Route Table write has replaced the table and brought the runtime parts into line (R133). -/
def State.routesInstalled (s : State) (v : Vector RouteCfg 16) : State :=
  { s with
    tables := { s.tables with routes := v }
    routes := tab fun i => (s.routeRun i).aligned (look s.tables.routes i) (look v i) }

/-- The review of one zone after a route write (R134). -/
def State.reviewZone (s : State) (old : Vector RouteCfg 16) (z : ZoneId) : State :=
  (s.reviewSources old z).reviewPanel old z

theorem State.routesWritten_eq (s : State) (v : Vector RouteCfg 16) :
    s.routesWritten v =
      ((s.routesInstalled v).forIx fun z t => t.reviewZone s.tables.routes z).forIx
        fun i t => t.reviewQueries s.tables.routes i := by
  simp only [State.routesWritten, State.routesInstalled, State.reviewZone]

theorem State.reviewZone_other (s : State) (old : Vector RouteCfg 16) (z z' : ZoneId) (h : z' ≠ z) :
    (s.reviewZone old z).zone z' = s.zone z' := by
  simp only [State.reviewZone, State.reviewPanel_other _ _ _ _ h, State.reviewSources_other _ _ _ _ h]

/-- Two states in which a zone is reviewed alike: the tables, the runtime parts of the entries, the moment, and all that a status
follows beside the zones. -/
structure Alike (s t : State) : Prop where
  zonesApart : SameButZones s t
  routes : t.routes = s.routes
  now : t.now = s.now
  phase : t.phase = s.phase

theorem Alike.refl (s : State) : Alike s s := ⟨⟨rfl, rfl, rfl, rfl⟩, rfl, rfl, rfl⟩

theorem Alike.reviewZone {s t : State} (h : Alike s t) (old : Vector RouteCfg 16) (z : ZoneId) :
    Alike s (t.reviewZone old z) := by
  obtain ⟨⟨h1, h2, h3, h4⟩, h5, h6, h7⟩ := h
  exact ⟨⟨by simp [State.reviewZone, h1], by simp [State.reviewZone, h2], by simp [State.reviewZone, h3],
    by simp [State.reviewZone, h4]⟩, by simp [State.reviewZone, h5], by simp [State.reviewZone, h6],
    by simp [State.reviewZone, h7]⟩

/-- A zone after a route write is what the review of that zone makes of a state like the one with the new table in use. -/
theorem State.routesWritten_zone (s : State) (v : Vector RouteCfg 16) (z : ZoneId) :
    ∃ u, Alike (s.routesInstalled v) u ∧ u.zone z = s.zone z
      ∧ (s.routesWritten v).zone z = (u.reviewZone s.tables.routes z).zone z := by
  obtain ⟨u, hu, hz, hres⟩ := State.forIx_at (fun t => t.zone z) (Alike (s.routesInstalled v))
    (fun z t => t.reviewZone s.tables.routes z) z (s.routesInstalled v) (.refl _) (fun j t ht => ht.reviewZone _ j)
    (fun j t hj _ => t.reviewZone_other _ j z (Ne.symm hj))
  refine ⟨u, hu, hz, ?_⟩
  rw [State.routesWritten_eq]
  exact (State.zone_congr (by simp) z).trans hres

/-- The part once a Zone Table write has replaced the records. -/
def State.zonesInstalled (s : State) (start : Nat) (xs : List ZoneCfg) : State :=
  s.setTables { s.tables with zones := writeAt s.tables.zones start xs }

theorem State.zonesWritten_eq (s : State) (start : Nat) (xs : List ZoneCfg) :
    s.zonesWritten start xs =
      (s.zonesInstalled start xs).forIx fun z t =>
        if covers start xs.length z.val then t.zoneWritten z (s.zoneCfg z) else t := rfl

theorem State.zonesWritten_zone (s : State) (start : Nat) (xs : List ZoneCfg) (z : ZoneId) :
    (covers start xs.length z.val = false → (s.zonesWritten start xs).zone z = s.zone z)
      ∧ (covers start xs.length z.val = true → ∃ u, SameButZones (s.zonesInstalled start xs) u ∧ u.zone z = s.zone z
        ∧ (s.zonesWritten start xs).zone z = (u.zoneWritten z (s.zoneCfg z)).zone z) := by
  have hother : ∀ (j : ZoneId) (t : State), j ≠ z → SameButZones (s.zonesInstalled start xs) t →
      (if covers start xs.length j.val then t.zoneWritten j (s.zoneCfg j) else t).zone z = t.zone z := by
    intro j t hj _
    split
    · exact t.zoneWritten_other j z _ (Ne.symm hj)
    · rfl
  have hstep : ∀ (j : ZoneId) (t : State), SameButZones (s.zonesInstalled start xs) t →
      SameButZones (s.zonesInstalled start xs)
        (if covers start xs.length j.val then t.zoneWritten j (s.zoneCfg j) else t) := by
    rintro j t ⟨h1, h2, h3, h4⟩
    split
    · exact ⟨by simp [h1], by simp [h2], by simp [h3], by simp [h4]⟩
    · exact ⟨h1, h2, h3, h4⟩
  obtain ⟨u, hu, hz, hres⟩ := State.forIx_at (fun t => t.zone z) (SameButZones (s.zonesInstalled start xs))
    (fun z t => if covers start xs.length z.val then t.zoneWritten z (s.zoneCfg z) else t) z
    (s.zonesInstalled start xs) ⟨rfl, rfl, rfl, rfl⟩ hstep hother
  rw [State.zonesWritten_eq]
  constructor
  · intro hc
    refine hres.trans ?_
    simp only [hc]
    exact hz
  · intro hc
    exact ⟨u, hu, hz, hres.trans (by simp only [hc, if_true])⟩

end Sys2Proof.Machine
end

section
/-! PROOF. The zones at start-up completion, and what every step keeps of every zone's record: setpoints, calls and demands. -/

namespace Sys2Proof.Machine

/-! ### Start-up completion -/

/-- The part at start-up completion before the statuses are derived. -/
def State.blocksSet (s : State) : State :=
  { s with
    phase := .running
    supply := { s.supply with latch := decide (s.supply.input = .asserted) }
    arbiter := { resetArbiter with
      house := if s.storeState = .valid then (if s.supply.input = .asserted then .halt else .idle) else .uncommissioned
      cycleDue := s.after (sec s.profile.cycle)
      restStart := some s.now }
    zones := tab s.startZone
    slotLimit := s.profile.slots
    channels := tab fun c => { s.channel c with restMs := (s.damperCfg c).deadMs }
    room := { s.room with dueSince := s.now }
    homingDue := if s.supply.input = .asserted then none else some (max s.now (s.resetAt + sec 2)) }

theorem State.startBlocks_eq (s : State) :
    s.startBlocks = (s.blocksSet.forIx fun z t => t.deriveStatus z).startDecoder := by
  simp [State.startBlocks, State.blocksSet, State.firstArbiter, State.firstHouse, State.homingJoin, State.homingTime,
    State.after, State.profile]
  rfl

theorem State.completeStart_zone (s : State) (z : ZoneId) :
    s.completeStart.zone z = { s.startZone z with status := s.completeStart.statusOf z } := by
  have hz : s.completeStart.zone z = (s.blocksSet.forIx fun z t => t.deriveStatus z : State).zone z :=
    State.zone_congr (by simp [State.completeStart, State.startBlocks_eq]) z
  have hst : s.completeStart.statusOf z = (s.blocksSet.forIx fun z t => t.deriveStatus z : State).statusOf z := by
    apply State.statusOf_congr <;> simp [State.completeStart, State.startBlocks_eq, State.house, State.zone]
  rw [hz, hst, State.deriveAll_statusOf, State.deriveAll_zone]
  simp [State.zone, State.blocksSet]

/-! ### Invariants of a zone's record -/


/-- What the rules of chapter 1 keep of a zone's record, when it speaks of setpoints, call, demand and unmet count alone. -/
structure KeptByRules (P : ZoneRun → Prop) : Prop where
  congr : ∀ r r' : ZoneRun, P r → r'.sh = r.sh → r'.sc = r.sc → r'.hd = r.hd → r'.call = r.call →
    r'.demand = r.demand → r'.unmet = r.unmet → P r'
  quiet : ∀ r : ZoneRun, P r → P r.quiet
  change : ∀ (r : ZoneRun) x, P r → P (r.change x)
  evaluate : ∀ (r : ZoneRun) p c playing, P r → P (r.evaluate p c playing)
  countUnmet : ∀ (r : ZoneRun) h, P r → P (r.countUnmet h)
  takeStored : ∀ (r : ZoneRun) old c, ZoneCfg.valid c = true → P r → P (r.takeStored old c)
  reset : P (resetZoneRun defaultZone)

variable {P : ZoneRun → Prop}

/-- An operation on one zone keeps what every record meets, when the record it leaves there meets it. -/
theorem forall_zone_of_other {s t : State} {z : ZoneId} (hother : ∀ z', z' ≠ z → t.zone z' = s.zone z')
    (h : ∀ z, P (s.zone z)) (hz : P (t.zone z)) (z' : ZoneId) : P (t.zone z') := by
  by_cases hzz : z' = z
  · exact hzz ▸ hz
  · rw [hother z' hzz]
    exact h z'

theorem KeptByRules.takeReadings (k : KeptByRules P) {s : State} (h : ∀ z, P (s.zone z)) (i : RouteId) (z : ZoneId)
    (a b : Option Int) : ∀ z', P ((s.takeReadings i z a b).zone z') := by
  refine forall_zone_of_other (fun z' hz' => s.takeReadings_other i z z' a b hz') h ?_
  rw [State.takeReadings_same]
  exact k.congr _ _ (h z) rfl rfl rfl rfl rfl rfl

theorem KeptByRules.takeSwitch (k : KeptByRules P) {s : State} (h : ∀ z, P (s.zone z)) (z : ZoneId) (on fan : Bool) :
    ∀ z', P ((s.takeSwitch z on fan).zone z') := by
  refine forall_zone_of_other (fun z' hz' => s.takeSwitch_other z z' on fan hz') h ?_
  rw [State.takeSwitch_same]
  split
  · exact k.congr _ _ (k.quiet _ (h z)) rfl rfl rfl rfl rfl rfl
  · exact k.congr _ _ (h z) rfl rfl rfl rfl rfl rfl

theorem KeptByRules.loseZone (k : KeptByRules P) {s : State} (h : ∀ z, P (s.zone z)) (z : ZoneId) :
    ∀ z', P ((s.loseZone z).zone z') := by
  refine forall_zone_of_other (fun z' hz' => s.loseZone_other z z' hz') h ?_
  cases he : (s.zoneCfg z).enabled with
  | true =>
    rw [State.loseZone_enabled he]
    exact k.congr _ _ (k.quiet _ (h z)) rfl rfl rfl rfl rfl rfl
  | false =>
    rw [State.loseZone_disabled he, State.zone_setZone_same]
    exact k.congr _ _ (h z) rfl rfl rfl rfl rfl rfl

theorem forall_zone_setZone {s : State} (h : ∀ z, P (s.zone z)) (z : ZoneId) {r : ZoneRun} (hr : P r) :
    ∀ z', P ((s.setZone z r).zone z') := by
  refine forall_zone_of_other (fun z' hz' => s.zone_setZone_other z z' r hz') h ?_
  rwa [State.zone_setZone_same]

theorem KeptByRules.reviewSources (k : KeptByRules P) {s : State} (h : ∀ z, P (s.zone z)) (old : Vector RouteCfg 16)
    (z : ZoneId) : ∀ z', P ((s.reviewSources old z).zone z') := by
  refine forall_zone_of_other (fun z' hz' => s.reviewSources_other old z z' hz') h ?_
  cases hc : sourcesChanged old s.tables.routes z with
  | false =>
    rw [State.reviewSources_unchanged hc]
    exact h z
  | true =>
    cases hn : s.hasSource z with
    | false =>
      rw [State.reviewSources_lost hc hn, State.loseSource_same, State.recombine_same]
      exact k.congr _ _ (k.quiet _ (h z)) rfl rfl rfl rfl rfl rfl
    | true =>
      cases ho : sourceIn old z with
      | false =>
        rw [State.reviewSources_gained hc hn ho, State.gainSource_same, State.recombine_same]
        exact k.congr _ _ (h z) rfl rfl rfl rfl rfl rfl
      | true =>
        rw [State.reviewSources_left hc hn ho, State.recombine_same]
        exact k.congr _ _ (h z) rfl rfl rfl rfl rfl rfl

theorem KeptByRules.reviewPanel (k : KeptByRules P) {s : State} (h : ∀ z, P (s.zone z)) (old : Vector RouteCfg 16)
    (z : ZoneId) : ∀ z', P ((s.reviewPanel old z).zone z') := by
  rcases s.reviewPanel_cases old z with heq | heq | heq <;> rw [heq]
  · exact h
  · exact forall_zone_setZone h z (k.congr _ _ (h z) rfl rfl rfl rfl rfl rfl)
  · exact k.takeSwitch h z true false

theorem KeptByRules.routesWritten (k : KeptByRules P) {s : State} (h : ∀ z, P (s.zone z)) (v : Vector RouteCfg 16) :
    ∀ z, P ((s.routesWritten v).zone z) := by
  have hreview : ∀ z, P (((s.routesInstalled v).forIx fun z t => t.reviewZone s.tables.routes z : State).zone z) :=
    State.forIx_induct (fun t => ∀ z, P (t.zone z)) _ _ h fun z t ht => k.reviewPanel (k.reviewSources ht _ z) _ z
  intro z
  rw [State.routesWritten_eq]
  refine (congrArg P (State.zone_congr (by simp) z)).mpr (hreview z)

theorem KeptByRules.zonesWritten (k : KeptByRules P) {s : State} (h : ∀ z, P (s.zone z)) (start : Nat) (xs : List ZoneCfg)
    (hx : ∀ x ∈ xs, ZoneCfg.valid x = true) : ∀ z, P ((s.zonesWritten start xs).zone z) := by
  intro z
  obtain ⟨hout, hin⟩ := s.zonesWritten_zone start xs z
  cases hc : covers start xs.length z.val with
  | false =>
    rw [hout hc]
    exact h z
  | true =>
    obtain ⟨u, ⟨htab, -⟩, hz, heq⟩ := hin hc
    have hvalid : (u.zoneCfg z).valid = true := by
      rw [State.zoneCfg_congr htab]
      exact hx _ (look_writeAt_mem hc)
    have hstored : P ((u.zone z).takeStored (s.zoneCfg z) (u.zoneCfg z)) := by
      rw [hz]
      exact k.takeStored _ _ _ hvalid (h z)
    rw [heq, State.zoneWritten_same]
    split
    · exact k.congr _ _ (k.quiet _ hstored) rfl rfl rfl rfl rfl rfl
    · exact k.congr _ _ hstored rfl rfl rfl rfl rfl rfl

theorem KeptByRules.keptByZones (k : KeptByRules P) : KeptByZones fun s => ∀ z, P (s.zone z) where
  congr s t hz _ _ _ h z := by
    rw [State.zone_congr hz]
    exact h z
  readings s i z a b h := k.takeReadings h i z a b
  switch s z on fan h := k.takeSwitch h z on fan
  lose s z h := k.loseZone h z
  change s x z h := forall_zone_setZone h z (k.change _ x (h z))
  confirm s z h := forall_zone_setZone h z (k.congr _ _ (h z) rfl rfl rfl rfl rfl rfl)
  fault s z b h := forall_zone_setZone h z (k.congr _ _ (h z) rfl rfl rfl rfl rfl rfl)
  evaluate s _ h z := by
    rw [State.evaluateZones_zone]
    exact k.evaluate _ _ _ _ (h z)
  update s h z := by
    rw [State.updateZones_zone]
    exact k.congr _ _ (k.countUnmet _ s.house (h z)) rfl rfl rfl rfl rfl rfl
  routes s start xs h := k.routesWritten h _
  zones s start xs hx h := k.zonesWritten h start xs hx
  reset s cause z := by
    rw [show (s.takeReset cause).zone z = resetZoneRun defaultZone from look_replicate _ z]
    exact k.reset
  start s good _ h z := by
    rw [State.zone_congr (s := s) (by simp)]
    exact h z

/-- At start-up completion every zone has its reset values but for the loss timer and the status (R4). -/
theorem KeptByRules.completeStart (k : KeptByRules P) {s : State} (h : ∀ z, P (resetZoneRun (s.zoneCfg z))) (z : ZoneId) :
    P (s.completeStart.zone z) := by
  rw [State.completeStart_zone]
  exact k.congr _ _ (h z) rfl rfl rfl rfl rfl rfl

/-! ### Setpoints (R12) -/

theorem ZoneCfg.valid_setpoints {c : ZoneCfg} (h : c.valid = true) :
    (50 ≤ c.shSt ∧ c.shSt ≤ 300) ∧ (150 ≤ c.scSt ∧ c.scSt ≤ 350) ∧ 10 ≤ c.scSt - c.shSt ∧ (35 ≤ c.hdSt ∧ c.hdSt ≤ 70) := by
  simp only [ZoneCfg.valid, Bool.and_eq_true, decide_eq_true_eq] at h
  obtain ⟨⟨⟨⟨-, hsh⟩, hsc⟩, hhd⟩, hgap⟩ := h
  exact ⟨hsh, hsc, hgap, hhd⟩

/-- A zone that takes the stored setpoints that a valid record changes has its setpoints in range (R3, R12). -/
theorem ZoneRun.InRange.takeStored {r : ZoneRun} (h : r.InRange) (old : ZoneCfg) {c : ZoneCfg} (hc : c.valid = true) :
    (r.takeStored old c).InRange := by
  obtain ⟨csh, csc, cgap, chd⟩ := ZoneCfg.valid_setpoints hc
  obtain ⟨hsh, hsc, hgap, hhd⟩ := h
  refine ⟨?_, ?_, ZoneRun.takeStored_gap r old c cgap, ?_⟩ <;>
    simp only [ZoneRun.takeStored] <;> split_ifs <;> assumption

theorem ZoneRun.InRange.keptByRules : KeptByRules ZoneRun.InRange where
  congr r r' h h1 h2 h3 _ _ _ := by
    unfold ZoneRun.InRange at *
    rwa [h1, h2, h3]
  quiet r h := h
  change r x h := h.change x
  evaluate r p c playing h := by
    unfold ZoneRun.evaluate
    split <;> exact h
  countUnmet r _ h := h
  takeStored r old c hc h := h.takeStored old hc
  reset := by
    unfold ZoneRun.InRange
    decide

/-- Every move keeps the setpoints in range while the tables are valid. -/
theorem SetpointsHold.acts {u t : State} (a : Acts u t) (htab : TablesHold u) (h : SetpointsHold u) : SetpointsHold t :=
  ZoneRun.InRange.keptByRules.keptByZones.acts a
    (fun _ _ => ZoneRun.InRange.keptByRules.completeStart fun z =>
      ZoneCfg.valid_setpoints (((Tables.valid_iff _).1 htab).2.1 z)) h

/-- Settles O4: move by move; a zone's setpoints change by a change, by a valid Zone record and at start-up completion alone. -/
theorem stepKeepsTablesAndSetpoints : Obligations.StepKeepsTablesAndSetpoints := fun _ _ htab hset hstep =>
  step_keeps (I := fun s => TablesHold s ∧ SetpointsHold s) (fun _ _ h => h) (fun _ _ h => h)
    (fun _ _ a h => ⟨h.1.acts a, SetpointsHold.acts a h.1 h.2⟩) ⟨htab, hset⟩ hstep

/-! ### Calls and demands (R17, R21, R22) -/

/-- A zone without a call demands nothing and has waited for nothing; demand and unmet count stay in their ranges. -/
def ZoneRun.Consistent (r : ZoneRun) : Prop :=
  (r.call = .none → r.demand = 0 ∧ r.unmet = 0) ∧ r.demand ≤ 100 ∧ r.unmet ≤ 255

theorem satInc_le {top n : Nat} (h : n ≤ top) : satInc top n ≤ top := by
  unfold satInc
  split <;> omega

theorem ZoneRun.change_calls (r : ZoneRun) (x : Setpoints) :
    (r.change x).call = r.call ∧ (r.change x).demand = r.demand ∧ (r.change x).unmet = r.unmet := by
  rw [ZoneRun.change_eq]
  exact ⟨rfl, rfl, rfl⟩

theorem ZoneRun.Consistent.congr {r r' : ZoneRun} (hc : r'.call = r.call) (hd : r'.demand = r.demand)
    (hu : r'.unmet = r.unmet) (h : r.Consistent) : r'.Consistent := by
  unfold ZoneRun.Consistent at *
  rwa [hc, hd, hu]

theorem ZoneRun.Consistent.quiet (r : ZoneRun) : r.quiet.Consistent := ⟨fun _ => ⟨rfl, rfl⟩, Nat.zero_le _, Nat.zero_le _⟩

/-- A call that is not formed has not been kept either, and its zone demands nothing. -/
theorem ZoneRun.Consistent.evaluate {r : ZoneRun} (h : r.Consistent) (p : Profile) (c : ZoneCfg) (playing : Bool) :
    (r.evaluate p c playing).Consistent := by
  obtain ⟨-, -, hunmet⟩ := h
  unfold ZoneRun.evaluate
  split
  · refine ⟨fun hnone => ⟨?_, ?_⟩, demandOf_le c r _, ?_⟩
    · exact (congrArg (demandOf c r) hnone).trans rfl
    · have hkept : callKept p c r = .none := by
        by_contra hk
        exact hk ((callFormed_of_kept hk).symm.trans hnone)
      exact if_pos hkept
    · show (if callKept p c r = .none then 0 else r.unmet) ≤ 255
      split
      · exact Nat.zero_le _
      · exact hunmet
  · exact .quiet r

theorem ZoneRun.Consistent.countUnmet {r : ZoneRun} (h : r.Consistent) (house : HouseState) :
    (r.countUnmet house).Consistent := by
  obtain ⟨hnone, hdemand, hunmet⟩ := h
  refine ⟨fun hc => ⟨(hnone hc).1, if_pos hc⟩, hdemand, ?_⟩
  simp only [ZoneRun.countUnmet]
  split_ifs
  · exact Nat.zero_le _
  · exact Nat.zero_le _
  · exact satInc_le hunmet

theorem ZoneRun.Consistent.keptByRules : KeptByRules ZoneRun.Consistent where
  congr r r' h _ _ _ hc hd hu := h.congr hc hd hu
  quiet r _ := .quiet r
  change r x h := by
    obtain ⟨hc, hd, hu⟩ := r.change_calls x
    exact h.congr hc hd hu
  evaluate r p c playing h := h.evaluate p c playing
  countUnmet r house h := h.countUnmet house
  takeStored r old c _ h := h.congr rfl rfl rfl
  reset := ⟨fun _ => ⟨rfl, rfl⟩, Nat.zero_le _, Nat.zero_le _⟩

/-- Every step keeps calls, demands and unmet counts consistent. -/
theorem CallsHold.step {s t : State} (h : CallsHold s) (hstep : step s = .next t) : CallsHold t :=
  step_keeps (I := CallsHold) (fun _ _ h => h) (fun _ _ h => h)
    (fun _ _ a h => ZoneRun.Consistent.keptByRules.keptByZones.acts a
      (fun _ _ => ZoneRun.Consistent.keptByRules.completeStart fun _ => ⟨fun _ => ⟨rfl, rfl⟩, Nat.zero_le _, Nat.zero_le _⟩) h)
    h hstep

end Sys2Proof.Machine
end

section
/-! PROOF. Calls stand only in zones in play (R17, R24): each operation of the zones keeps it. -/

namespace Sys2Proof.Machine

/-- A call stands in a zone only after start-up completion and while it takes part in the house decision (R17). -/
def State.CallPlays (s : State) (z : ZoneId) : Prop := (s.zone z).call ≠ .none → s.phase = .running ∧ s.inPlay z = true

theorem callsInPlay_iff (s : State) : CallsInPlay s ↔ ∀ z, s.CallPlays z := by
  constructor
  · intro h z hcall
    refine ⟨?_, h.plays z hcall⟩
    by_contra hp
    exact hcall (h.silentBefore hp z)
  · refine fun h => ⟨fun z hcall => (h z hcall).2, fun hp z => ?_⟩
    by_contra hcall
    exact hp (h z hcall).1

/-- A zone without a call needs not be in play. -/
theorem State.CallPlays.of_none {s : State} {z : ZoneId} (h : (s.zone z).call = .none) : s.CallPlays z :=
  fun hc => absurd h hc

/-- What the tables of `s` say of the zone, and what its own record says, decide whether it is in play. -/
theorem State.inPlay_iff_of_tables {s t : State} (h : t.tables = s.tables) (z : ZoneId) :
    t.inPlay z = true ↔ (s.zoneCfg z).enabled = true ∧ s.hasSource z = true ∧ (t.zone z).expired = false
      ∧ (t.zone z).switchOn = true := by
  rw [State.inPlay_iff, State.zoneCfg_congr h, State.hasSource_congr h]

/-- What keeps the phase, the tables and, of the zone, its call, its loss timer's expiry and its switch, keeps the call in
play. -/
theorem State.CallPlays.congr {s t : State} {z : ZoneId} (h : s.CallPlays z) (phase : t.phase = s.phase)
    (enabled : (t.zoneCfg z).enabled = (s.zoneCfg z).enabled) (source : t.hasSource z = s.hasSource z)
    (call : (t.zone z).call = (s.zone z).call) (expired : (t.zone z).expired = (s.zone z).expired)
    (switch : (t.zone z).switchOn = (s.zone z).switchOn) : t.CallPlays z := by
  unfold State.CallPlays at *
  rw [State.inPlay_iff] at *
  rwa [phase, enabled, source, call, expired, switch]

theorem State.CallPlays.same {s t : State} {z : ZoneId} (h : s.CallPlays z) (phase : t.phase = s.phase)
    (tables : t.tables = s.tables) (zone : t.zone z = s.zone z) : t.CallPlays z :=
  h.congr phase (by rw [State.zoneCfg_congr tables]) (State.hasSource_congr tables z) (by rw [zone]) (by rw [zone])
    (by rw [zone])

/-- An operation on one zone keeps every call in play when it does so there. -/
theorem forall_callPlays_of_other {s t : State} {z : ZoneId} (phase : t.phase = s.phase) (tables : t.tables = s.tables)
    (hother : ∀ z', z' ≠ z → t.zone z' = s.zone z') (h : ∀ z, s.CallPlays z) (hz : t.CallPlays z) (z' : ZoneId) :
    t.CallPlays z' := by
  by_cases hzz : z' = z
  · exact hzz ▸ hz
  · exact (h z').same phase tables (hother z' hzz)

theorem State.CallPlays.takeReadings {s : State} {z : ZoneId} (h : s.CallPlays z) (i : RouteId) (a b : Option Int) :
    (s.takeReadings i z a b).CallPlays z := by
  intro hc
  have hzone := s.takeReadings_same i z a b
  rw [hzone] at hc
  obtain ⟨hphase, hplays⟩ := h hc
  obtain ⟨henabled, hsource, hexpired, hswitch⟩ := (s.inPlay_iff z).1 hplays
  refine ⟨by simpa using hphase, (State.inPlay_iff_of_tables (s := s) (by simp) z).2 ⟨henabled, hsource, ?_, ?_⟩⟩
  · rw [hzone]
    cases hb : bringsReading a b with
    | true => simp [ZoneRun.expired]
    | false => simpa [ZoneRun.expired] using hexpired
  · rw [hzone]
    exact hswitch

/-- A zone in play that is switched OFF loses its call (R24). -/
theorem State.CallPlays.takeSwitch {s : State} {z : ZoneId} (h : s.CallPlays z) (on fan : Bool) :
    (s.takeSwitch z on fan).CallPlays z := by
  intro hc
  have hzone := s.takeSwitch_same z on fan
  rw [hzone] at hc
  have hkept : (s.heedsSwitch z && (s.zone z).switchOn && !on) = false ∧ (s.zone z).call ≠ .none := by
    cases hl : (s.heedsSwitch z && (s.zone z).switchOn && !on) <;> simp [hl] at hc ⊢
    exact hc
  obtain ⟨hstays, hcall⟩ := hkept
  obtain ⟨hphase, hplays⟩ := h hcall
  obtain ⟨henabled, hsource, hexpired, hswitch⟩ := (s.inPlay_iff z).1 hplays
  refine ⟨by simpa using hphase, (State.inPlay_iff_of_tables (s := s) (by simp) z).2 ⟨henabled, hsource, ?_, ?_⟩⟩
  · rw [hzone]
    exact hexpired
  · rw [hzone]
    simpa [State.heedsSwitch, henabled, hsource, hexpired, hswitch] using hstays

/-- A zone that is lost loses its call, and a disabled one had none (R8, R24). -/
theorem State.CallPlays.loseZone {s : State} {z : ZoneId} (h : s.CallPlays z) : (s.loseZone z).CallPlays z := by
  cases he : (s.zoneCfg z).enabled with
  | true => exact .of_none (by rw [State.loseZone_enabled he]; rfl)
  | false =>
    refine .of_none ?_
    rw [State.loseZone_disabled he, State.zone_setZone_same]
    by_contra hc
    obtain ⟨-, hplays⟩ := h hc
    obtain ⟨henabled, -⟩ := (s.inPlay_iff z).1 hplays
    simp [he] at henabled

/-- A zone that loses its last source loses its call; one that has a source left keeps both (R134). -/
theorem State.CallPlays.reviewSources {s u : State} {z : ZoneId} {v : Vector RouteCfg 16} (h : s.CallPlays z)
    (hu : Alike (s.routesInstalled v) u) (hphase : u.phase = s.phase) (hz : u.zone z = s.zone z) :
    (u.reviewSources s.tables.routes z).CallPlays z := by
  obtain ⟨⟨htab, -⟩, -⟩ := hu
  have hplays : (u.zone z).call ≠ .none → u.phase = .running ∧ (u.zoneCfg z).enabled = true
      ∧ sourceIn s.tables.routes z = true ∧ (u.zone z).expired = false ∧ (u.zone z).switchOn = true := by
    rw [State.zoneCfg_congr htab, hz, hphase]
    intro hc
    obtain ⟨hp, hplays⟩ := h hc
    exact ⟨hp, (s.inPlay_iff z).1 hplays⟩
  cases hc : sourcesChanged s.tables.routes u.tables.routes z with
  | false =>
    have hsource : u.hasSource z = sourceIn s.tables.routes z := by
      by_contra hne
      exact Bool.eq_false_iff.1 hc (sourcesChanged_of_sourceIn_ne (Ne.symm hne))
    rw [State.reviewSources_unchanged hc]
    intro hcall
    rw [State.inPlay_iff, hsource]
    exact hplays hcall
  | true =>
    cases hn : u.hasSource z with
    | false =>
      rw [State.reviewSources_lost hc hn]
      exact .of_none (by rw [State.loseSource_same]; rfl)
    | true =>
      cases ho : sourceIn s.tables.routes z with
      | false =>
        refine .of_none ?_
        rw [State.reviewSources_gained hc hn ho, State.gainSource_same, State.recombine_same]
        by_contra hcall
        obtain ⟨-, -, hsource, -⟩ := hplays hcall
        simp [ho] at hsource
      | true =>
        rw [State.reviewSources_left hc hn ho]
        intro hcall
        rw [State.recombine_same] at hcall
        obtain ⟨hp, henabled, -, hrest⟩ := hplays hcall
        refine ⟨by simpa using hp, (State.inPlay_iff_of_tables (s := u) (by simp) z).2 ?_⟩
        rw [State.recombine_same]
        exact ⟨henabled, hn, hrest⟩

theorem State.CallPlays.reviewPanel {s : State} {z : ZoneId} (h : s.CallPlays z) (old : Vector RouteCfg 16) :
    (s.reviewPanel old z).CallPlays z := by
  rcases s.reviewPanel_cases old z with heq | heq | heq <;> rw [heq]
  · exact h
  · exact h.congr rfl rfl rfl (by simp) (by simp [ZoneRun.expired]) (by simp)
  · exact h.takeSwitch true false

theorem State.CallPlays.routesWritten {s : State} {z : ZoneId} (h : s.CallPlays z) (v : Vector RouteCfg 16) :
    (s.routesWritten v).CallPlays z := by
  obtain ⟨u, hu, hz, hres⟩ := s.routesWritten_zone v z
  have hphase : u.phase = s.phase := hu.phase
  refine ((h.reviewSources hu hphase hz).reviewPanel s.tables.routes).same ?_ ?_ hres
  · simp [hphase]
  · obtain ⟨⟨htab, -⟩, -⟩ := hu
    simp [htab, State.routesWritten, State.routesInstalled]

/-- A zone that a record disables loses its call (R24). -/
theorem State.CallPlays.zonesWritten {s : State} {z : ZoneId} (h : s.CallPlays z) (start : Nat) (xs : List ZoneCfg) :
    (s.zonesWritten start xs).CallPlays z := by
  obtain ⟨hout, hin⟩ := s.zonesWritten_zone start xs z
  have htables : (s.zonesWritten start xs).tables = (s.zonesInstalled start xs).tables := by
    simp [State.zonesWritten_eq]
  have hphase : (s.zonesWritten start xs).phase = s.phase := by simp
  have hsource : (s.zonesWritten start xs).hasSource z = s.hasSource z := by
    rw [State.hasSource_congr htables]
    rfl
  cases hc : covers start xs.length z.val with
  | false =>
    have hcfg : (s.zonesWritten start xs).zoneCfg z = s.zoneCfg z := by
      rw [State.zoneCfg_congr htables]
      exact look_writeAt_outside hc
    exact h.congr hphase (by rw [hcfg]) hsource (by rw [hout hc]) (by rw [hout hc]) (by rw [hout hc])
  | true =>
    obtain ⟨u, ⟨htab, -⟩, hz, heq⟩ := hin hc
    have hcfg : (s.zonesWritten start xs).zoneCfg z = u.zoneCfg z := by
      rw [State.zoneCfg_congr htables, State.zoneCfg_congr htab]
    rw [State.zoneWritten_same, hz] at heq
    intro hcall
    have hkept : ((s.zoneCfg z).enabled && !(u.zoneCfg z).enabled) = false ∧ (s.zone z).call ≠ .none := by
      rw [heq] at hcall
      cases hl : ((s.zoneCfg z).enabled && !(u.zoneCfg z).enabled) <;>
        simp [hl, ZoneRun.quiet, ZoneRun.takeStored] at hcall ⊢
      exact hcall
    obtain ⟨hstays, hold⟩ := hkept
    obtain ⟨hp, hplays⟩ := h hold
    obtain ⟨henabled, hsrc, hexpired, hswitch⟩ := (s.inPlay_iff z).1 hplays
    simp only [henabled, Bool.true_and, Bool.not_eq_false'] at hstays
    rw [State.inPlay_iff, hphase, hcfg, hsource, heq]
    simp only [hstays, Bool.not_true, Bool.and_false, Bool.false_eq_true, if_false]
    exact ⟨hp, trivial, hsrc, hexpired, hswitch⟩

/-- No call is formed in a zone out of play (R17). -/
theorem State.CallPlays.evaluateZones {s : State} (running : s.phase = .running) (z : ZoneId) :
    s.evaluateZones.CallPlays z := by
  have hzone := s.evaluateZones_zone z
  cases hp : s.inPlay z with
  | false => exact .of_none (by rw [hzone, hp]; rfl)
  | true =>
    intro _
    obtain ⟨henabled, hsource, hexpired, hswitch⟩ := (s.inPlay_iff z).1 hp
    refine ⟨running, (State.inPlay_iff_of_tables (s := s) (t := s.evaluateZones) rfl z).2 ?_⟩
    rw [hzone, hp]
    exact ⟨henabled, hsource, hexpired, hswitch⟩

theorem State.CallPlays.updateZones {s : State} {z : ZoneId} (h : s.CallPlays z) : s.updateZones.CallPlays z := by
  have hzone := s.updateZones_zone z
  exact h.congr (by simp) (by rw [State.zoneCfg_congr (s := s) (by simp)]) (State.hasSource_congr (by simp) z)
    (by rw [hzone]; rfl) (by rw [hzone]; rfl) (by rw [hzone]; rfl)

/-! ### The invariant -/

theorem callPlays_keptByZones : KeptByZones fun s => ∀ z, s.CallPlays z where
  congr s t hz hzones hroutes hp h z :=
    (h z).congr hp (by simp only [State.zoneCfg, hzones]) (by simp only [State.hasSource_eq, hroutes])
      (by rw [State.zone_congr hz]) (by rw [State.zone_congr hz]) (by rw [State.zone_congr hz])
  readings s i z a b h :=
    forall_callPlays_of_other (by simp) (by simp) (fun z' hz' => s.takeReadings_other i z z' a b hz') h
      ((h z).takeReadings i a b)
  switch s z on fan h :=
    forall_callPlays_of_other (by simp) (by simp) (fun z' hz' => s.takeSwitch_other z z' on fan hz') h
      ((h z).takeSwitch on fan)
  lose s z h :=
    forall_callPlays_of_other (by simp) (by simp) (fun z' hz' => s.loseZone_other z z' hz') h (h z).loseZone
  change s x z h := by
    refine forall_callPlays_of_other (by simp) (by simp) (fun z' hz' => s.changeZone_other x z z' hz') h ?_
    obtain ⟨hc, -⟩ := (s.zone z).change_calls x
    exact (h z).congr rfl rfl rfl (by rw [State.changeZone_same, hc]) (by rw [State.changeZone_same, ZoneRun.change_eq]; rfl)
      (by rw [State.changeZone_same, ZoneRun.change_eq])
  confirm s z h :=
    forall_callPlays_of_other (s := s) rfl rfl (fun z' hz' => s.zone_setZone_other z z' _ hz') h
      ((h z).congr rfl rfl rfl (by simp) (by simp [ZoneRun.expired]) (by simp))
  fault s z b h :=
    forall_callPlays_of_other (s := s) rfl rfl (fun z' hz' => s.zone_setZone_other z z' _ hz') h
      ((h z).congr rfl rfl rfl (by simp) (by simp [ZoneRun.expired]) (by simp))
  evaluate s running _ z := .evaluateZones running z
  update s h z := (h z).updateZones
  routes s start xs h z := (h z).routesWritten _
  zones s start xs _ h z := (h z).zonesWritten start xs
  reset s cause z := .of_none (by rw [show (s.takeReset cause).zone z = resetZoneRun defaultZone from look_replicate _ z]; rfl)
  start s good hp h z := by
    refine .of_none ?_
    rw [State.zone_congr (s := s) (by simp)]
    by_contra hcall
    exact hp (h z hcall).1

/-- Settles O6: a call is formed in play alone, and whatever takes a zone out of play ends its call. -/
theorem stepKeepsCallsInPlay : Obligations.StepKeepsCallsInPlay := by
  intro s t h hstep
  rw [callsInPlay_iff] at *
  exact step_keeps (I := fun s => ∀ z, s.CallPlays z) (fun _ _ h => h) (fun _ _ h => h)
    (fun _ _ a h => callPlays_keptByZones.acts a
      (fun _ _ z => .of_none (by rw [State.completeStart_zone]; rfl)) h) h hstep

end Sys2Proof.Machine
end

section
/-! PROOF. Position counts stay within the stroke (R88): what each operation of the damper drives does to them. -/

namespace Sys2Proof.Machine

/-! ### Reads of a channel -/

theorem State.channel_setChannel (s : State) (c k : ChannelId) (r : Channel) :
    (s.setChannel c r).channel k = if k = c then r else s.channel k :=
  look_put _ _ _ _

theorem State.channel_setChannel_other (s : State) (c k : ChannelId) (r : Channel) (h : k ≠ c) :
    (s.setChannel c r).channel k = s.channel k := by
  rw [State.channel_setChannel, if_neg h]

/-- A record written with the count it had leaves every count as it was. -/
theorem State.setChannel_count (s : State) (c k : ChannelId) {r : Channel}
    (h : r.count = (s.channel c).count) :
    ((s.setChannel c r).channel k).count = (s.channel k).count := by
  rw [State.channel_setChannel]
  split
  · next hk => rw [hk, h]
  · rfl

/-! ### Joining the queue leaves every count (R82) -/

theorem State.joinQueue_count (s : State) (c k : ChannelId) (g : Goal) :
    ((s.joinQueue c g).channel k).count = (s.channel k).count :=
  State.setChannel_count _ c k (by rfl)

theorem State.joinHome_count (s : State) (c k : ChannelId) : ((s.joinHome c).channel k).count = (s.channel k).count := by
  unfold State.joinHome
  split
  · exact s.joinQueue_count c k .home
  · rfl

theorem State.adopt_count (s : State) (c k : ChannelId) : ((s.adopt c).channel k).count = (s.channel k).count := by
  simp only [State.adopt]
  split
  · rfl
  · split_ifs
    · rw [State.joinQueue_count]
      exact State.setChannel_count _ c k (by rfl)
    · exact State.setChannel_count _ c k (by rfl)
    · exact State.setChannel_count _ c k (by rfl)
    · exact State.setChannel_count _ c k (by rfl)

theorem State.tryJoin_count (s : State) (c k : ChannelId) : ((s.tryJoin c).channel k).count = (s.channel k).count := by
  unfold State.tryJoin
  split
  · exact s.adopt_count c k
  · exact s.joinHome_count c k

theorem State.endSettling_count (s : State) (c k : ChannelId) :
    ((s.endSettling c).channel k).count = (s.channel k).count := by
  simp only [State.endSettling]
  split_ifs
  · rw [State.adopt_count]
    exact State.setChannel_count _ c k (by rfl)
  · exact State.setChannel_count _ c k (by rfl)
  · rw [State.joinHome_count]
    exact State.setChannel_count _ c k (by rfl)

theorem State.comeToJoin_count (s : State) (c k : ChannelId) : ((s.comeToJoin c).channel k).count = (s.channel k).count := by
  unfold State.comeToJoin
  split_ifs
  · exact s.endSettling_count c k
  · exact s.tryJoin_count c k
  · rfl

theorem State.joinBelow_count (s : State) (c k : ChannelId) : ((s.joinBelow c).channel k).count = (s.channel k).count := by
  refine State.forIx_keeps (fun t => (t.channel k).count) _ s fun j t => ?_
  split
  · exact t.comeToJoin_count j k
  · rfl

theorem State.joinHomeInOrder_count (s : State) (c k : ChannelId) :
    ((s.joinHomeInOrder c).channel k).count = (s.channel k).count := by
  unfold State.joinHomeInOrder
  rw [State.joinHome_count, State.joinBelow_count]

theorem State.leaveQueue_count (s : State) (c k : ChannelId) : ((s.leaveQueue c).channel k).count = (s.channel k).count :=
  State.setChannel_count _ c k (by rfl)

/-! ### Every count within its stroke (R88) -/

/-- Every position count is at most its channel's stroke (R88). -/
def State.InStroke (s : State) : Prop := ∀ c : ChannelId, (s.channel c).count ≤ (s.damperCfg c).stroke

theorem State.InStroke.of_counts {s t : State} (h : s.InStroke) (tables : t.tables = s.tables)
    (counts : ∀ k, (t.channel k).count = (s.channel k).count) : t.InStroke := by
  intro k
  rw [counts, State.damperCfg_congr tables]
  exact h k

theorem State.InStroke.same {s t : State} (h : s.InStroke) (tables : t.tables = s.tables)
    (channels : t.channels = s.channels) : t.InStroke :=
  h.of_counts tables fun k => by rw [State.channel_congr channels]

theorem State.InStroke.setChannel {s : State} (h : s.InStroke) (c : ChannelId) {r : Channel}
    (hr : r.count ≤ (s.damperCfg c).stroke) : (s.setChannel c r).InStroke := by
  intro k
  rw [State.channel_setChannel]
  split
  · next hk => exact hk ▸ hr
  · exact h k

theorem State.InStroke.setChannel_same {s : State} (h : s.InStroke) (c : ChannelId) {r : Channel}
    (hr : r.count = (s.channel c).count) : (s.setChannel c r).InStroke :=
  h.setChannel c (hr ▸ h c)

/-- A HOME is made from a count set to the stroke, another stroke from the count as it stands (R86). -/
theorem Channel.granted_count_le {r : Channel} {cfg : DamperCfg} (h : r.count ≤ cfg.stroke) (now : Time) (g : Goal) :
    (r.granted cfg now g).count ≤ cfg.stroke := by
  simp only [Channel.granted]
  split
  · exact Nat.le_refl _
  · exact h

theorem State.InStroke.grantHead {s : State} (h : s.InStroke) : s.grantHead.InStroke := by
  simp only [State.grantHead]
  split
  · exact h
  · next c rest _ =>
    split
    · exact State.InStroke.setChannel (s := { s with queue := rest }) h c (Channel.granted_count_le (h c) _ _)
    · exact h

theorem State.InStroke.grantLoop {s : State} (h : s.InStroke) (n : Nat) : (s.grantLoop n).InStroke := by
  induction n generalizing s with
  | zero => exact h
  | succ n ih =>
    unfold State.grantLoop
    split
    · exact ih h.grantHead
    · exact h

theorem State.InStroke.serveQueue {s : State} (h : s.InStroke) : s.serveQueue.InStroke :=
  State.InStroke.grantLoop (h.same (by simp) (by simp)) _

theorem State.InStroke.joinInOrder {s : State} (h : s.InStroke) (c : ChannelId) : (s.joinInOrder c).InStroke := by
  refine State.InStroke.serveQueue (h.of_counts (by simp) fun k => ?_)
  rw [State.comeToJoin_count, State.joinBelow_count]

theorem State.InStroke.startHoming {s : State} (h : s.InStroke) : s.startHoming.InStroke := by
  refine State.InStroke.serveQueue (State.forIx_induct State.InStroke _ _ h fun c t ht => ?_)
  exact ht.of_counts (by simp) (t.comeToJoin_count c)

theorem State.InStroke.resumeDrives {s : State} (h : s.InStroke) : s.resumeDrives.InStroke := by
  refine State.InStroke.serveQueue (State.forIx_induct State.InStroke _ _ h fun c t ht => ?_)
  split
  · exact ht.of_counts (by simp) (t.endSettling_count c)
  · exact ht.of_counts (by simp) (t.tryJoin_count c)

theorem Channel.cutOff_count (r : Channel) (cfg : DamperCfg) (now : Time) : (r.cutOff cfg now).count = r.count := by
  unfold Channel.cutOff
  split <;> rfl

theorem State.InStroke.cutDrives {s : State} (h : s.InStroke) : s.cutDrives.InStroke := by
  refine h.of_counts (by simp) fun k => ?_
  have hk : s.cutDrives.channel k = (s.channel k).cutOff (s.damperCfg k) s.now :=
    (congrArg (look · k) (by simp [State.cutDrives])).trans (look_tab (fun c => (s.channel c).cutOff (s.damperCfg c) s.now) k)
  rw [hk, Channel.cutOff_count]

/-! ### Publications (R77 to R81) -/

theorem State.InStroke.retargetQueued {s : State} (h : s.InStroke) (c : ChannelId) (g : Goal) :
    (s.retargetQueued c g).InStroke := by
  simp only [State.retargetQueued]
  split
  · exact h.setChannel_same c (by rfl)
  · exact (h.setChannel_same c (by rfl)).of_counts (by simp) (State.leaveQueue_count _ c)

theorem State.InStroke.retargetDriving {s : State} (h : s.InStroke) (c : ChannelId) (g : Goal) :
    (s.retargetDriving c g).InStroke := by
  simp only [State.retargetDriving]
  split
  · split
    · exact h.setChannel_same c (by rfl)
    · exact h.setChannel_same c (by rfl)
  · exact h

theorem State.InStroke.takeTarget {s : State} (h : s.InStroke) (c : ChannelId) (p : Nat) : (s.takeTarget c p).InStroke := by
  have ht : (s.setChannel c { s.channel c with target := some p, taken := false }).InStroke := h.setChannel_same c (by rfl)
  simp only [State.takeTarget]
  split
  · split
    · exact ht.of_counts (by simp) (State.adopt_count _ c)
    · exact ht.retargetQueued c _
    · exact ht.retargetDriving c _
    · exact ht.retargetDriving c _
    · exact ht
    · exact ht
    · exact ht
  · exact ht

theorem State.InStroke.publish {s : State} (h : s.InStroke) (p : Vector Nat 8) : (s.publish p).InStroke := by
  refine State.InStroke.serveQueue (State.forIx_induct State.InStroke _ _ h fun c t ht => ?_)
  exact (ht.takeTarget c (look p c)).of_counts (by simp) (State.comeToJoin_count _ c)

theorem State.InStroke.computeAndPublish {s : State} (h : s.InStroke) : s.computeAndPublish.InStroke := by
  unfold State.computeAndPublish
  split
  · simp only [State.publishFigures]
    split
    · exact State.InStroke.publish (h.same (by simp) (by simp)) _
    · exact h.same (by simp) (by simp)
  · exact h.same (by simp) (by simp)

theorem State.InStroke.cycle {s : State} (h : s.InStroke) : s.cycle.InStroke := by
  have hdecided : s.decided.InStroke := by
    have hd : s.evaluateZones.decision.1.InStroke := h.same (by simp) (by simp)
    unfold State.decided
    split
    · exact hd.computeAndPublish
    · exact hd.same (by simp) (by simp)
  rw [State.cycle_eq]
  exact hdecided.same (by simp [State.updated]) (by simp [State.updated])

/-! ### Feedback (R88 to R91) -/

theorem stepCount_le {stroke count : Nat} (h : count ≤ stroke) (d : Dir) : stepCount stroke count d ≤ stroke := by
  cases d with
  | opening =>
    simp only [stepCount]
    split <;> omega
  | closing =>
    simp only [stepCount]
    omega

theorem State.InStroke.drivePulse {s : State} (h : s.InStroke) (c : ChannelId) (d : Dir) : (s.drivePulse c d).InStroke := by
  simp only [State.drivePulse]
  split
  · split
    · exact h.setChannel c (stepCount_le (h c) d)
    · exact h.setChannel c (stepCount_le (h c) d)
  · exact h.setChannel c (stepCount_le (h c) d)
  · exact h.setChannel c (stepCount_le (h c) d)

theorem State.InStroke.coastPulse {s : State} (h : s.InStroke) (c : ChannelId) (d : Dir) : (s.coastPulse c d).InStroke := by
  refine (h.setChannel c (r := { s.channel c with count := stepCount (s.damperCfg c).stroke (s.channel c).count d })
    (stepCount_le (h c) d)).of_counts (by simp [State.coastPulse]) fun k => ?_
  simp only [State.coastPulse, State.recheckQueued]
  split
  · split
    · exact State.leaveQueue_count _ c k
    · rfl
  · rfl

theorem State.InStroke.loseHoming {s : State} (h : s.InStroke) (c : ChannelId) : (s.loseHoming c).InStroke := by
  simp only [State.loseHoming]
  split
  · exact (h.setChannel_same c (by rfl)).of_counts (by simp) (State.joinHomeInOrder_count _ c)
  all_goals exact h.setChannel_same c (by rfl)

theorem State.InStroke.strayPulse {s : State} (h : s.InStroke) (c : ChannelId) : (s.strayPulse c).InStroke := by
  have hs : (s.setChannel c { s.channel c with stray := satInc 16 (s.channel c).stray }).InStroke :=
    h.setChannel_same c (by rfl)
  simp only [State.strayPulse]
  split
  · exact hs.loseHoming c
  · exact hs

theorem State.InStroke.pulse {s : State} (h : s.InStroke) (c : ChannelId) : (s.pulse c).InStroke := by
  simp only [State.pulse]
  split
  · exact (h.drivePulse c _).serveQueue
  · split
    · split
      · exact (h.coastPulse c _).serveQueue
      · exact (h.strayPulse c).serveQueue
    · exact (h.strayPulse c).serveQueue

/-! ### Timers, release and Damper Table writes -/

theorem Channel.endStop_count_le {r : Channel} {cfg : DamperCfg} (h : r.count ≤ cfg.stroke) (now : Time) :
    (r.endStop cfg now).count ≤ cfg.stroke := by
  simp only [Channel.endStop]
  split
  · exact Nat.le_refl _
  · exact Nat.zero_le _
  · exact h

theorem State.InStroke.enterFault {s : State} (h : s.InStroke) (c : ChannelId) (homed : Bool) :
    (s.enterFault c homed).InStroke :=
  State.InStroke.same (s := s.setChannel c
    { (s.channel c).driveOff (s.damperCfg c) s.now with state := .fault, homed := homed, taken := false })
    (h.setChannel_same c (by rfl)) (by simp [State.enterFault]) (by simp [State.enterFault])

theorem State.InStroke.silenceExpired {s : State} (h : s.InStroke) (c : ChannelId) : (s.silenceExpired c).InStroke := by
  simp only [State.silenceExpired]
  split
  case h_1 => exact State.InStroke.serveQueue (h.setChannel c (Channel.endStop_count_le (h c) _))
  case h_2 =>
    split
    · exact (h.enterFault c _).serveQueue
    · exact State.InStroke.serveQueue (h.setChannel_same c (by rfl))
  all_goals exact h

theorem State.InStroke.seekExpired {s : State} (h : s.InStroke) (c : ChannelId) : (s.seekExpired c).InStroke :=
  (h.enterFault c false).serveQueue

theorem State.InStroke.releaseChannel {s : State} (h : s.InStroke) (c : ChannelId) : (s.releaseChannel c).InStroke := by
  refine State.InStroke.serveQueue (State.InStroke.of_counts
    (s := s.setChannel c { s.channel c with state := .unhomed, homed := false, retry := false, taken := false })
    (h.setChannel_same c (by rfl)) (by simp) fun k => ?_)
  rw [State.joinHomeInOrder_count]
  rfl

theorem State.damperWritten_count_other (s : State) (c k : ChannelId) (old : DamperCfg) (h : k ≠ c) :
    ((s.damperWritten c old).channel k).count = (s.channel k).count := by
  simp only [State.damperWritten]
  split
  · rfl
  · rw [State.joinHomeInOrder_count, State.channel_setChannel_other _ _ _ _ h]

/-- A channel whose stroke a write changes is at count 0 (R73). -/
theorem State.damperWritten_count_same (s : State) (c : ChannelId) (old : DamperCfg) :
    ((s.damperWritten c old).channel c).count =
      if (s.damperCfg c).stroke = old.stroke then (s.channel c).count else 0 := by
  simp only [State.damperWritten]
  split
  · rfl
  · rw [State.joinHomeInOrder_count, State.channel_setChannel_same]

/-- The part once a Damper Table write has replaced the records. -/
def State.dampersInstalled (s : State) (start : Nat) (xs : List DamperCfg) : State :=
  s.setTables { s.tables with dampers := writeAt s.tables.dampers start xs }

/-- The part once the channels have met a Damper Table write, before the grants. -/
def State.dampersMet (s : State) (start : Nat) (xs : List DamperCfg) : State :=
  (s.dampersInstalled start xs).forIx fun c t =>
    if covers start xs.length c.val then t.damperWritten c (s.damperCfg c) else t

theorem State.InStroke.dampersMet {s : State} (h : s.InStroke) (start : Nat) (xs : List DamperCfg) :
    (s.dampersMet start xs).InStroke := by
  intro c
  have hother : ∀ (j : ChannelId) (t : State), j ≠ c → t.tables = (s.dampersInstalled start xs).tables →
      ((if covers start xs.length j.val then t.damperWritten j (s.damperCfg j) else t).channel c).count =
        (t.channel c).count := by
    intro j t hj _
    split
    · exact t.damperWritten_count_other j c _ (Ne.symm hj)
    · rfl
  obtain ⟨u, htab, hcount, hres⟩ := State.forIx_at (fun t => (t.channel c).count)
    (fun t => t.tables = (s.dampersInstalled start xs).tables)
    (fun c t => if covers start xs.length c.val then t.damperWritten c (s.damperCfg c) else t) c
    (s.dampersInstalled start xs) rfl (fun j t ht => by simp [ht]) hother
  have hcfg : (s.dampersMet start xs).damperCfg c = u.damperCfg c := by
    rw [State.damperCfg_congr (s := s.dampersInstalled start xs) (by simp [State.dampersMet]), State.damperCfg_congr htab]
  have hold : (u.channel c).count ≤ (s.damperCfg c).stroke := le_of_eq_of_le hcount (h c)
  refine le_of_eq_of_le hres ?_
  rw [hcfg]
  cases hc : covers start xs.length c.val with
  | false =>
    have hsame : u.damperCfg c = s.damperCfg c := (State.damperCfg_congr htab c).trans (look_writeAt_outside hc)
    rw [hsame]
    exact hold
  | true =>
    rw [if_pos rfl, State.damperWritten_count_same]
    split
    · next hstroke => rwa [hstroke]
    · exact Nat.zero_le _

theorem State.InStroke.dampersWritten {s : State} (h : s.InStroke) (start : Nat) (xs : List DamperCfg) :
    (s.dampersWritten start xs).InStroke :=
  (h.dampersMet start xs).serveQueue

theorem State.InStroke.manages {s t : State} (h : s.InStroke) (m : Manages s t) : t.InStroke := by
  cases m with
  | writesRoutes start xs _ _ _ =>
    intro c
    rw [State.channel_congr (s := s) (by simp)]
    simpa [State.damperCfg, State.routesWritten] using h c
  | writesZones start xs _ _ =>
    intro c
    rw [State.channel_congr (s := s) (by simp)]
    simpa [State.damperCfg, State.zonesWritten] using h c
  | writesDampers start xs _ _ _ => exact h.dampersWritten start xs
  | writesProfile p _ => exact State.InStroke.serveQueue h
  | releases c _ => exact h.releaseChannel c
  | clearsLatch _ _ => exact State.InStroke.resumeDrives (h.same (by simp) (by simp))
  | nothing => exact h
  | saves _ _ => exact h
  | clearsEvents es => exact h.same (by simp) (by simp)
  | clearsCounters => exact h

end Sys2Proof.Machine
end

section
/-! PROOF. Every step keeps the position counts (R74, R88). -/

namespace Sys2Proof.Machine

theorem State.InStroke.keptByReplies : KeptByReplies State.InStroke where
  port _ _ h := h
  miss _ _ h := h.same (by simp) (by simp)
  credit _ _ h := h.same (by simp) (by simp)
  notice _ _ _ h := h.same (by simp) (by simp)
  report _ _ _ h := h.same (by simp) (by simp)
  change _ _ _ _ _ h := h.same (by simp) (by simp)
  query _ _ _ _ _ h := h.same (by simp) (by simp)
  manage _ _ _ m h := h.manages m

theorem PositionsHold.same {s t : State} (h : PositionsHold s) (tables : t.tables = s.tables)
    (channels : t.channels = s.channels) (phase : t.phase = s.phase) : PositionsHold t := by
  refine ⟨State.InStroke.same h.counts tables channels, fun hp c => ?_⟩
  rw [State.channel_congr channels]
  exact h.zeroBefore (phase ▸ hp) c

theorem PositionsHold.of_running {t : State} (running : t.phase = .running) (h : t.InStroke) : PositionsHold t :=
  ⟨h, fun hp => absurd running hp⟩

/-- A part that does not run yet has every count 0, under whatever tables (R74). -/
theorem PositionsHold.of_zero {t : State} (h : ∀ c : ChannelId, (t.channel c).count = 0) : PositionsHold t :=
  ⟨fun c => by rw [h c]; exact Nat.zero_le _, fun _ => h⟩

theorem PositionsHold.inputAsserted {s : State} (h : PositionsHold s) : PositionsHold s.inputAsserted := by
  have hset : PositionsHold (s.setInput .asserted) := h.same rfl rfl rfl
  simp only [State.inputAsserted]
  split
  · next hrun =>
    have running : (s.setInput .asserted).phase = .running := by
      simp only [Bool.and_eq_true, State.isRunning_iff] at hrun
      exact hrun.1
    refine .of_running (by simpa [State.setLatch] using running) (State.InStroke.cutDrives ?_)
    exact State.InStroke.same hset.counts (by simp) (by simp)
  · exact hset

theorem PositionsHold.leaveSag {s : State} (h : PositionsHold s) : PositionsHold s.leaveSag := by
  unfold State.leaveSag
  split
  · exact h
  · dsimp only
    split
    · next hrun => exact .of_running (by simpa using hrun) (State.InStroke.serveQueue h.counts)
    · exact h.same rfl rfl rfl

theorem PositionsHold.completeStart {s : State} (loading : s.phase = .loading) (h : PositionsHold s) :
    PositionsHold s.completeStart := by
  refine .of_zero fun c => ?_
  have hc : s.completeStart.channel c = { s.channel c with restMs := (s.damperCfg c).deadMs } := by
    rw [State.channel_congr (s := s.blocksSet) (by simp [State.completeStart, State.startBlocks_eq])]
    exact look_tab _ c
  rw [hc]
  exact h.zeroBefore (by simp [loading]) c

theorem PositionsHold.acts {u t : State} (a : Acts u t) (h : PositionsHold u) : PositionsHold t := by
  cases a with
  | hearsRoom running b => exact .of_running (by simpa using running) (State.InStroke.keptByReplies.receive running h.counts b)
  | cycles running _ => exact .of_running (by simpa using running) (State.InStroke.cycle h.counts)
  | pulses running c => exact .of_running (by simpa using running) (State.InStroke.pulse h.counts c)
  | silenceExpires running c _ => exact .of_running (by simpa using running) (State.InStroke.silenceExpired h.counts c)
  | seekExpires running c _ => exact .of_running (by simpa using running) (State.InStroke.seekExpired h.counts c)
  | joins running c _ => exact .of_running (by simpa using running) (State.InStroke.joinInOrder h.counts c)
  | homes running _ => exact .of_running (by simpa using running) (State.InStroke.startHoming h.counts)
  | leavesSag => exact h.leaveSag
  | inputAsserted => exact h.inputAsserted
  | resets cause =>
    refine .of_zero fun c => ?_
    rw [show (u.takeReset cause).channel c = resetChannel u.now from look_replicate _ c]
    rfl
  | starts above good ended =>
    refine .of_zero fun c => ?_
    rw [State.channel_congr (s := u) (by simp)]
    exact h.zeroBefore (State.not_running_of_holdOver ended) c
  | completes loading => exact h.completeStart loading
  | _ => exact h.same (by simp) (by simp) (by simp)

/-- Every step keeps the position counts within the strokes. -/
theorem PositionsHold.step {s t : State} (h : PositionsHold s) (hstep : step s = .next t) : PositionsHold t :=
  step_keeps (I := PositionsHold) (fun _ _ h => h.same rfl rfl rfl) (fun _ _ h => h.same rfl rfl rfl)
    (fun _ _ a h => h.acts a) h hstep

end Sys2Proof.Machine
end

section
/-! PROOF. What the moves of the part leave of the Query list and of the event marks: no move but a query taken adds an entry to the
list, and no move marks an event undelivered without marking it raised (R158, R191). -/

namespace Sys2Proof.Machine

/-- Who asked, and under which tag, in order (R158). -/
def Relay.ids (r : Relay) : List (Byte × Nat) := r.entries.map fun e => (e.requester, e.tag)

/-- An undelivered event is a raised event (R191). -/
def EventList.Sound (e : EventList) : Prop := e.undelivered &&& ~~~e.raised = 0

theorem EventList.sound_iff (e : EventList) :
    e.Sound ↔ ∀ i, i < 16 → e.undelivered.getLsbD i = true → e.raised.getLsbD i = true := by
  constructor
  · intro h i hi hu
    have hb := congrArg (BitVec.getLsbD · i) h
    simpa [hi, hu] using hb
  · refine fun h => BitVec.eq_of_getLsbD_eq fun i hi => ?_
    have := h i hi
    cases hu : e.undelivered.getLsbD i <;> simp_all

theorem EventList.Sound.afterRaise {x : EventList} (h : x.Sound) (e : Event) : (afterRaise x e).Sound := by
  unfold Machine.afterRaise
  split
  · exact h
  · rw [EventList.sound_iff] at *
    intro i hi hu
    simp only [BitVec.getLsbD_or, Bool.or_eq_true] at hu ⊢
    exact hu.imp (h i hi) id

/-- Marks that are taken from the undelivered ones alone leave the list sound. -/
theorem EventList.Sound.endOffer {x : EventList} (h : x.Sound) (m : BitVec 16) (o : Option (BitVec 16)) :
    (EventList.mk x.raised (x.undelivered &&& m) o).Sound := by
  rw [EventList.sound_iff] at *
  intro i hi hu
  simp only [BitVec.getLsbD_and, Bool.and_eq_true] at hu
  exact h i hi hu.1

/-- Marks that are taken from both leave the list sound. -/
theorem EventList.Sound.unmark {x : EventList} (h : x.Sound) (m : BitVec 16) (o : Option (BitVec 16)) :
    (EventList.mk (x.raised &&& m) (x.undelivered &&& m) o).Sound := by
  rw [EventList.sound_iff] at *
  intro i hi hu
  simp only [BitVec.getLsbD_and, Bool.and_eq_true] at hu ⊢
  exact ⟨h i hi hu.1, hu.2⟩

/-- The Query list of `t` is what is left of that of `s`, and the event marks of `t` are sound when those of `s` are. -/
structure KeepsLists (s t : State) : Prop where
  queries : t.relay.ids.Sublist s.relay.ids
  events : s.events.Sound → t.events.Sound

namespace KeepsLists

variable {s t u : State}

theorem refl (s : State) : KeepsLists s s := ⟨.refl _, id⟩

theorem same (h : KeepsLists s t) (relay : u.relay = t.relay) (events : u.events = t.events) : KeepsLists s u :=
  ⟨relay ▸ h.queries, fun hs => events ▸ h.events hs⟩

theorem setArbiter (h : KeepsLists s t) (a : Arbiter) : KeepsLists s (t.setArbiter a) := h.same (by simp) (by simp)

theorem setDecoder (h : KeepsLists s t) (d : Decoder) : KeepsLists s (t.setDecoder d) := h.same (by simp) (by simp)

theorem setLink (h : KeepsLists s t) (n : Node) (l : Link) : KeepsLists s (t.setLink n l) := h.same (by simp) (by simp)

theorem serveQueue (h : KeepsLists s t) : KeepsLists s t.serveQueue := h.same (by simp) (by simp)

theorem endSlot (h : KeepsLists s t) : KeepsLists s t.endSlot := h.same (by simp) (by simp)

theorem retain (h : KeepsLists s t) : KeepsLists s t.retain := h.same (by simp) (by simp)

/-! ### The event marks and the Query list -/

theorem raise (h : KeepsLists s t) (e : Event) : KeepsLists s (t.raise e) := by
  refine ⟨by simpa using h.queries, fun hs => ?_⟩
  rw [State.raise_events]
  exact (h.events hs).afterRaise e

theorem endOffer (h : KeepsLists s t) (taken : Bool) : KeepsLists s (t.endOffer taken) := by
  refine ⟨by simpa using h.queries, fun hs => ?_⟩
  have hx := h.events hs
  unfold State.endOffer
  split
  · cases taken with
    | true => exact hx.endOffer _ _
    | false => exact hx
  · exact hx

theorem clearEvent (h : KeepsLists s t) (e : Event) : KeepsLists s (t.clearEvent e) := by
  have hu : KeepsLists s (t.unraise e) := ⟨by simpa using h.queries, fun hs => (h.events hs).unmark _ _⟩
  simp only [State.clearEvent]
  split
  · exact hu.raise e
  · exact hu

theorem clearEvents (h : KeepsLists s t) (es : List Event) : KeepsLists s (es.foldl State.clearEvent t) := by
  induction es generalizing t with
  | nil => exact h
  | cons e es ih => exact ih (h.clearEvent e)

/-- Entries that change in all but requester and tag. -/
theorem mapEntries (h : KeepsLists s t) {f : QueryEntry → QueryEntry} {x : Option Nat} {n : Nat}
    (hf : ∀ e, (f e).requester = e.requester ∧ (f e).tag = e.tag) :
    KeepsLists s (t.setRelay ⟨t.relay.entries.map f, x, n⟩) := by
  refine ⟨?_, h.events⟩
  have hids : (t.setRelay ⟨t.relay.entries.map f, x, n⟩).relay.ids = t.relay.ids := by
    rw [State.setRelay_relay, Relay.ids, Relay.ids, List.map_map]
    refine List.map_congr_left fun e _ => ?_
    obtain ⟨hr, ht⟩ := hf e
    exact Prod.ext hr ht
  rw [hids]
  exact h.queries

/-- Entries that are freed. -/
theorem filterEntries (h : KeepsLists s t) (p : QueryEntry → Bool) (x : Option Nat) (n : Nat) :
    KeepsLists s (t.setRelay ⟨t.relay.entries.filter p, x, n⟩) :=
  ⟨(List.filter_sublist.map _).trans h.queries, h.events⟩

/-- The query on the line and the late count alone. -/
theorem setRelay (h : KeepsLists s t) (x : Option Nat) (n : Nat) : KeepsLists s (t.setRelay ⟨t.relay.entries, x, n⟩) :=
  ⟨h.queries, h.events⟩

theorem expireQueries (h : KeepsLists s t) (n : Node) : KeepsLists s (t.expireQueries n) :=
  h.mapEntries fun e => by split <;> exact ⟨rfl, rfl⟩

theorem queryAccepted (h : KeepsLists s t) (tag : Nat) : KeepsLists s (t.queryAccepted tag) := by
  unfold State.queryAccepted
  split
  · exact h
  · split
    · exact h.mapEntries fun e => by split <;> exact ⟨rfl, rfl⟩
    · exact h.setRelay _ _

theorem takeAnswer (h : KeepsLists s t) (n : Node) (a : AnswerPart) : KeepsLists s (t.takeAnswer n a) := by
  unfold State.takeAnswer
  split
  · exact h.mapEntries fun e => by split <;> exact ⟨rfl, rfl⟩
  · exact h.setRelay _ _

theorem answerTimerExpired (h : KeepsLists s t) (tag : Nat) : KeepsLists s (t.answerTimerExpired tag) := by
  unfold State.answerTimerExpired
  split
  · exact (h.mapEntries fun e => by split <;> exact ⟨rfl, rfl⟩).raise _
  · exact h

/-! ### Links and the command record -/

theorem setLinkState (h : KeepsLists s t) (n : Node) (st : LinkState) : KeepsLists s (t.setLinkState n st) := by
  simp only [State.setLinkState]
  split
  · exact (h.same (u := t.setLink n { t.link n with state := st }) (by simp) (by simp)).expireQueries n
  · exact h.same (by simp) (by simp)

theorem modeTurnedOff (h : KeepsLists s t) (n : Node) : KeepsLists s (t.modeTurnedOff n) := by
  have ho : KeepsLists s (t.openStop n) := h.same (by simp) (by simp)
  unfold State.modeTurnedOff
  split
  · exact ho.setLinkState _ _
  · exact ho.setLinkState _ _
  · exact ho.setLinkState _ _
  · exact ho
  · exact h
  · exact h

theorem modeTurnedOn (h : KeepsLists s t) (n : Node) : KeepsLists s (t.modeTurnedOn n) := by
  have hc : KeepsLists s (t.closeStop n) := h.same (by simp) (by simp)
  simp only [State.modeTurnedOn]
  split
  · split
    · exact hc.setLinkState _ _
    · exact hc
  · exact h

theorem watchMode (h : KeepsLists s t) (n : Node) (was is : Bool) : KeepsLists s (t.watchMode n was is) := by
  unfold State.watchMode
  split
  · exact h.modeTurnedOff n
  · split
    · exact h.modeTurnedOn n
    · exact h

theorem writeCommand (h : KeepsLists s t) (c : Command) : KeepsLists s (t.writeCommand c) := by
  have hs : KeepsLists s (({ t with command := c }).setArbiter (t.arbiter.atOutMode t.now t.command.outMode c.outMode)) :=
    h.same (by simp) (by simp)
  simp only [State.writeCommand]
  refine watchMode (watchMode ?_ _ _ _) _ _ _
  split
  · exact hs.raise _
  · exact hs

/-! ### The house -/

theorem enterHouse (h : KeepsLists s t) (x : HouseState) : KeepsLists s (t.enterHouse x) := h.setArbiter _

theorem stopHouseTimers (h : KeepsLists s t) : KeepsLists s t.stopHouseTimers := h.setArbiter _

theorem setTarget (h : KeepsLists s t) (x : Option Target) : KeepsLists s (t.setTarget x) := h.setArbiter _

theorem goIdle (h : KeepsLists s t) : KeepsLists s t.goIdle := by
  unfold State.goIdle
  exact (((h.writeCommand _).enterHouse _).stopHouseTimers).setTarget _

theorem enterShed (h : KeepsLists s t) : KeepsLists s t.enterShed := by
  simp only [State.enterShed]
  exact (((h.writeCommand _).enterHouse _).stopHouseTimers).setTarget _

theorem reviewShed (h : KeepsLists s t) : KeepsLists s t.reviewShed := by
  unfold State.reviewShed
  split
  · split
    · exact h.enterShed
    · exact h
  · split
    · exact (h.writeCommand _).enterHouse _
    · exact h

theorem capChanged (h : KeepsLists s t) : KeepsLists s t.capChanged := by
  simp only [State.capChanged]
  split
  · exact h.reviewShed.writeCommand _
  · exact h.reviewShed

theorem cminChanged (h : KeepsLists s t) : KeepsLists s t.cminChanged := by
  simp only [State.cminChanged]
  split
  · split
    · exact h.reviewShed.writeCommand _
    · exact h.reviewShed
  · exact h.reviewShed

theorem nodeUnavailable (h : KeepsLists s t) (n : Node) : KeepsLists s (t.nodeUnavailable n) := by
  unfold State.nodeUnavailable
  split
  · exact h.goIdle
  · split
    · exact h
    · split
      · exact (h.writeCommand _).enterHouse _
      · split
        · exact h.writeCommand _
        · exact h

theorem enterDefrost (h : KeepsLists s t) : KeepsLists s t.enterDefrost := by
  simp only [State.enterDefrost]
  exact ((h.writeCommand _).enterHouse _).setArbiter _

theorem leaveDefrost (h : KeepsLists s t) : KeepsLists s t.leaveDefrost := by
  simp only [State.leaveDefrost]
  exact ((h.writeCommand _).enterHouse _).setArbiter _

theorem outdoorReported (h : KeepsLists s t) (st : NodeState) : KeepsLists s (t.outdoorReported st) := by
  unfold State.outdoorReported
  split
  · split
    · exact h.enterDefrost
    · exact h
  · split
    · exact h.leaveDefrost
    · exact h
  all_goals exact h

theorem airLimitsChanged (h : KeepsLists s t) : KeepsLists s t.airLimitsChanged := by
  unfold State.airLimitsChanged
  split
  · split
    · exact h.writeCommand _
    · exact h
  · exact h

theorem heatPumpLost (h : KeepsLists s t) : KeepsLists s t.heatPumpLost := by
  unfold State.heatPumpLost
  split
  · exact h.goIdle
  · exact h

/-- A move made on its occasion only. -/
theorem ite {p : Prop} [Decidable p] (h : KeepsLists s t) (hu : KeepsLists s u) : KeepsLists s (if p then u else t) := by
  split
  · exact hu
  · exact h

theorem capabilityChanged (h : KeepsLists s t) (old new : Capability) : KeepsLists s (t.capabilityChanged old new) := by
  unfold State.capabilityChanged
  split
  · exact (h.ite h.cminChanged).ite (h.ite h.cminChanged).heatPumpLost
  · exact (h.ite h.airLimitsChanged).ite ((h.ite h.airLimitsChanged).writeCommand _)
  · exact h
  · exact h

theorem haltHouse (h : KeepsLists s t) : KeepsLists s t.haltHouse := by
  unfold State.haltHouse
  split
  · exact h
  · exact (((h.writeCommand _).enterHouse _).stopHouseTimers).setTarget _

theorem resumeHouse (h : KeepsLists s t) : KeepsLists s t.resumeHouse := by
  unfold State.resumeHouse
  exact (h.writeCommand _).enterHouse _

theorem unhaltHouse (h : KeepsLists s t) : KeepsLists s t.unhaltHouse := by
  unfold State.unhaltHouse
  split
  · exact h.resumeHouse
  · exact h

theorem commission (h : KeepsLists s t) : KeepsLists s t.commission := by
  unfold State.commission
  split
  · split
    · exact h.same (by simp) (by simp)
    · exact h.resumeHouse
  · exact h

theorem holdOn (h : KeepsLists s t) : KeepsLists s t.holdOn := by
  simp only [State.holdOn]
  exact (h.writeCommand _).setArbiter _

theorem enterChangeover (h : KeepsLists s t) (x : Target) : KeepsLists s (t.enterChangeover x) := by
  simp only [State.enterChangeover]
  exact ((h.writeCommand _).enterHouse _).setArbiter _

theorem fanOrIdle (h : KeepsLists s t) : KeepsLists s t.fanOrIdle.1 := by
  unfold State.fanOrIdle
  split
  · exact h
  · exact (h.writeCommand _).enterHouse _

theorem decideFan (h : KeepsLists s t) : KeepsLists s t.decideFan.1 := by
  simp only [State.decideFan]
  split
  · have ht : KeepsLists s (t.setTarget (some t.chooseTarget)) := h.same (by simp) (by simp)
    split
    · exact ht.same (by simp) (by simp)
    · exact ht.fanOrIdle
  · exact (h.same (u := t.setTarget none) (by simp) (by simp)).fanOrIdle

theorem decideCooling (h : KeepsLists s t) : KeepsLists s t.decideCooling.1 := by
  unfold State.decideCooling
  split
  · exact h.enterChangeover _
  · split
    · split
      · exact h.goIdle
      · exact h.holdOn
    · exact h.same (by simp) (by simp)

theorem decideHeating (h : KeepsLists s t) : KeepsLists s t.decideHeating.1 := by
  unfold State.decideHeating
  split
  · exact h.enterChangeover _
  · split
    · split
      · exact h.goIdle
      · exact h.holdOn
    · exact h.same (by simp) (by simp)

theorem decideChangeover (h : KeepsLists s t) : KeepsLists s t.decideChangeover.1 := by
  unfold State.decideChangeover
  split
  · split
    · exact h.goIdle
    · exact h
  · split
    · split
      · exact h.goIdle
      · split
        · exact h.same (by simp) (by simp)
        · exact h.same (by simp) (by simp)
    · exact h.same (by simp) (by simp)

theorem decideShed (h : KeepsLists s t) : KeepsLists s t.decideShed.1 := by
  unfold State.decideShed
  split
  · exact h
  · exact h.writeCommand _

theorem decision (h : KeepsLists s t) : KeepsLists s t.decision.1 := by
  unfold State.decision
  split
  · exact h
  · exact h
  · exact h.same (by simp) (by simp)
  · exact h.decideFan
  · exact h.decideCooling
  · exact h.decideCooling
  · exact h.decideHeating
  · exact h
  · exact h.decideChangeover
  · exact h.decideShed

theorem publishFigures (h : KeepsLists s t) (f : Figures) : KeepsLists s (t.publishFigures f) := by
  have hw : KeepsLists s ((t.setComputation f.record).writeCommand (f.command t.house)) :=
    (h.same (u := t.setComputation f.record) (by simp) (by simp)).writeCommand _
  have hr : KeepsLists s (if f.record.short then ((t.setComputation f.record).writeCommand (f.command t.house)).raise .spillShort
      else (t.setComputation f.record).writeCommand (f.command t.house)) := by
    split
    · exact hw.raise _
    · exact hw
  simp only [State.publishFigures]
  split
  · exact hr.same (by simp [State.house]) (by simp [State.house])
  · exact hr

theorem computeAndPublish (h : KeepsLists s t) : KeepsLists s t.computeAndPublish := by
  unfold State.computeAndPublish
  split
  · exact h.publishFigures _
  · exact (h.same (u := t.noComputation) (by simp) (by simp)).enterShed

/-! ### Zones -/

theorem deriveStatus (h : KeepsLists s t) (z : ZoneId) : KeepsLists s (t.deriveStatus z) := by
  have hz : KeepsLists s (t.setZone z { t.zone z with status := t.statusOf z }) := h.same (by simp) (by simp)
  simp only [State.deriveStatus]
  split
  · exact hz.raise _
  · exact hz

theorem leavePlay (h : KeepsLists s t) (z : ZoneId) : KeepsLists s (t.leavePlay z) :=
  (h.same (u := t.setZone z { t.zone z with call := .none, demand := 0, unmet := 0 }) (by simp) (by simp)).deriveStatus z

theorem takeReadings (h : KeepsLists s t) (i : RouteId) (z : ZoneId) (a b : Option Int) :
    KeepsLists s (t.takeReadings i z a b) := by
  rw [State.takeReadings_eq]
  split
  · exact deriveStatus (h.same (by simp) (by simp)) z
  · exact h.same (by simp) (by simp)

theorem takeSwitch (h : KeepsLists s t) (z : ZoneId) (on fan : Bool) : KeepsLists s (t.takeSwitch z on fan) := by
  have hz : KeepsLists s (t.setZone z { t.zone z with switchOn := on, fan := fan }) := h.same (by simp) (by simp)
  rw [State.takeSwitch_eq]
  split
  · split
    · exact hz.leavePlay z
    · split
      · exact hz.deriveStatus z
      · exact hz
  · exact hz

theorem loseZone (h : KeepsLists s t) (z : ZoneId) : KeepsLists s (t.loseZone z) := by
  have hz : KeepsLists s (t.setZone z { t.zone z with loss := .expired }) := h.same (by simp) (by simp)
  simp only [State.loseZone]
  split
  · exact hz.leavePlay z
  · exact hz

theorem forIx {n : Nat} {f : Fin n → State → State} (h : KeepsLists s t)
    (hf : ∀ (i : Fin n) {u : State}, KeepsLists s u → KeepsLists s (f i u)) : KeepsLists s (t.forIx f) :=
  State.forIx_induct (KeepsLists s) f t h fun i _ hu => hf i hu

theorem updateZones (h : KeepsLists s t) : KeepsLists s t.updateZones :=
  forIx (h.same (by simp) (by simp)) fun z _ hu => hu.deriveStatus z

theorem zoneWritten (h : KeepsLists s t) (z : ZoneId) (old : ZoneCfg) : KeepsLists s (t.zoneWritten z old) := by
  have hz : KeepsLists s (t.setZone z ((t.zone z).takeStored old (t.zoneCfg z))) := h.same (by simp) (by simp)
  simp only [State.zoneWritten]
  split
  · exact hz.leavePlay z
  · split
    · exact hz.deriveStatus z
    · exact hz

theorem reviewSources (h : KeepsLists s t) (old : Vector RouteCfg 16) (z : ZoneId) : KeepsLists s (t.reviewSources old z) := by
  have hr : KeepsLists s (t.recombine z) := h.same (by simp) (by simp)
  simp only [State.reviewSources]
  split
  · split
    · exact leavePlay (hr.same (by simp) (by simp)) z
    · split
      · exact deriveStatus (hr.same (by simp) (by simp)) z
      · exact hr
  · exact h

theorem reviewPanel (h : KeepsLists s t) (old : Vector RouteCfg 16) (z : ZoneId) : KeepsLists s (t.reviewPanel old z) := by
  rcases t.reviewPanel_cases old z with heq | heq | heq <;> rw [heq]
  · exact h
  · exact h.same (by simp) (by simp)
  · exact h.takeSwitch z true false

theorem reviewQueries (h : KeepsLists s t) (old : Vector RouteCfg 16) (i : RouteId) :
    KeepsLists s (t.reviewQueries old i) := by
  simp only [State.reviewQueries]
  split
  · exact h.filterEntries _ _ _
  · exact h

theorem routesWritten (h : KeepsLists s t) (v : Vector RouteCfg 16) : KeepsLists s (t.routesWritten v) := by
  rw [State.routesWritten_eq]
  refine forIx (forIx (h.same rfl rfl) fun z _ hu => ?_) fun i _ hu => hu.reviewQueries _ i
  exact (hu.reviewSources _ z).reviewPanel _ z

theorem zonesWritten (h : KeepsLists s t) (start : Nat) (xs : List ZoneCfg) : KeepsLists s (t.zonesWritten start xs) := by
  rw [State.zonesWritten_eq]
  refine forIx (h.same rfl rfl) fun z _ hu => ?_
  split
  · exact hu.zoneWritten z _
  · exact hu

theorem cycle (h : KeepsLists s t) : KeepsLists s t.cycle := by
  have hd : KeepsLists s t.decided := by
    have he : KeepsLists s t.evaluateZones.decision.1 := (h.same (u := t.evaluateZones) (by simp) (by simp)).decision
    unfold State.decided
    split
    · exact he.computeAndPublish
    · exact he.same (by simp) (by simp)
  rw [State.cycle_eq]
  exact (updateZones hd).same (by simp [State.updated]) (by simp [State.updated])

/-! ### Dampers -/

theorem enterFault (h : KeepsLists s t) (c : ChannelId) (homed : Bool) : KeepsLists s (t.enterFault c homed) := by
  simp only [State.enterFault]
  exact raise (h.same (by simp) (by simp)) _

theorem silenceExpired (h : KeepsLists s t) (c : ChannelId) : KeepsLists s (t.silenceExpired c) := by
  simp only [State.silenceExpired]
  split
  case h_2 =>
    split
    · exact (h.enterFault c _).serveQueue
    · exact h.same (by simp) (by simp)
  all_goals exact h.same (by simp) (by simp)

/-! ### Plant links -/

theorem statusHeard (h : KeepsLists s t) (n : Node) (st : Option NodeState) : KeepsLists s (t.statusHeard n st) := by
  simp only [State.statusHeard]
  split
  · exact setLinkState (h.same (by simp) (by simp)) _ _
  · exact h
  · exact h.same (by simp) (by simp)
  · exact h.same (by simp) (by simp)
  · exact h.same (by simp) (by simp)
  · exact setLinkState (h.same (by simp) (by simp)) _ _

theorem recordNodeState (h : KeepsLists s t) (n : Node) (st : NodeState) : KeepsLists s (t.recordNodeState n st) := by
  have hl : KeepsLists s (t.setLink n { t.link n with nodeState := some st }) := h.same (by simp) (by simp)
  simp only [State.recordNodeState]
  split
  · refine outdoorReported ?_ st
    split
    · exact hl.nodeUnavailable _
    · exact hl
  · split
    · exact hl.nodeUnavailable _
    · exact hl

theorem recordFault (h : KeepsLists s t) (n : Node) (code : Nat) : KeepsLists s (t.recordFault n code) := by
  have hl : KeepsLists s (t.setLink n { t.link n with fault := some code }) := h.same (by simp) (by simp)
  simp only [State.recordFault]
  split
  · exact hl.raise _
  · exact hl

theorem compareCapability (h : KeepsLists s t) (n : Node) (v : AnnexValue) : KeepsLists s (t.compareCapability n v) := by
  unfold State.compareCapability
  split
  · split
    · exact h
    · exact (raise (h.same (by simp) (by simp)) _).capabilityChanged _ _
  · exact h

theorem takeAnnex (h : KeepsLists s t) (n : Node) (x : Status) : KeepsLists s (t.takeAnnex n x) := by
  unfold State.takeAnnex
  split
  · exact h.same (by simp) (by simp)
  · split
    · exact h.same (by simp) (by simp)
    · exact compareCapability (h.same (by simp) (by simp)) n _

theorem completeBinding (h : KeepsLists s t) (n : Node) : KeepsLists s (t.completeBinding n) := by
  simp only [State.completeBinding]
  split
  · split
    · exact reviewShed (setLinkState (h.same (by simp) (by simp)) _ _)
    · exact setLinkState (h.same (by simp) (by simp)) _ _
  · exact h

theorem stopOnIdle (h : KeepsLists s t) (n : Node) (st : Option NodeState) : KeepsLists s (t.stopOnIdle n st) := by
  have hc : KeepsLists s (t.closeStop n) := h.same (by simp) (by simp)
  simp only [State.stopOnIdle]
  split
  · split
    · exact hc.setLinkState _ _
    · exact hc
  · exact h

theorem activate (h : KeepsLists s t) (n : Node) (st : Option NodeState) : KeepsLists s (t.activate n st) := by
  unfold State.activate
  split
  · exact h.setLinkState _ _
  · exact h

theorem takeStatus (h : KeepsLists s t) (n : Node) (x : Status) : KeepsLists s (t.takeStatus n x) := by
  have hn : KeepsLists s (match x.nodeState with
      | some st => (t.statusHeard n x.nodeState).recordNodeState n st
      | none => t.statusHeard n x.nodeState) := by
    split
    · exact (h.statusHeard n _).recordNodeState n _
    · exact h.statusHeard n _
  exact ((((hn.recordFault n x.fault).takeAnnex n x).completeBinding n).activate n x.nodeState).stopOnIdle n x.nodeState

theorem enterDown (h : KeepsLists s t) (n : Node) (lost : Bool) : KeepsLists s (t.enterDown n lost) := by
  have hf : KeepsLists s (((t.setLink n { (t.link n).downed with lost := lost }).setLinkState n .down).forgetWake n) :=
    ((h.setLink n { (t.link n).downed with lost := lost }).setLinkState n .down).same (by simp) (by simp)
  have hu : KeepsLists s
      (if t.available n then
        (((t.setLink n { (t.link n).downed with lost := lost }).setLinkState n .down).forgetWake n).nodeUnavailable n
      else ((t.setLink n { (t.link n).downed with lost := lost }).setLinkState n .down).forgetWake n) := by
    split
    · exact hf.nodeUnavailable n
    · exact hf
  simp only [State.enterDown]
  split
  · exact hu.reviewShed
  · exact hu

theorem stopTimedOut (h : KeepsLists s t) (n : Node) : KeepsLists s (t.stopTimedOut n) := by
  have hc : KeepsLists s (t.closeStop n) := h.same (by simp) (by simp)
  simp only [State.stopTimedOut]
  split
  · exact hc.setLinkState _ _
  · exact hc

theorem fallSilent (h : KeepsLists s t) (n : Node) : KeepsLists s (t.fallSilent n) :=
  setLinkState (h.same (by simp) (by simp)) n .silent

/-! ### The plant port -/

theorem relayStatus (h : KeepsLists s t) (n : Node) (p : List Byte) : KeepsLists s (t.relayStatus n p) := by
  unfold State.relayStatus
  split
  · exact h.takeAnswer n _
  · exact h

theorem plantReply (h : KeepsLists s t) (w : PlantWait) (p : List Byte) (relayFirst : Bool) :
    KeepsLists s (t.plantReply w p relayFirst) := by
  unfold State.plantReply
  split
  · split
    · exact (h.relayStatus _ p).takeStatus _ _
    · exact (h.takeStatus _ _).relayStatus _ p
  · exact h.queryAccepted _

theorem plantMissed (h : KeepsLists s t) : KeepsLists s t.plantMissed := by
  unfold State.plantMissed
  split
  · next w _ =>
    refine same (t := t.closePlantWait.missAnswered w.expects) ?_ (by simp) (by simp)
    unfold State.missAnswered
    split
    · exact h.same (by simp) (by simp)
    · exact setRelay (h.same (by simp) (by simp)) _ _
  · exact h

theorem plantAnswered (h : KeepsLists s t) (p : List Byte) (relayFirst : Bool) :
    KeepsLists s (t.plantAnswered p relayFirst) := by
  unfold State.plantAnswered
  split
  · exact ((h.same (u := t.closePlantWait) (by simp) (by simp)).plantReply _ p relayFirst).endSlot
  · exact h

theorem judgePlant (h : KeepsLists s t) (b : Burst) : KeepsLists s (t.judgePlant b) := by
  have hc : KeepsLists s (t.countPlant (t.plantVerdict b)) := h.same (by simp) (by simp)
  simp only [State.judgePlant]
  split
  · exact hc
  · exact hc
  · exact hc.plantMissed
  · exact hc.plantMissed
  · exact hc.plantMissed
  · exact hc.plantAnswered _ _

theorem receivePlant (h : KeepsLists s t) (b : Burst) : KeepsLists s (t.receivePlant b) := by
  unfold State.receivePlant
  generalize heard b t.now t.plant.frames = l
  induction l generalizing t with
  | nil => exact h
  | cons a l ih => exact ih (h.judgePlant a)

theorem sendQuery (h : KeepsLists s t) : KeepsLists s t.sendQuery := by
  unfold State.sendQuery
  split
  · exact setRelay (h.same (by simp) (by simp)) _ _
  · exact h.same (by simp) (by simp)

/-! ### The curtailment decoder -/

theorem setLevel (h : KeepsLists s t) (l : CurtailLevel) : KeepsLists s (t.setLevel l) := by
  unfold State.setLevel
  split
  · exact h
  · exact (raise (h.same (by simp) (by simp)) _).capChanged

theorem endTrain (h : KeepsLists s t) : KeepsLists s t.endTrain := by
  unfold State.endTrain
  split
  · exact (((h.setDecoder _).setDecoder _).setLevel _).retain
  · exact h.setDecoder _

theorem glitchEnds (h : KeepsLists s t) : KeepsLists s t.glitchEnds :=
  (h.setDecoder _).ite (h.setDecoder _).endTrain

theorem restAtInput (h : KeepsLists s t) : KeepsLists s t.restAtInput := by
  unfold State.restAtInput
  split
  · exact h.setDecoder _
  · exact (h.setDecoder _).ite h.glitchEnds
  · exact h
  · exact h

theorem curtailAtRest (h : KeepsLists s t) : KeepsLists s t.curtailAtRest :=
  h.ite ((h.setDecoder _).ite (h.setDecoder _).restAtInput)

theorem holdExpired (h : KeepsLists s t) : KeepsLists s t.holdExpired := by
  unfold State.holdExpired
  exact ((h.setDecoder _).setLevel _).retain

/-! ### The room port and the room service -/

theorem sendPoll (h : KeepsLists s t) : KeepsLists s t.sendPoll := by
  simp only [State.sendPoll]
  refine same (t := t.carry t.nextPolled (t.optionalPart t.nextPolled)) ?_ (by simp) (by simp)
  unfold State.carry
  split
  · exact filterEntries (h.same (by simp) (by simp)) _ _ _
  · exact ⟨h.queries, h.events⟩
  · exact h

theorem takeReport (h : KeepsLists s t) (x : Sender) (r : RoomReport) : KeepsLists s (t.takeReport x r) := by
  have h1 : KeepsLists s (t.reportReadings x r) := by
    unfold State.reportReadings
    split
    · exact h.takeReadings _ _ _ _
    · exact h.takeReadings _ _ _ _
    · exact h
  have h2 : KeepsLists s ((t.reportReadings x r).reportSwitch x r) := by
    unfold State.reportSwitch
    split
    · exact h1.takeSwitch _ _ _
    · exact h1
  simp only [State.takeReport]
  split
  · exact h2.same (by simp) (by simp)
  · exact h2

theorem endSave (h : KeepsLists s t) (agrees : Bool) : KeepsLists s (t.endSave agrees) := by
  unfold State.endSave
  split
  · split
    · exact commission (raise (h.same (by simp) (by simp)) _)
    · exact raise (h.same (by simp) (by simp)) _
  · exact h

theorem clearLatch (h : KeepsLists s t) : KeepsLists s t.clearLatch := by
  have hl : KeepsLists s { t with supply := { t.supply with latch := false } } := h.same rfl rfl
  unfold State.clearLatch
  exact hl.unhaltHouse.same (by simp) (by simp)

theorem setLatch (h : KeepsLists s t) : KeepsLists s t.setLatch := by
  have hl : KeepsLists s { t with supply := { t.supply with latch := true } } := h.same rfl rfl
  unfold State.setLatch
  exact (hl.raise .shutdown).haltHouse.same (by simp) (by simp)

theorem manages (h : KeepsLists s t) (m : Manages t u) : KeepsLists s u := by
  cases m with
  | writesRoutes start xs _ _ _ => exact h.routesWritten _
  | writesZones start xs _ _ => exact h.zonesWritten start xs
  | writesDampers start xs _ _ _ => exact h.same (by simp [State.dampersWritten]) (by simp [State.dampersWritten])
  | writesProfile p _ => exact h.same (by simp [State.profileWritten]) (by simp [State.profileWritten])
  | releases c _ => exact h.same (by simp) (by simp)
  | clearsLatch _ _ => exact h.clearLatch
  | nothing => exact h
  | saves _ _ => exact h.same rfl rfl
  | clearsEvents es => exact h.clearEvents _
  | clearsCounters => exact ⟨h.queries, h.events⟩

/-! ### Start-up and the shutdown latch -/

theorem inputAsserted (h : KeepsLists s t) : KeepsLists s t.inputAsserted := by
  have hi : KeepsLists s (t.setInput .asserted) := h.same (by simp) (by simp)
  exact hi.ite hi.setLatch

theorem enterSag (h : KeepsLists s t) : KeepsLists s t.enterSag := by
  have hs : KeepsLists s (t.setSupply .sag t.now) := h.same (by simp) (by simp)
  simp only [State.enterSag]
  split
  · exact h
  · split
    · exact hs.raise _
    · exact hs

/-- Start-up completion clears the event list before it raises its events (R180). -/
theorem firstEvents (h : KeepsLists s t) : KeepsLists s t.firstEvents := by
  have hc : KeepsLists s (t.setEvents clearedEvents) := ⟨h.queries, fun _ => BitVec.zero_and⟩
  have hl := (hc.raise .restart).ite (p := t.supply.latch = true) ((hc.raise .restart).raise .shutdown)
  simp only [State.firstEvents, State.raise_frame, State.setEvents_supply]
  exact hl.ite (hl.raise .supplySag)

theorem startBlocks (h : KeepsLists s t) : KeepsLists s t.startBlocks := by
  rw [State.startBlocks_eq]
  exact same (forIx (h.same (u := t.blocksSet) rfl rfl) fun z _ hu => hu.deriveStatus z) (by simp) (by simp)

theorem completeStart (h : KeepsLists s t) : KeepsLists s t.completeStart :=
  h.startBlocks.firstEvents.same (by simp [State.completeStart]) (by simp [State.completeStart])

end KeepsLists

end Sys2Proof.Machine
end

section
/-! PROOF. Every step keeps the Query list, the event marks and the miss counts within their rules (R113, R158, R159, R191). -/

namespace Sys2Proof.Machine

/-! ### The Query list (R158, R159) -/

theorem queriesHold_iff (s : State) :
    QueriesHold s ↔ s.relay.ids.length ≤ 4 ∧ (s.relay.ids.map Prod.fst).Nodup ∧ (s.relay.ids.map Prod.snd).Nodup
      ∧ ∀ t ∈ s.relay.ids.map Prod.snd, t ≤ 15 := by
  have hfst : s.relay.ids.map Prod.fst = s.relay.entries.map (·.requester) := by simp [Relay.ids, Function.comp_def]
  have hsnd : s.relay.ids.map Prod.snd = s.relay.entries.map (·.tag) := by simp [Relay.ids, Function.comp_def]
  have hlen : s.relay.ids.length = s.relay.entries.length := List.length_map _
  rw [hfst, hsnd, hlen]
  constructor
  · exact fun h => ⟨h.length, h.requesters, h.tags, by simpa using h.tagRange⟩
  · exact fun ⟨h1, h2, h3, h4⟩ => ⟨h1, h2, h3, by simpa using h4⟩

theorem QueriesHold.keeps {s t : State} (k : KeepsLists s t) (h : QueriesHold s) : QueriesHold t := by
  rw [queriesHold_iff] at *
  obtain ⟨hlen, hreq, htag, hrange⟩ := h
  have hsub := k.queries
  exact ⟨hsub.length_le.trans hlen, hreq.sublist (hsub.map _), htag.sublist (hsub.map _),
    fun t ht => hrange t ((hsub.map _).subset ht)⟩

/-- With fewer than sixteen entries some tag is free, and the lowest is taken (R159). -/
theorem freeTag_spec {es : List QueryEntry} (h : es.length < 16) :
    freeTag es ≤ 15 ∧ freeTag es ∉ es.map (·.tag) := by
  have hfree : ∃ t ∈ List.range 16, t ∉ es.map (·.tag) := by
    by_contra hall
    push Not at hall
    have := ((List.nodup_range (n := 16)).subperm hall).length_le
    simp only [List.length_range, List.length_map] at this
    omega
  obtain ⟨t, ht, hnot⟩ := hfree
  have hsome : ((List.range 16).find? fun t => es.all fun e => decide (e.tag ≠ t)).isSome := by
    rw [List.find?_isSome]
    exact ⟨t, ht, by simpa using fun e he hte => hnot (List.mem_map.2 ⟨e, he, hte⟩)⟩
  obtain ⟨u, hu⟩ := Option.isSome_iff_exists.1 hsome
  have heq : freeTag es = u := by rw [freeTag, hu, Option.getD_some]
  rw [heq]
  have hmem := List.mem_of_find?_eq_some hu
  have hp := List.find?_some hu
  simp only [List.mem_range] at hmem
  refine ⟨by omega, fun hin => ?_⟩
  obtain ⟨e, he, hte⟩ := List.mem_map.1 hin
  simp only [List.all_eq_true, decide_eq_true_eq] at hp
  exact hp e he hte

/-- A query is taken from a requester that has none, with a free tag, while the list holds at most three (R159). -/
theorem QueriesHold.takeQuery {s : State} (h : QueriesHold s) (requester target item : Byte) (argument : BitVec 16) :
    QueriesHold (s.takeQuery requester target item argument).2 := by
  unfold State.takeQuery
  split
  · exact h
  · split_ifs with hlink hany hfull
    · exact h
    · exact h
    · exact h
    · have hroom : s.relay.entries.length < 4 := Nat.lt_of_not_le hfull
      obtain ⟨hrange, hfree⟩ := freeTag_spec (es := s.relay.entries) (by omega)
      have hnew : requester ∉ s.relay.entries.map (·.requester) := by
        simpa [List.mem_map, List.any_eq_true] using hany
      refine ⟨by simpa using hroom, ?_, ?_, ?_⟩
      · simpa [List.nodup_append, h.requesters] using fun e he heq => hnew (List.mem_map.2 ⟨e, he, heq⟩)
      · simpa [List.nodup_append, h.tags] using fun e he heq => hfree (List.mem_map.2 ⟨e, he, heq⟩)
      · intro e he
        rcases List.mem_append.1 he with he | he
        · exact h.tagRange e he
        · rw [List.mem_singleton.1 he]
          exact hrange

/-! ### What the lists keep, every step keeps -/

/-- What keeps an invariant that depends on nothing but the Query list and the event marks. -/
structure KeptByLists (I : State → Prop) : Prop where
  keeps : ∀ s t : State, KeepsLists s t → I s → I t
  query : ∀ (s : State) requester target item arg, I s → I (s.takeQuery requester target item arg).2

variable {I : State → Prop}

theorem KeptByLists.askPlant (k : KeptByLists I) {s : State} (h : I s) (x : Sender) (target item : Byte)
    (arg : BitVec 16) : I (s.askPlant x target item arg) := by
  simp only [State.askPlant]
  split
  · exact k.keeps (s.takeQuery x.address target item arg).2 _ ((KeepsLists.refl _).same (by simp) (by simp))
      (k.query s _ _ _ _ h)
  · exact k.keeps s _ ((KeepsLists.refl _).same (by simp) (by simp)) h

theorem KeptByLists.keptByReplies (k : KeptByLists I) : KeptByReplies I where
  port s r h := k.keeps s _ ((KeepsLists.refl _).same rfl rfl) h
  miss s a h := k.keeps s _ ((KeepsLists.refl _).same (by simp) (by simp)) h
  credit s a h := k.keeps s _ ((KeepsLists.refl _).same (by simp) (by simp)) h
  notice s carried taken h := k.keeps s _ ((KeepsLists.refl _).ite ((KeepsLists.refl _).endOffer taken)) h
  report s x r h := k.keeps s _ ((KeepsLists.refl _).takeReport x r) h
  change s x sc g p h := k.keeps s _ ((KeepsLists.refl _).same (by simp) (by simp)) h
  query s x n item arg h := k.askPlant h x n item arg
  manage s t _ m h := k.keeps s t ((KeepsLists.refl _).manages m) h

/-- Every move but a burst on the room line leaves the lists as `KeepsLists` says. -/
theorem KeptByLists.acts (k : KeptByLists I) {u t : State} (a : Acts u t) (h : I u) : I t := by
  have h0 := KeepsLists.refl u
  cases a with
  | hearsRoom running b => exact k.keptByReplies.receive running h b
  | roomTimesOut under _ => exact k.keptByReplies.timeout h
  | polls quiet _ => exact k.keeps u _ h0.sendPoll h
  | hearsPlant running b => exact k.keeps u _ (h0.receivePlant b) h
  | plantTimesOut under _ => exact k.keeps u _ (h0.same (by rfl) (by rfl)).plantMissed h
  | sendsQuery quiet _ _ => exact k.keeps u _ h0.sendQuery h
  | bindingFails _ n _ => exact k.keeps u _ ((h0.enterDown n _).raise _) h
  | fallsSilent _ n _ => exact k.keeps u _ (h0.fallSilent n) h
  | losesLink _ n _ => exact k.keeps u _ ((h0.enterDown n _).raise _) h
  | stopTimesOut _ n _ => exact k.keeps u _ (h0.stopTimedOut n) h
  | answerTimesOut _ tag => exact k.keeps u _ (h0.answerTimerExpired tag) h
  | cycles _ _ => exact k.keeps u _ h0.cycle h
  | defrostsLong _ _ => exact k.keeps u _ ((h0.setArbiter _).raise _) h
  | losesZone _ z _ => exact k.keeps u _ (h0.loseZone z) h
  | silenceExpires _ c _ => exact k.keeps u _ (h0.silenceExpired c) h
  | seekExpires _ c _ => exact k.keeps u _ (h0.enterFault c false).serveQueue h
  | curtailAtRest => exact k.keeps u _ h0.curtailAtRest h
  | trainEnds _ _ _ => exact k.keeps u _ h0.endTrain h
  | holdExpires _ _ => exact k.keeps u _ h0.holdExpired h
  | sags => exact k.keeps u _ h0.enterSag h
  | resets cause => exact k.keeps u _ ⟨List.nil_sublist _, fun _ => BitVec.zero_and⟩ h
  | completes _ => exact k.keeps u _ h0.completeStart h
  | inputAsserted => exact k.keeps u _ h0.inputAsserted h
  | saveEnds _ agrees _ => exact k.keeps u _ (h0.endSave agrees) h
  | _ => exact k.keeps u _ (h0.same (by simp) (by simp)) h

theorem KeptByLists.step (k : KeptByLists I) {s t : State} (h : I s) (hstep : step s = .next t) : I t :=
  step_keeps (fun s _ h => k.keeps s _ ((KeepsLists.refl _).same rfl rfl) h)
    (fun s _ h => k.keeps s _ ((KeepsLists.refl _).same rfl rfl) h) (fun _ _ a h => k.acts a h) h hstep

theorem QueriesHold.step {s t : State} (h : QueriesHold s) (hstep : Machine.step s = .next t) : QueriesHold t :=
  KeptByLists.step ⟨fun _ _ k h => h.keeps k, fun _ _ _ _ _ h => h.takeQuery _ _ _ _⟩ h hstep

theorem EventsHold.step {s t : State} (h : EventsHold s) (hstep : Machine.step s = .next t) : EventsHold t :=
  KeptByLists.step (I := EventsHold)
    ⟨fun _ _ k h => k.events h, fun s _ _ _ _ h => by unfold EventsHold at *; simpa using h⟩ h hstep

/-! ### Miss counts (R113) -/

/-- A miss count of at most 255, and SILENT exactly from the fifth miss on (R113). -/
def RouteRun.Counted (r : RouteRun) : Prop := r.misses ≤ 255 ∧ (r.line = .silent ↔ 5 ≤ r.misses)

theorem RouteRun.Counted.missed {r : RouteRun} (h : r.Counted) : r.missed.Counted := by
  obtain ⟨htop, hline⟩ := h
  have hstep : r.misses ≤ satInc 255 r.misses := by
    unfold satInc
    split <;> omega
  refine ⟨satInc_le htop, ?_⟩
  simp only [RouteRun.missed]
  split
  · next h5 => exact ⟨fun _ => h5, fun _ => rfl⟩
  · next h5 => exact ⟨fun hs => absurd (hline.1 hs) (by omega), fun hc => absurd hc h5⟩

theorem RouteRun.Counted.answered (r : RouteRun) : r.answered.Counted :=
  ⟨Nat.zero_le _, by simp [RouteRun.answered]⟩

theorem RouteRun.Counted.aligned {r : RouteRun} (h : r.Counted) (old new : RouteCfg) : (r.aligned old new).Counted := by
  unfold RouteRun.aligned
  split_ifs
  · exact ⟨Nat.zero_le _, by decide⟩
  · exact h
  · exact h

theorem MissesHold.same {s t : State} (h : MissesHold s) (routes : t.routes = s.routes) : MissesHold t := by
  intro i
  rw [State.routeRun_congr routes]
  exact h i

theorem MissesHold.setRoute {s : State} (h : MissesHold s) (i : RouteId) {r : RouteRun} (hr : r.Counted) :
    MissesHold (s.setRoute i r) := by
  intro j
  have hj : (s.setRoute i r).routeRun j = if j = i then r else s.routeRun j := look_put _ _ _ _
  rw [hj]
  split
  · exact hr
  · exact h j

theorem MissesHold.missEntry {s : State} (h : MissesHold s) (a : Byte) : MissesHold (s.missEntry a) := by
  unfold State.missEntry
  split
  · exact h.setRoute _ (RouteRun.Counted.missed (h _))
  · exact h

theorem MissesHold.creditEntry {s : State} (h : MissesHold s) (a : Byte) : MissesHold (s.creditEntry a) := by
  unfold State.creditEntry
  split
  · exact h.setRoute _ (.answered _)
  · exact h

theorem MissesHold.hold {s : State} (h : MissesHold s) (x : Sender) (r : HeldResult) : MissesHold (s.hold x r) := by
  unfold State.hold
  split
  · exact h.setRoute _ (h _)
  · split
    · exact h
    · exact h

theorem MissesHold.takeReadings {s : State} (h : MissesHold s) (i : RouteId) (z : ZoneId) (a b : Option Int) :
    MissesHold (s.takeReadings i z a b) :=
  MissesHold.same (s := s.setRoute i ((s.routeRun i).withReadings a b s.now)) (h.setRoute i (h i)) (by simp)

theorem MissesHold.takeReport {s : State} (h : MissesHold s) (x : Sender) (r : RoomReport) :
    MissesHold (s.takeReport x r) := by
  have h1 : MissesHold (s.reportReadings x r) := by
    unfold State.reportReadings
    split
    · exact h.takeReadings _ _ _ _
    · exact h.takeReadings _ _ _ _
    · exact h
  have h2 : MissesHold ((s.reportReadings x r).reportSwitch x r) := h1.same (by simp)
  simp only [State.takeReport]
  split
  · unfold State.reportSetpoints
    split
    · split
      · exact MissesHold.hold (h2.same (by simp)) _ _
      · exact h2.hold _ _
    · exact h2.hold _ _
  · exact h2

theorem MissesHold.askPlant {s : State} (h : MissesHold s) (x : Sender) (target item : Byte) (arg : BitVec 16) :
    MissesHold (s.askPlant x target item arg) := by
  simp only [State.askPlant]
  split
  · exact MissesHold.hold (h.same (by simp)) _ _
  · exact h.hold _ _

theorem MissesHold.manages {s t : State} (h : MissesHold s) (m : Manages s t) : MissesHold t := by
  cases m with
  | writesRoutes start xs _ _ _ =>
    intro i
    have hi : (s.routesWritten (writeAt s.tables.routes start xs)).routeRun i =
        (s.routeRun i).aligned (s.routeCfg i) (look (writeAt s.tables.routes start xs) i) := by
      rw [State.routeRun_congr (s := s.routesInstalled (writeAt s.tables.routes start xs))
        (by simp [State.routesWritten_eq, State.reviewZone])]
      exact look_tab _ i
    rw [hi]
    exact RouteRun.Counted.aligned (h i) _ _
  | writesProfile p _ => exact h.same (by simp [State.profileWritten])
  | nothing => exact h
  | saves _ _ => exact h
  | clearsCounters => exact h
  | _ => exact h.same (by simp)

theorem MissesHold.keptByReplies : KeptByReplies MissesHold where
  port _ _ h := h
  miss _ a h := h.missEntry a
  credit _ a h := h.creditEntry a
  notice _ _ _ h := h.same (by simp)
  report _ x r h := h.takeReport x r
  change _ x _ _ _ h := MissesHold.hold (h.same (by simp)) x _
  query _ x n item arg h := h.askPlant x n item arg
  manage _ _ _ m h := h.manages m

theorem MissesHold.sendPoll {s : State} (h : MissesHold s) : MissesHold s.sendPoll := by
  have hcarry : ∀ (i : Option RouteId) (o : OptionalPart), MissesHold (s.carry i o) := by
    intro i o
    unfold State.carry
    split
    · refine MissesHold.same (s := s.dropHeld i) ?_ (by simp)
      unfold State.dropHeld
      split
      · exact h.setRoute _ (h _)
      · exact h
    · exact h
    · exact h
  simp only [State.sendPoll]
  refine MissesHold.same (s := (s.carry s.nextPolled (s.optionalPart s.nextPolled)).notePart s.nextPolled
    (s.optionalPart s.nextPolled)) ?_ (by simp)
  unfold State.notePart
  split
  · exact (hcarry _ _).setRoute _ (hcarry _ _ _)
  · exact hcarry _ _

theorem MissesHold.acts {u t : State} (a : Acts u t) (h : MissesHold u) : MissesHold t := by
  cases a with
  | hearsRoom running b => exact MissesHold.keptByReplies.receive running h b
  | roomTimesOut under _ => exact MissesHold.keptByReplies.timeout h
  | polls quiet _ => exact h.sendPoll
  | resets cause =>
    intro i
    rw [show (u.takeReset cause).routeRun i = resetRouteRun from look_replicate _ i]
    decide
  | _ => exact h.same (by simp)

theorem MissesHold.step {s t : State} (h : MissesHold s) (hstep : Machine.step s = .next t) : MissesHold t :=
  step_keeps (I := MissesHold) (fun _ _ h => h) (fun _ _ h => h) (fun _ _ a h => h.acts a) h hstep

/-- Settles O5: the five invariants, each kept by every step on its own. -/
theorem stepKeepsCountsAndLists : Obligations.StepKeepsCountsAndLists :=
  ⟨⟨fun _ _ h hstep => h.step hstep, fun _ _ h hstep => h.step hstep⟩, fun _ _ h hstep => h.step hstep,
    fun _ _ h hstep => h.step hstep, fun _ _ h hstep => h.step hstep⟩

end Sys2Proof.Machine
end

section
/-! PROOF. The motion queue (R82, R84): a channel that is not in the queue stays as it is while others join and are granted, and one in
the queue is left waiting or has its stroke started. -/

namespace Sys2Proof.Machine

/-! ### Grants touch channels of the queue alone (R84, R86) -/

/-- What a grant keeps of a channel, whatever its goal. -/
def KeptByGrants (p : Channel → Prop) : Prop :=
  ∀ (r : Channel) (cfg : DamperCfg) (now : Time) (g : Goal), r.goal = some g → p r → p (r.granted cfg now g)

theorem State.grantHead_channel {s : State} {c : ChannelId} (h : c ∉ s.queue) : s.grantHead.channel c = s.channel c := by
  simp only [State.grantHead]
  split
  · rfl
  · next k rest hq =>
    have hck : c ≠ k := fun e => h (by rw [hq, e]; exact List.mem_cons_self)
    split
    · exact State.channel_setChannel_other _ k c _ hck
    · rfl

theorem State.grantHead_queue (s : State) : s.grantHead.queue = s.queue.tail := by
  simp only [State.grantHead]
  split
  · next hq => rw [hq]; rfl
  · next hq =>
    rw [hq]
    split <;> rfl

theorem State.grantHead_keeps {p : Channel → Prop} (hp : KeptByGrants p) {s : State} {c : ChannelId} (h : p (s.channel c)) :
    p (s.grantHead.channel c) := by
  simp only [State.grantHead]
  split
  · exact h
  · next k rest _ =>
    split
    · next g hg =>
      rw [State.channel_setChannel]
      split
      · next hck => exact hp _ _ _ _ hg (hck ▸ h)
      · exact h
    · exact h

theorem State.grantLoop_channel {s : State} {c : ChannelId} (n : Nat) (h : c ∉ s.queue) :
    (s.grantLoop n).channel c = s.channel c := by
  induction n generalizing s with
  | zero => rfl
  | succ n ih =>
    unfold State.grantLoop
    split
    · rw [ih (by rw [State.grantHead_queue]; exact fun hm => h (List.mem_of_mem_tail hm)), State.grantHead_channel h]
    · rfl

theorem State.grantLoop_keeps {p : Channel → Prop} (hp : KeptByGrants p) {s : State} {c : ChannelId} (n : Nat)
    (h : p (s.channel c)) : p ((s.grantLoop n).channel c) := by
  induction n generalizing s with
  | zero => exact h
  | succ n ih =>
    unfold State.grantLoop
    split
    · exact ih (State.grantHead_keeps hp h)
    · exact h

/-- Grants leave a channel that does not wait as it is. -/
theorem State.serveQueue_channel {s : State} {c : ChannelId} (h : c ∉ s.queue) : s.serveQueue.channel c = s.channel c := by
  simp only [State.serveQueue]
  rw [State.grantLoop_channel _ (by simpa using h)]
  exact State.channel_congr (by simp) c

theorem State.serveQueue_keeps {p : Channel → Prop} (hp : KeptByGrants p) {s : State} {c : ChannelId} (h : p (s.channel c)) :
    p (s.serveQueue.channel c) := by
  refine State.grantLoop_keeps hp _ ?_
  rwa [State.channel_congr (s := s) (by simp)]

/-! ### Joins leave the other channels waiting or not, as they were (R82) -/

theorem State.mem_queueWith (s : State) (c k : ChannelId) : k ∈ s.queueWith c ↔ k = c ∨ k ∈ s.queue := by
  have hsplit : k ∈ s.queue ↔ k ∈ s.queue.takeWhile (fun k => !s.standsBehind c k)
      ∨ k ∈ s.queue.dropWhile (fun k => !s.standsBehind c k) := by
    rw [← List.mem_append, List.takeWhile_append_dropWhile]
  simp only [State.queueWith, List.mem_append, List.mem_cons]
  rw [hsplit]
  exact or_left_comm

theorem State.joinQueue_other {s : State} {c k : ChannelId} (g : Goal) (h : k ≠ c) :
    (s.joinQueue c g).channel k = s.channel k ∧ (k ∈ (s.joinQueue c g).queue ↔ k ∈ s.queue) := by
  refine ⟨State.channel_setChannel_other s c k _ h, ?_⟩
  rw [show (s.joinQueue c g).queue = s.queueWith c from rfl, State.mem_queueWith]
  exact or_iff_right h

theorem State.joinHome_other {s : State} {c k : ChannelId} (h : k ≠ c) :
    (s.joinHome c).channel k = s.channel k ∧ (k ∈ (s.joinHome c).queue ↔ k ∈ s.queue) := by
  unfold State.joinHome
  split
  · exact State.joinQueue_other .home h
  · exact ⟨rfl, .rfl⟩

theorem State.adopt_queue_other {s : State} {c k : ChannelId} (h : k ≠ c) : k ∈ (s.adopt c).queue ↔ k ∈ s.queue := by
  simp only [State.adopt]
  split
  · rfl
  · split
    · split
      · exact (State.joinQueue_other _ h).2
      · rfl
    · rfl

theorem State.comeToJoin_queue_other {s : State} {c k : ChannelId} (h : k ≠ c) :
    k ∈ (s.comeToJoin c).queue ↔ k ∈ s.queue := by
  simp only [State.comeToJoin, State.endSettling, State.tryJoin]
  split_ifs
  · exact State.adopt_queue_other h
  · rfl
  · exact (State.joinHome_other h).2
  · exact State.adopt_queue_other h
  · exact (State.joinHome_other h).2
  · rfl

/-- A channel whose time to join has not come stays as it is. -/
theorem State.comeToJoin_of_not_comes {s : State} {c : ChannelId} (h : ¬ComesToJoin s s.now c) : s.comeToJoin c = s := by
  have hsettle : (s.channel c).settleOver s.now = false := by
    rw [Bool.eq_false_iff]
    intro hs
    simp only [Channel.settleOver, Bool.and_eq_true, decide_eq_true_eq] at hs
    obtain ⟨hstate, hdue⟩ := hs
    refine h (.inr ⟨hstate, ?_⟩)
    cases hd : (s.channel c).deadDue with
    | none => simp [hd, due] at hdue
    | some d => exact ⟨d, rfl, by simpa [hd, due] using hdue⟩
  have hjoin : s.joinsNow c = false := by
    rw [Bool.eq_false_iff]
    intro hj
    simp only [State.joinsNow, State.canJoin, Channel.idleWaiting, Bool.and_eq_true, Bool.or_eq_true,
      decide_eq_true_eq, Bool.not_eq_true', Option.isNone_iff_eq_none] at hj
    obtain ⟨⟨hlatch, hrun⟩, hidle | hunhomed⟩ := hj
    · obtain ⟨⟨hidle, htarget⟩, htaken⟩ := hidle
      exact h (.inl ⟨hlatch, hrun, .inr ⟨hidle, htarget, htaken⟩⟩)
    · exact h (.inl ⟨hlatch, hrun, .inl hunhomed⟩)
  simp [State.comeToJoin, hsettle, hjoin]

theorem ComesToJoin.congr {s t : State} {now : Time} {c : ChannelId} (supply : t.supply = s.supply)
    (homing : t.homingDue = s.homingDue) (channel : t.channel c = s.channel c) (h : ComesToJoin t now c) :
    ComesToJoin s now c := by
  unfold ComesToJoin at *
  rwa [supply, homing, channel] at h

/-- The channels that join before `c` leave `c`, those above it and those whose time has not come as they are. -/
theorem State.joinBelow_rests {s : State} {c k : ChannelId} (h : c ≤ k ∨ ¬ComesToJoin s s.now k) :
    (s.joinBelow c).channel k = s.channel k ∧ (k ∈ (s.joinBelow c).queue ↔ k ∈ s.queue) := by
  have hkeep : ∀ (j : ChannelId) (t : State),
      ((t.now = s.now ∧ t.supply = s.supply ∧ t.homingDue = s.homingDue) ∧ t.channel k = s.channel k
        ∧ (k ∈ t.queue ↔ k ∈ s.queue)) →
      let u := if j < c then t.comeToJoin j else t
      (u.now = s.now ∧ u.supply = s.supply ∧ u.homingDue = s.homingDue) ∧ u.channel k = s.channel k
        ∧ (k ∈ u.queue ↔ k ∈ s.queue) := by
    rintro j t ⟨⟨hnow, hsupply, hhoming⟩, hchannel, hqueue⟩
    dsimp only
    split
    · next hj =>
      refine ⟨by simp [hnow, hsupply, hhoming], ?_⟩
      by_cases hkj : k = j
      · subst hkj
        have hrest : ¬ComesToJoin t t.now k := fun hc =>
          (h.resolve_left (fun hck => absurd hj (Nat.not_lt.2 hck))) (hnow ▸ hc.congr hsupply hhoming hchannel)
        rw [State.comeToJoin_of_not_comes hrest]
        exact ⟨hchannel, hqueue⟩
      · exact ⟨(t.comeToJoin_other j k hkj).trans hchannel, (State.comeToJoin_queue_other hkj).trans hqueue⟩
    · exact ⟨⟨hnow, hsupply, hhoming⟩, hchannel, hqueue⟩
  exact (State.forIx_induct _ _ s ⟨⟨rfl, rfl, rfl⟩, rfl, .rfl⟩ hkeep).2

end Sys2Proof.Machine
end

section
/-! PROOF. The silence and seek timers of a channel (R93 to R97). -/

namespace Sys2Proof.Machine

theorem State.silenceExpired_seeking {s : State} {c : ChannelId} (h : (s.channel c).state = .seeking) :
    s.silenceExpired c = (s.setChannel c ((s.channel c).endStop (s.damperCfg c) s.now)).serveQueue := by
  simp [State.silenceExpired, h]

theorem State.silenceExpired_first {s : State} {c : ChannelId} (h : (s.channel c).state = .moving)
    (hr : (s.channel c).retry = false) :
    s.silenceExpired c = (s.setChannel c ((s.channel c).firstStall (s.damperCfg c) s.now)).serveQueue := by
  simp [State.silenceExpired, h, hr]

theorem State.silenceExpired_second {s : State} {c : ChannelId} (h : (s.channel c).state = .moving)
    (hr : (s.channel c).retry = true) : s.silenceExpired c = (s.enterFault c (s.channel c).homed).serveQueue := by
  simp [State.silenceExpired, h, hr]

/-- A channel whose record is written and that does not wait keeps that record through the grants. -/
theorem State.setChannel_serveQueue {s : State} {c : ChannelId} (r : Channel) (h : c ∉ s.queue) :
    (s.setChannel c r).serveQueue.channel c = r := by
  rw [State.serveQueue_channel (s := s.setChannel c r) h, State.channel_setChannel_same]

theorem State.enterFault_channel (s : State) (c : ChannelId) (homed : Bool) :
    (s.enterFault c homed).channel c =
      { (s.channel c).driveOff (s.damperCfg c) s.now with state := .fault, homed := homed, taken := false } := by
  rw [State.channel_congr (s := s.setChannel c
    { (s.channel c).driveOff (s.damperCfg c) s.now with state := .fault, homed := homed, taken := false })
    (by simp [State.enterFault]), State.channel_setChannel_same]

theorem State.enterFault_other (s : State) (c k : ChannelId) (homed : Bool) (h : k ≠ c) :
    (s.enterFault c homed).channel k = s.channel k := by
  rw [State.channel_congr (s := s.setChannel c
    { (s.channel c).driveOff (s.damperCfg c) s.now with state := .fault, homed := homed, taken := false })
    (by simp [State.enterFault]), State.channel_setChannel_other _ _ _ _ h]

/-- A fault marks the zone and raises DAMPER FAULT (R25, R97). -/
theorem State.enterFault_marks (s : State) (c : ChannelId) (homed : Bool) :
    (s.enterFault c homed).serveQueue.zones = put s.zones c { s.zone c with damperFault := true }
      ∧ (s.enterFault c homed).serveQueue.events = afterRaise s.events .damperFault := by
  constructor
  · simp [State.enterFault, State.zone]
  · simp [State.enterFault]

theorem State.enterFault_queue (s : State) (c : ChannelId) (homed : Bool) : (s.enterFault c homed).queue = s.queue := by
  simp [State.enterFault]

theorem State.silenceExpired_other {s : State} {c k : ChannelId} (h : k ≠ c) (hk : k ∉ s.queue) :
    (s.silenceExpired c).channel k = s.channel k := by
  have hset : ∀ r : Channel, (s.setChannel c r).serveQueue.channel k = s.channel k := fun r => by
    rw [State.serveQueue_channel (s := s.setChannel c r) hk, State.channel_setChannel_other _ _ _ _ h]
  simp only [State.silenceExpired]
  split
  case h_1 => exact hset _
  case h_2 =>
    split
    · rw [State.serveQueue_channel (by rwa [State.enterFault_queue]), State.enterFault_other _ _ _ _ h]
    · exact hset _
  all_goals rfl

/-- Settles O52: each outcome of the two timers, by the state of the channel. -/
theorem strokesEndByTheirTimers : Obligations.StrokesEndByTheirTimers := by
  refine ⟨fun s dt c d hrun hq hdue hle => ?_, fun s dt c d hrun hq hdue hle => ?_⟩
  · have hguard := running_and_elapse dt hrun (due_of_le hdue hle)
    refine ⟨(s.elapse dt).silenceExpired c, congrArg Host.Outcome.next (if_pos hguard), ?_, ?_, ?_, ?_, ?_⟩
    · intro hstate x hx
      rw [State.silenceExpired_seeking (s := s.elapse dt) hstate]
      refine ⟨?_, by simp, by simp⟩
      rw [State.setChannel_serveQueue (s := s.elapse dt) _ hq]
      have hdir : ((s.elapse dt).channel c).dir = some x := hx
      simp only [Channel.endStop, hdir]
      cases x <;> rfl
    · intro hstate hretry
      rw [State.silenceExpired_first (s := s.elapse dt) hstate hretry]
      refine ⟨?_, by simp, by simp⟩
      rw [State.setChannel_serveQueue (s := s.elapse dt) _ hq]
      rfl
    · intro hstate hretry
      rw [State.silenceExpired_second (s := s.elapse dt) hstate hretry]
      refine ⟨?_, (s.elapse dt).enterFault_marks c _⟩
      rw [State.serveQueue_channel (by rw [State.enterFault_queue]; exact hq), State.enterFault_channel]
      rfl
    · ext1 <;> simp
    · exact fun c' hne hc' => State.silenceExpired_other hne hc'
  · have hguard := running_and_elapse dt hrun (due_of_le hdue hle)
    have hqueue : ∀ c', c' ∉ s.queue → c' ∉ ((s.elapse dt).enterFault c false).queue := fun c' hc' => by
      rwa [State.enterFault_queue]
    obtain ⟨hzones, hevents⟩ := (s.elapse dt).enterFault_marks c false
    refine ⟨(s.elapse dt).seekExpired c, congrArg Host.Outcome.next (if_pos hguard), ?_, ?_, ?_⟩
    · ext1
      case zones => exact hzones
      case events => exact hevents
      all_goals simp
    · rw [State.seekExpired, State.serveQueue_channel (hqueue c hq), State.enterFault_channel]
      rfl
    · intro c' hne hc'
      rw [State.seekExpired, State.serveQueue_channel (hqueue c' hc'), State.enterFault_other _ _ _ _ hne]
      rfl

end Sys2Proof.Machine
end

section
/-! PROOF. A valid reply on the room line: what it does before its contents are acted on, and how a management request is answered
(R112 to R114, R122, R127, R184). -/

namespace Sys2Proof.Machine

/-! ### Judging -/

/-- The room reply classes are known classes. -/
theorem knownClasses_of_roomFits {cls : Byte} {p : List Byte} (h : roomFits cls p = true) : cls ∈ knownClasses := by
  unfold roomFits at h
  split_ifs at h with h1 h2 h3 h4 h5
  · rw [h1]; decide
  · rw [h2]; decide
  · rw [h3]; decide
  · rw [h4]; decide
  · rw [h5]; decide

theorem IsReply.judge {bytes : List Byte} {source cls : Byte} {p : List Byte} (h : IsReply bytes source roomFits cls p) :
    judge source roomFits bytes = .valid cls p := by
  have hknown := knownClasses_of_roomFits h.fits
  simp [Machine.judge, h.sound, h.toUs, h.fromNode, h.isClass, h.payload, h.fits, hknown]

variable {s : State} {dt : Nat} {b : Burst} {w : RoomWait} {cls : Byte} {p : List Byte}

theorem Hears.verdict (h : Hears s dt b w cls p) : (s.elapse dt).roomVerdict b = .valid cls p := by
  obtain ⟨hfrom, hto⟩ := h.inTime
  have hbegins : (s.elapse dt).beginsWithin b.age w.closes (ms 30) = true := by
    rw [State.beginsWithin, Bool.and_eq_true, decide_eq_true_eq, decide_eq_true_eq]
    exact ⟨hfrom, hto⟩
  simp [State.roomVerdict, h.running, h.waiting, hbegins, h.reply.judge]

theorem State.creditEntry_routes (s : State) (a : Byte) : (s.creditEntry a).routes = creditedRoutes s a := by
  unfold State.creditEntry creditedRoutes
  cases s.entryOf a <;> rfl

theorem State.noticeOutcome_events (s : State) (carried taken : Bool) :
    (s.noticeOutcome carried taken).events = endedOffer s.events carried taken := by
  cases carried with
  | false => rfl
  | true =>
    simp only [State.noticeOutcome, if_true, State.endOffer, endedOffer]
    cases s.events.offer <;> rfl

/-- A valid reply closes the wait, is credited to its entry, decides the notice and then acts (R113, R114, R127). -/
theorem Hears.receive (h : Hears s dt b w cls p) :
    (s.elapse dt).receiveRoom b = (afterReply s dt w p).takeReply (s.senderAt w.address) cls p := by
  set u := (s.elapse dt).countRoom (.valid cls p) with hu
  have hwait : u.room.wait = some w := h.waiting
  have hsender : u.senderAt w.address = s.senderAt w.address := rfl
  have hafter : (u.closeRoomWait.creditEntry w.address).noticeOutcome w.notice (noticeTaken p) = afterReply s dt w p := by
    have hcredit : creditedRoutes u.closeRoomWait w.address = creditedRoutes s w.address := rfl
    ext1
    case events => rw [State.noticeOutcome_events]; simp [hu, State.countRoom, State.closeRoomWait, afterReply]
    case routes =>
      simp only [State.noticeOutcome_frame, State.creditEntry_routes, hcredit, afterReply]
    case room => simp [hu, State.countRoom, State.closeRoomWait, afterReply, Verdict.count, Counters.goodFrame, oneGood]
    all_goals simp [hu, State.countRoom, State.closeRoomWait, afterReply]
  rw [State.receiveRoom_arrives _ _ h.arrives, State.judgeRoom, h.verdict]
  simp only [← hu, State.roomAnswered, hwait, hsender, hafter]

theorem afterReply_tables : (afterReply s dt w p).tables = s.tables := rfl

/-- The sender of a reply is read from the Route Table alone. -/
theorem State.roleOf_congr {t : State} (h : t.tables = s.tables) (x : Sender) : t.roleOf x = s.roleOf x := by
  simp only [State.roleOf, State.routeCfg_congr h]

/-! ### Management requests (R114, R184) -/

theorem clsManageRequest_reply (u : State) (x : Sender) (p : List Byte) :
    u.takeReply x clsManageRequest p = u.takeRequest x (byteAt p 1) (p.drop 2) := by
  simp [State.takeReply, clsManageRequest, clsRoomReport, clsSetpointChange, clsPlantQuery]

/-- A request that is no RESTART is answered and no more. -/
theorem State.sendAnswer_eq {t : State} {a code : Byte} (hcode : requestOf code ≠ some .restart) (r : Result)
    (data : List Byte) : t.sendAnswer a code r data = answeredWith t a code r data := by
  have hlen : ([code, u8 r.code] ++ data).length = 2 + data.length := by simp [Nat.add_comm 2]
  have hbytes : 2 + data.length + 6 = data.length + 8 := by omega
  simp only [State.sendAnswer, answeredWith, answerEnd, State.setRoom, hcode, false_and, if_false, hlen, hbytes, frameGap]

/-- A request from a sender that may manage the part is performed and answered. -/
theorem Requests.receive {code : Byte} {q : List Byte} {r : Request} (h : Requests s dt b w code q p)
    (hr : requestOf code = some r) (hrestart : r ≠ .restart) :
    (s.elapse dt).receiveRoom b =
      answeredWith ((afterReply s dt w p).perform r q).state w.address code ((afterReply s dt w p).perform r q).result
        ((afterReply s dt w p).perform r q).data := by
  have hmay : (afterReply s dt w p).mayManage (s.senderAt w.address) = true :=
    decide_eq_true ((State.roleOf_congr afterReply_tables _).trans h.tool)
  have hmanage : (afterReply s dt w p).manage (s.senderAt w.address) code q = (afterReply s dt w p).perform r q := by
    simp [State.manage, hmay, hr]
  rw [h.hears.receive, clsManageRequest_reply, h.hasCode, h.hasParams]
  simp only [State.takeRequest, hmanage]
  exact State.sendAnswer_eq (by rw [hr]; simpa using hrestart) _ _

end Sys2Proof.Machine
end

section
/-! PROOF. RELEASE DAMPER (R98): a channel in FAULT is unhomed and joins for HOME when it can. -/

namespace Sys2Proof.Machine

/-- The conditions on which an UNHOMED channel joins for HOME at once (R82, R102). -/
def State.MayHome (s : State) (c : ChannelId) : Prop :=
  s.supply.latch = false ∧ s.homingDue = none ∧ (s.channel c).lastOff + ms (s.channel c).restMs ≤ s.now

theorem State.canJoin_iff (s : State) (c : ChannelId) :
    s.canJoin c = true ↔ s.supply.latch = false ∧ (s.channel c).lastOff + ms (s.channel c).restMs ≤ s.now := by
  simp [State.canJoin]

theorem State.joinHome_joins {s : State} {c : ChannelId} (hstate : (s.channel c).state = .unhomed) (h : s.MayHome c) :
    s.joinHome c = s.joinQueue c .home := by
  obtain ⟨hlatch, hhoming, hrun⟩ := h
  exact if_pos ⟨hstate, (s.canJoin_iff c).2 ⟨hlatch, hrun⟩, hhoming⟩

theorem State.joinHome_stays {s : State} {c : ChannelId} (h : ¬s.MayHome c) : s.joinHome c = s := by
  refine if_neg fun ⟨_, hjoin, hhoming⟩ => ?_
  obtain ⟨hlatch, hrun⟩ := (s.canJoin_iff c).1 hjoin
  exact h ⟨hlatch, hhoming, hrun⟩

/-- A channel that has joined for HOME waits in the queue, or its stroke to the closed end has been started. -/
def Channel.ForHome (r : Channel) : Prop :=
  r.goal = some .home ∧ (r.state = .queued ∨ r.state = .seeking) ∧ r.homed = false ∧ r.retry = false ∧ r.taken = false

theorem Channel.ForHome.granted : KeptByGrants Channel.ForHome := by
  rintro r cfg now g hg ⟨hgoal, -, hmarks⟩
  obtain rfl : g = .home := by rw [hg] at hgoal; exact Option.some.inj hgoal
  exact ⟨hg, .inr rfl, hmarks⟩

/-- The channel of a release, before it joins (R98). -/
def Channel.released (r : Channel) : Channel := { r with state := .unhomed, homed := false, retry := false, taken := false }

/-- The part once a channel has been released, before any channel joins. -/
def State.unfaulted (s : State) (c : ChannelId) : State :=
  (s.setChannel c (s.channel c).released).setZone c { s.zone c with damperFault := false }

theorem State.releaseChannel_eq (s : State) (c : ChannelId) :
    s.releaseChannel c = ((s.unfaulted c).joinHomeInOrder c).serveQueue := rfl

theorem State.unfaulted_same (s : State) (c : ChannelId) : (s.unfaulted c).channel c = (s.channel c).released :=
  State.channel_setChannel_same s c _

theorem State.unfaulted_other (s : State) (c k : ChannelId) (h : k ≠ c) : (s.unfaulted c).channel k = s.channel k :=
  State.channel_setChannel_other s c k _ h

variable {s : State} {c : ChannelId}

/-- The released channel once the channels below it have joined: as released, and not in the queue. -/
theorem State.released_before_join (hq : c ∉ s.queue) :
    ((s.unfaulted c).joinBelow c).channel c = (s.channel c).released ∧ c ∉ ((s.unfaulted c).joinBelow c).queue := by
  obtain ⟨hchannel, hqueue⟩ := State.joinBelow_rests (s := s.unfaulted c) (.inl (le_refl c))
  exact ⟨hchannel.trans (s.unfaulted_same c), fun hm => hq (hqueue.1 hm)⟩

theorem State.mayHome_released (hq : c ∉ s.queue) : ((s.unfaulted c).joinBelow c).MayHome c ↔ s.MayHome c := by
  unfold State.MayHome
  rw [(State.released_before_join hq).1]
  simp [State.unfaulted, Channel.released]

theorem State.releaseChannel_joins (hq : c ∉ s.queue) (h : s.MayHome c) : ((s.releaseChannel c).channel c).ForHome := by
  obtain ⟨hchannel, -⟩ := State.released_before_join hq
  rw [State.releaseChannel_eq, State.joinHomeInOrder,
    State.joinHome_joins (by rw [hchannel]; rfl) ((State.mayHome_released hq).2 h)]
  refine State.serveQueue_keeps Channel.ForHome.granted ?_
  have hjoined : (((s.unfaulted c).joinBelow c).joinQueue c .home).channel c =
      { ((s.unfaulted c).joinBelow c).channel c with
        state := .queued, goal := some .home, joined := ((s.unfaulted c).joinBelow c).now } :=
    State.channel_setChannel_same _ c _
  rw [hjoined, hchannel]
  exact ⟨rfl, .inl rfl, rfl, rfl, rfl⟩

theorem State.releaseChannel_waits (hq : c ∉ s.queue) (h : ¬s.MayHome c) :
    (s.releaseChannel c).channel c = (s.channel c).released := by
  obtain ⟨hchannel, hqueue⟩ := State.released_before_join hq
  rw [State.releaseChannel_eq, State.joinHomeInOrder, State.joinHome_stays (fun hm => h ((State.mayHome_released hq).1 hm)),
    State.serveQueue_channel hqueue, hchannel]

/-- A release leaves the other channels that do not wait as they are, but for one that joins before it (R82). -/
theorem State.releaseChannel_other {k : ChannelId} (hk : k ≠ c) (hq : k ∉ s.queue) (h : c < k ∨ ¬ComesToJoin s s.now k) :
    (s.releaseChannel c).channel k = s.channel k := by
  have hrest : c ≤ k ∨ ¬ComesToJoin (s.unfaulted c) (s.unfaulted c).now k :=
    h.imp le_of_lt fun hn hc => hn (ComesToJoin.congr (t := s.unfaulted c) rfl rfl (s.unfaulted_other c k hk) hc)
  obtain ⟨hchannel, hqueue⟩ := State.joinBelow_rests hrest
  obtain ⟨hjoined, hjoinedQueue⟩ := State.joinHome_other (s := (s.unfaulted c).joinBelow c) hk
  rw [State.releaseChannel_eq, State.joinHomeInOrder,
    State.serveQueue_channel (fun hm => hq (hqueue.1 (hjoinedQueue.1 hm))), hjoined, hchannel, State.unfaulted_other _ _ _ hk]

theorem State.releaseChannel_zones (s : State) (c : ChannelId) :
    (s.releaseChannel c).zones = put s.zones c { s.zone c with damperFault := false } := by
  simp [State.releaseChannel, State.zone]

theorem ix?_val {n : Nat} (i : Fin n) : ix? n i.val = some i := dif_pos i.isLt

theorem ix?_ge {n i : Nat} (h : n ≤ i) : ix? n i = none := dif_neg (Nat.not_lt.2 h)

theorem State.releaseDamper_of_channel {q : List Byte} (hlen : 1 ≤ q.length) (hc : (byteAt q 0).toNat = c.val) :
    s.releaseDamper q = if (s.channel c).state = .fault then (s.releaseChannel c).grant [] else s.refuse .state := by
  have hne : q.isEmpty = false := by
    cases q with
    | nil => simp at hlen
    | cons x q => rfl
  simp only [State.releaseDamper, hne, Bool.false_eq_true, if_false, hc, ix?_val, State.faulted, decide_eq_true_eq]

/-- A channel in FAULT is released (R98). -/
theorem State.releaseDamper_faulted {q : List Byte} (hlen : 1 ≤ q.length) (hc : (byteAt q 0).toNat = c.val)
    (h : (s.channel c).state = .fault) : s.releaseDamper q = (s.releaseChannel c).grant [] :=
  (State.releaseDamper_of_channel hlen hc).trans (if_pos h)

/-- A channel not in FAULT is not released (R98). -/
theorem State.releaseDamper_unfaulted {q : List Byte} (hlen : 1 ≤ q.length) (hc : (byteAt q 0).toNat = c.val)
    (h : (s.channel c).state ≠ .fault) : s.releaseDamper q = s.refuse .state :=
  (State.releaseDamper_of_channel hlen hc).trans (if_neg h)

/-- Settles O34: the answer by the channel's state, and the released channel by whether it may join at once. -/
theorem releaseDamperIsDecided : Obligations.ReleaseDamperIsDecided := by
  intro s dt b w q p hreq hlen
  dsimp only
  have hexec : exec (.releaseDamper dt b) s = .next (answeredWith ((afterReply s dt w p).releaseDamper q).state w.address
      0x09 ((afterReply s dt w p).releaseDamper q).result ((afterReply s dt w p).releaseDamper q).data) :=
    congrArg Host.Outcome.next (hreq.receive (r := .releaseDamper) (by decide) (by decide))
  refine ⟨fun c hc hfault hq => ?_, fun c hc hfault => ?_, fun hbig => ?_⟩
  · set u := afterReply s dt w p with hu
    have hqu : c ∉ u.queue := hq
    refine ⟨u.releaseChannel c, ?_, ?_, ?_⟩
    · rw [hexec, State.releaseDamper_faulted (s := u) hlen hc hfault]
      rfl
    · ext1
      case zones => exact u.releaseChannel_zones c
      all_goals simp
    have hmarks : ((u.releaseChannel c).channel c).homed = false ∧ ((u.releaseChannel c).channel c).retry = false
        ∧ ((u.releaseChannel c).channel c).taken = false ∧ (((u.releaseChannel c).channel c).state = .unhomed
          ∨ (((u.releaseChannel c).channel c).goal = some .home ∧ (((u.releaseChannel c).channel c).state = .queued
            ∨ ((u.releaseChannel c).channel c).state = .seeking))) := by
      by_cases hmay : u.MayHome c
      · obtain ⟨hgoal, hstate, hhomed, hretry, htaken⟩ := State.releaseChannel_joins hqu hmay
        exact ⟨hhomed, hretry, htaken, .inr ⟨hgoal, hstate⟩⟩
      · rw [State.releaseChannel_waits hqu hmay]
        exact ⟨rfl, rfl, rfl, .inl rfl⟩
    obtain ⟨hhomed, hretry, htaken, hstate⟩ := hmarks
    refine ⟨hhomed, hretry, htaken, hstate, ⟨fun hlatch hhoming hruns => ?_, fun hno => ?_⟩, fun c' hne hq' hc' => ?_⟩
    · obtain ⟨hgoal, hjoined, -⟩ := State.releaseChannel_joins hqu ⟨hlatch, hhoming, hruns⟩
      exact ⟨hgoal, hjoined⟩
    · have hmay : ¬u.MayHome c := by
        rintro ⟨hlatch, hhoming, hruns⟩
        rcases hno with h | h | h
        · exact Bool.false_ne_true (hlatch.symm.trans h)
        · exact h hhoming
        · exact h hruns
      rw [State.releaseChannel_waits hqu hmay]
      rfl
    · exact State.releaseChannel_other hne hq' hc'
  · rw [hexec, State.releaseDamper_unfaulted (s := afterReply s dt w p) hlen hc hfault]
    rfl
  · have hnone : ix? 8 (byteAt q 0).toNat = none := ix?_ge hbig
    have hrefused : (afterReply s dt w p).releaseDamper q = (afterReply s dt w p).refuse .range := by
      simp only [State.releaseDamper, hnone]
      split <;> rfl
    rw [hexec, hrefused]
    rfl

end Sys2Proof.Machine
end

section
/-! PROOF. ROOM REPORT (R5 to R11, R124): readings, zone switch and fan request. -/

namespace Sys2Proof.Machine

/-! ### A report loses no zone -/

theorem State.isLost_eq_false {s : State} {z : ZoneId} (h : (s.zone z).expired = false) : s.isLost z = false := by
  simp [State.isLost, h]

/-- A zone whose loss timer has not expired does not enter LOST. -/
theorem State.deriveStatus_events_of_running {s : State} {z : ZoneId} (h : (s.zone z).expired = false) :
    (s.deriveStatus z).events = s.events := by
  refine State.deriveStatus_events fun hl => ?_
  rw [State.statusOf_eq_lost_iff, State.isLost_eq_false h] at hl
  exact Bool.false_ne_true hl.2

/-- Readings recover a zone or leave it as it was, so they raise nothing (R8). -/
theorem State.takeReadings_events (s : State) (i : RouteId) (z : ZoneId) (a b : Option Int) :
    (s.takeReadings i z a b).events = s.events := by
  have heq := s.takeReadings_eq i z a b
  cases hb : bringsReading a b with
  | false =>
    simp only [hb, Bool.false_and, Bool.false_eq_true, if_false] at heq
    rw [heq]
    simp
  | true =>
    simp only [hb, Bool.true_and, if_true] at heq
    rw [heq]
    split
    · rw [State.deriveStatus_events_of_running]
      · simp
      · rw [State.recombine_same, State.heardZone_same]
        rfl
    · simp

/-- A zone whose switch is heeded is not lost, so the switch raises nothing (R8, R11). -/
theorem State.takeSwitch_events (s : State) (z : ZoneId) (on fan : Bool) : (s.takeSwitch z on fan).events = s.events := by
  rw [State.takeSwitch_eq]
  dsimp only
  split
  · next hh =>
    have hrun : ((s.setZone z { s.zone z with switchOn := on, fan := fan }).zone z).expired = false := by
      simp only [State.heedsSwitch, Bool.and_eq_true, Bool.not_eq_true'] at hh
      rw [State.zone_setZone_same]
      exact hh.2
    split
    · exact State.leavePlay_events (State.isLost_eq_false hrun)
    · split
      · exact State.deriveStatus_events_of_running hrun
      · rfl
  · rfl

/-! ### A status that a switch does not move -/

/-- A switch that changes nothing that counts leaves the status as the rules give it. -/
theorem State.takeSwitch_statusOf {s : State} {z : ZoneId} {on fan : Bool}
    (h : (s.zoneCfg z).enabled = false ∨ (on = (s.zone z).switchOn ∧ fan = (s.zone z).fan)) :
    (s.takeSwitch z on fan).statusOf z = s.statusOf z := by
  rcases h with hoff | ⟨hon, hfan⟩
  · rw [State.statusOf_disabled hoff, State.statusOf_disabled (by rw [State.zoneCfg_congr (s := s) (by simp)]; exact hoff)]
  · have hzone := s.takeSwitch_same z on fan
    have hstays : ((s.zone z).switchOn && !on) = false := by rw [hon]; simp
    simp only [Bool.and_assoc, hstays, Bool.and_false, Bool.false_eq_true, if_false] at hzone
    apply State.statusOf_congr z (by simp) (by simp) (by simp) (State.house_congr (by simp))
    all_goals rw [hzone]
    · exact hon
    · exact hfan

/-! ### What a report takes (R124) -/

/-- A report of an entry of a zone without its setpoints part: readings, and from a PANEL the switch and the fan request. -/
def State.takesParts (u : State) (panel : Bool) (i : RouteId) (z : ZoneId) (r : RoomReport) : State :=
  if panel then (u.takeReadings i z r.temp r.hum).takeSwitch z r.switchOn r.fan else u.takeReadings i z r.temp r.hum

@[simp] theorem State.takesParts_frame (u : State) (panel : Bool) (i : RouteId) (z : ZoneId) (r : RoomReport) :
    (u.takesParts panel i z r).now = u.now ∧ (u.takesParts panel i z r).tables = u.tables ∧
      (u.takesParts panel i z r).arbiter = u.arbiter ∧ (u.takesParts panel i z r).command = u.command ∧
      (u.takesParts panel i z r).computation = u.computation ∧
      (u.takesParts panel i z r).routes = put u.routes i ((u.routeRun i).withReadings r.temp r.hum u.now) ∧
      (u.takesParts panel i z r).events = u.events := by
  cases panel <;> simp [State.takesParts, State.takeSwitch_events, State.takeReadings_events]

theorem State.takesParts_other (u : State) (panel : Bool) (i : RouteId) (z z' : ZoneId) (r : RoomReport) (h : z' ≠ z) :
    (u.takesParts panel i z r).zone z' = u.zone z' := by
  unfold State.takesParts
  split
  · rw [State.takeSwitch_other _ _ _ _ _ h, State.takeReadings_other _ _ _ _ _ _ h]
  · exact State.takeReadings_other _ _ _ _ _ _ h

/-- Whether a report's switch is heeded: the zone is enabled and does not stay lost (R11). -/
def State.playsAfter (u : State) (panel : Bool) (z : ZoneId) (r : RoomReport) : Bool :=
  panel && (u.zoneCfg z).enabled && !((u.zone z).expired && !bringsReading r.temp r.hum)

theorem State.heedsSwitch_takeReadings {u : State} {i : RouteId} {z : ZoneId} {r : RoomReport}
    (hsource : u.hasSource z = true) :
    (u.takeReadings i z r.temp r.hum).heedsSwitch z = u.playsAfter true z r := by
  have hexp : ((u.takeReadings i z r.temp r.hum).zone z).expired = ((u.zone z).expired && !bringsReading r.temp r.hum) := by
    rw [State.takeReadings_same]
    cases bringsReading r.temp r.hum <;> simp [ZoneRun.expired]
  rw [State.heedsSwitch, State.playsAfter, hexp, State.zoneCfg_congr (s := u) (by simp),
    State.hasSource_congr (s := u) (by simp), hsource, Bool.and_true, Bool.true_and]

/-- The record of the zone after a report's parts have been taken, but for its status. -/
theorem State.takesParts_same {u : State} {panel : Bool} {i : RouteId} {z : ZoneId} {r : RoomReport}
    (hsource : u.hasSource z = true) :
    let v := u.takesParts panel i z r
    let leaves := u.playsAfter panel z r && (u.zone z).switchOn && !r.switchOn
    v.zone z =
      { u.zone z with
        t := combine (v.freshReadings (·.temp) z)
        h := combine (v.freshReadings (·.hum) z)
        lastFresh := if bringsReading r.temp r.hum then some u.now else (u.zone z).lastFresh
        loss := if bringsReading r.temp r.hum then .running (u.now + sec 60) else (u.zone z).loss
        switchOn := if panel then r.switchOn else (u.zone z).switchOn
        fan := if panel then r.fan else (u.zone z).fan
        call := if leaves then .none else (u.zone z).call
        demand := if leaves then 0 else (u.zone z).demand
        unmet := if leaves then 0 else (u.zone z).unmet
        status := (v.zone z).status } := by
  cases panel with
  | false =>
    simp only [State.takesParts, State.playsAfter, Bool.false_and, Bool.false_eq_true, if_false]
    rw [State.takeReadings_same]
  | true =>
    have hfresh : ∀ pick, ((u.takeReadings i z r.temp r.hum).takeSwitch z r.switchOn r.fan).freshReadings pick z =
        (u.takeReadings i z r.temp r.hum).freshReadings pick z := fun pick =>
      State.freshReadings_congr (by simp) (by simp) (by simp) pick z
    simp only [State.takesParts, if_true]
    rw [State.takeSwitch_same, State.heedsSwitch_takeReadings hsource, hfresh, hfresh, State.takeReadings_same]

/-- The status of the zone after a report's parts have been taken (R23, R24). -/
theorem State.takesParts_status {u : State} {panel : Bool} {i : RouteId} {z : ZoneId} {r : RoomReport}
    (hsource : u.hasSource z = true) :
    let v := u.takesParts panel i z r
    let moves := u.playsAfter panel z r && ((u.zone z).switchOn != r.switchOn)
    let recovers := bringsReading r.temp r.hum && (u.zone z).expired
    (moves = true → (v.zone z).status = v.statusOf z)
      ∧ (recovers = true → (v.zone z).fan = (u.zone z).fan → (v.zone z).status = v.statusOf z)
      ∧ (recovers = false → moves = false → (v.zone z).status = (u.zone z).status) := by
  have hread := u.takeReadings_same i z r.temp r.hum
  cases panel with
  | false =>
    simp only [State.takesParts, State.playsAfter, Bool.false_and, Bool.false_eq_true, if_false]
    refine ⟨False.elim, fun hrec _ => ?_, fun hrec _ => ?_⟩
    · rw [hread, hrec]
      rfl
    · rw [hread, hrec]
      rfl
  | true =>
    have hsame := (u.takeReadings i z r.temp r.hum).takeSwitch_same z r.switchOn r.fan
    have hswitch : ((u.takeReadings i z r.temp r.hum).zone z).switchOn = (u.zone z).switchOn := by rw [hread]
    have hstatus : (((u.takeReadings i z r.temp r.hum).takeSwitch z r.switchOn r.fan).zone z).status =
        if u.playsAfter true z r && ((u.zone z).switchOn != r.switchOn) then
          ((u.takeReadings i z r.temp r.hum).takeSwitch z r.switchOn r.fan).statusOf z
        else ((u.takeReadings i z r.temp r.hum).zone z).status := by
      rw [← hswitch, ← State.heedsSwitch_takeReadings hsource]
      conv_lhs => rw [hsame]
    simp only [State.takesParts, if_true]
    refine ⟨fun hmoves => by rw [hstatus, hmoves]; rfl, fun hrec hfan => ?_, fun hrec hmoves => ?_⟩
    · cases hmoves : u.playsAfter true z r && ((u.zone z).switchOn != r.switchOn) with
      | true => rw [hstatus, hmoves]; rfl
      | false =>
        have hderived : ((u.takeReadings i z r.temp r.hum).zone z).status = (u.takeReadings i z r.temp r.hum).statusOf z := by
          conv_lhs => rw [hread, hrec]
          rfl
        rw [hstatus, hmoves]
        refine hderived.trans (State.takeSwitch_statusOf ?_).symm
        have hfan' : r.fan = ((u.takeReadings i z r.temp r.hum).zone z).fan := by
          rw [hsame] at hfan
          rw [hread]
          exact hfan
        rw [State.zoneCfg_congr (s := u) (by simp), hswitch]
        cases he : (u.zoneCfg z).enabled with
        | false => exact .inl rfl
        | true =>
          refine .inr ⟨?_, hfan'⟩
          obtain ⟨hheard, -⟩ := (Bool.and_eq_true _ _).mp hrec
          rw [State.playsAfter, he, hheard, Bool.not_true, Bool.and_false, Bool.not_false, Bool.and_true, Bool.and_true,
            Bool.true_and, bne_eq_false_iff_eq] at hmoves
          exact hmoves.symm
    · rw [hstatus, hmoves, hread, hrec]
      rfl

end Sys2Proof.Machine
end

section
/-! PROOF. The statements about ROOM REPORT and SETPOINT CHANGE (R13 to R16, R124, R125, R128). -/

namespace Sys2Proof.Machine

theorem validTemp_eq (t : Option Int) : validTemp t = t.filter fun x => decide (0 ≤ x ∧ x ≤ 600) := by
  simp [validTemp, Bool.decide_and]

theorem validHum_eq (h : Option Int) : validHum h = h.filter fun x => decide (0 ≤ x ∧ x ≤ 100) := by
  simp [validHum, Bool.decide_and]

/-- `TakesReport` in the terms of the model's own operations. -/
theorem takesReport_iff {s t : State} {dt : Nat} {i : RouteId} {z : ZoneId} {r : RoomReport} :
    TakesReport s t dt i z r ↔
      let heard := bringsReading r.temp r.hum
      let panel := decide ((s.routeCfg i).role = .panel)
      let plays := s.playsAfter panel z r
      let leaves := plays && (s.zone z).switchOn && !r.switchOn
      let returns := plays && !(s.zone z).switchOn && r.switchOn
      t.routeRun i =
          { (s.routeRun i).withReadings r.temp r.hum (s.now + dt) with
            misses := 0, line := .answering, held := (t.routeRun i).held }
        ∧ (∀ j, j ≠ i → t.routeRun j = s.routeRun j)
        ∧ t.zone z =
          { s.zone z with
            t := combine (t.freshReadings (·.temp) z)
            h := combine (t.freshReadings (·.hum) z)
            lastFresh := if heard then some (s.now + dt) else (s.zone z).lastFresh
            loss := if heard then .running (s.now + dt + sec 60) else (s.zone z).loss
            switchOn := if panel then r.switchOn else (s.zone z).switchOn
            fan := if panel then r.fan else (s.zone z).fan
            call := if leaves then .none else (s.zone z).call
            demand := if leaves then 0 else (s.zone z).demand
            unmet := if leaves then 0 else (s.zone z).unmet
            status := (t.zone z).status
            sh := (t.zone z).sh, sc := (t.zone z).sc, hd := (t.zone z).hd, confirmed := (t.zone z).confirmed }
        ∧ (leaves || returns → (t.zone z).status = t.statusOf z)
        ∧ (heard && (s.zone z).expired → (t.zone z).fan = (s.zone z).fan → (t.zone z).status = t.statusOf z)
        ∧ (!(heard && (s.zone z).expired) && !leaves && !returns → (t.zone z).status = (s.zone z).status)
        ∧ ∀ z', z' ≠ z → t.zone z' = s.zone z' := by
  unfold TakesReport
  simp only [← validTemp_eq, ← validHum_eq]
  exact Iff.rfl

/-- `t` differs from `v` in nothing but the setpoints and the confirmed mark of a zone and the held result of an entry. -/
structure OnlyAnswers (v t : State) (i : RouteId) (z : ZoneId) : Prop where
  rest : t = { v with routes := t.routes, zones := t.zones }
  route : t.routeRun i = { v.routeRun i with held := (t.routeRun i).held }
  routes : ∀ j, j ≠ i → t.routeRun j = v.routeRun j
  zone : t.zone z =
    { v.zone z with
      sh := (t.zone z).sh, sc := (t.zone z).sc, hd := (t.zone z).hd, confirmed := (t.zone z).confirmed }
  zones : ∀ z', z' ≠ z → t.zone z' = v.zone z'

theorem OnlyAnswers.refl (v : State) (i : RouteId) (z : ZoneId) : OnlyAnswers v v i z :=
  ⟨rfl, rfl, fun _ _ => rfl, rfl, fun _ _ => rfl⟩

/-- The readings count alike whatever is held for the entries. -/
theorem freshReadings_of_readings {s t : State} (tables : t.tables = s.tables) (now : t.now = s.now)
    {pick : RouteRun → Option Reading} (h : ∀ i, pick (t.routeRun i) = pick (s.routeRun i)) (z : ZoneId) :
    t.freshReadings pick z = s.freshReadings pick z := by
  simp only [State.freshReadings, h, State.routeCfg_congr tables, now]

namespace OnlyAnswers

variable {v t : State} {i : RouteId} {z : ZoneId}

theorem zonesApart (h : OnlyAnswers v t i z) : SameButZones v t := by
  rw [h.rest]
  exact ⟨rfl, rfl, rfl, rfl⟩

theorem now (h : OnlyAnswers v t i z) : t.now = v.now := by
  rw [h.rest]

theorem statusOf (h : OnlyAnswers v t i z) : t.statusOf z = v.statusOf z := by
  obtain ⟨tables, computation, command, arbiter⟩ := h.zonesApart
  apply State.statusOf_congr z tables computation command (State.house_congr arbiter) <;> rw [h.zone]

theorem freshTemp (h : OnlyAnswers v t i z) : t.freshReadings (·.temp) z = v.freshReadings (·.temp) z := by
  refine freshReadings_of_readings h.zonesApart.1 h.now (fun j => ?_) z
  by_cases hj : j = i
  · subst hj
    rw [h.route]
  · rw [h.routes j hj]

theorem freshHum (h : OnlyAnswers v t i z) : t.freshReadings (·.hum) z = v.freshReadings (·.hum) z := by
  refine freshReadings_of_readings h.zonesApart.1 h.now (fun j => ?_) z
  by_cases hj : j = i
  · subst hj
    rw [h.route]
  · rw [h.routes j hj]

end OnlyAnswers

section
variable {s : State} {dt : Nat} {w : RoomWait} {p : List Byte} {i : RouteId}

theorem creditedRoutes_of_entry (h : s.entryOf w.address = some i) :
    creditedRoutes s w.address = put s.routes i { s.routeRun i with misses := 0, line := .answering } := by
  simp [creditedRoutes, h]

theorem afterReply_routeRun (h : s.entryOf w.address = some i) :
    (afterReply s dt w p).routeRun i = { s.routeRun i with misses := 0, line := .answering } := by
  show look (creditedRoutes s w.address) i = _
  rw [creditedRoutes_of_entry h, look_put_same]

theorem afterReply_routeRun_other (h : s.entryOf w.address = some i) {j : RouteId} (hj : j ≠ i) :
    (afterReply s dt w p).routeRun j = s.routeRun j := by
  show look (creditedRoutes s w.address) j = _
  rw [creditedRoutes_of_entry h, look_put_other _ _ _ _ hj]
  rfl

/-- The entry that holds an address is used. -/
theorem used_of_entryOf {a : Byte} (h : s.entryOf a = some i) : (s.routeCfg i).used = true := by
  have := List.find?_some h
  simp only [Bool.and_eq_true] at this
  exact this.1

/-- A used SENSOR or PANEL entry is a source of its zone (R4). -/
theorem hasSource_of_entry {a : Byte} {z : ZoneId} (h : s.entryOf a = some i) (hz : (s.routeCfg i).zone = some z)
    (hrole : (s.routeCfg i).role = .sensor ∨ (s.routeCfg i).role = .panel) : s.hasSource z = true := by
  rw [State.hasSource, anyIx_iff]
  refine ⟨i, ?_⟩
  rcases hrole with hr | hr <;> simp [RouteCfg.isSourceOf, used_of_entryOf h, hz, hr]

/-- What a report's parts leave is what the manual says of it, whatever becomes of the setpoints and the held result. -/
theorem takesReport_of_parts {t : State} {z : ZoneId} {r : RoomReport} {panel : Bool} (hentry : s.entryOf w.address = some i)
    (hsource : s.hasSource z = true) (hpanel : panel = decide ((s.routeCfg i).role = .panel))
    (h : OnlyAnswers ((afterReply s dt w p).takesParts panel i z r) t i z) : TakesReport s t dt i z r := by
  have hsource' : (afterReply s dt w p).hasSource z = true := hsource
  have hroutes := ((afterReply s dt w p).takesParts_frame panel i z r).2.2.2.2.2.1
  obtain ⟨hmoves, hrecovers, hstays⟩ := State.takesParts_status (panel := panel) (i := i) (r := r) hsource'
  have hsame := State.takesParts_same (panel := panel) (i := i) (r := r) hsource'
  have hplays : (afterReply s dt w p).playsAfter panel z r = s.playsAfter panel z r := rfl
  have hzone : (afterReply s dt w p).zone z = s.zone z := rfl
  have hstatus : (t.zone z).status = (((afterReply s dt w p).takesParts panel i z r).zone z).status := by rw [h.zone]
  have hfan : (t.zone z).fan = (((afterReply s dt w p).takesParts panel i z r).zone z).fan := by rw [h.zone]
  rw [hplays, hzone] at hmoves hstays
  rw [takesReport_iff]
  dsimp only
  rw [← hpanel]
  refine ⟨?_, fun j hj => ?_, ?_, fun hlr => ?_, fun hrec hf => ?_, fun hno => ?_, fun z' hz' => ?_⟩
  · rw [h.route, State.routeRun, hroutes, look_put_same, afterReply_routeRun hentry]
    rfl
  · rw [h.routes j hj, State.routeRun, hroutes, look_put_other _ _ _ _ hj]
    exact afterReply_routeRun_other hentry hj
  · rw [h.freshTemp, h.freshHum, hstatus]
    conv_lhs => rw [h.zone, hsame]
    rfl
  · rw [hstatus, h.statusOf]
    refine hmoves ?_
    cases hp : s.playsAfter panel z r <;> cases hw : (s.zone z).switchOn <;> cases ho : r.switchOn <;>
      simp [hp, hw, ho] at hlr ⊢
  · rw [hstatus, h.statusOf]
    exact hrecovers hrec (hfan.symm.trans hf)
  · rw [hstatus]
    simp only [Bool.and_eq_true, Bool.not_eq_true'] at hno
    obtain ⟨⟨hrec, hl⟩, hr⟩ := hno
    refine hstays hrec ?_
    cases hp : s.playsAfter panel z r <;> cases hw : (s.zone z).switchOn <;> cases ho : r.switchOn <;>
      simp [hp, hw, ho] at hl hr ⊢
  · rw [h.zones z' hz', State.takesParts_other _ _ _ _ _ _ hz']
    rfl

/-! ### The parts of a report by the sender's role (R124) -/

theorem State.takesParts_eq (u : State) (panel : Bool) (i : RouteId) (z : ZoneId) (r : RoomReport) :
    u.takesParts panel i z r =
      { u with routes := (u.takesParts panel i z r).routes, zones := (u.takesParts panel i z r).zones } := by
  ext1
  case events => exact (u.takesParts_frame panel i z r).2.2.2.2.2.2
  all_goals cases panel <;> simp [State.takesParts]

theorem State.roleOf_entry {u : State} {x : Sender} (h : x.entry = some i) : u.roleOf x = some (u.routeCfg i).role := by
  simp [State.roleOf, h]

theorem State.zoneOf_entry {u : State} {x : Sender} (h : x.entry = some i) : u.zoneOf x = (u.routeCfg i).zone := by
  simp [State.zoneOf, h]

/-- The parts of a report from a SENSOR or PANEL entry of a zone. -/
theorem State.reportParts_of_source {u : State} {x : Sender} {z : ZoneId} (r : RoomReport) (h : x.entry = some i)
    (hz : (u.routeCfg i).zone = some z) (hrole : (u.routeCfg i).role = .sensor ∨ (u.routeCfg i).role = .panel) :
    (u.reportReadings x r).reportSwitch x r = u.takesParts (decide ((u.routeCfg i).role = .panel)) i z r := by
  have hread : u.reportReadings x r = u.takeReadings i z r.temp r.hum := by
    unfold State.reportReadings
    rw [State.roleOf_entry h, State.zoneOf_entry h, hz, h]
    rcases hrole with hr | hr <;> rw [hr]
  have hcfg : (u.takeReadings i z r.temp r.hum).routeCfg i = u.routeCfg i := State.routeCfg_congr (by simp) i
  rw [hread]
  unfold State.reportSwitch State.takesParts
  rw [State.roleOf_entry h, State.zoneOf_entry h, hcfg, hz]
  rcases hrole with hr | hr <;> rw [hr] <;> rfl

/-- A sender that is no SENSOR and no PANEL entry has no part of its report taken. -/
theorem State.reportParts_of_other {u : State} {x : Sender} (r : RoomReport)
    (h : ∀ i, x.entry = some i → (u.routeCfg i).role = .tool ∨ (u.routeCfg i).role = .display) :
    (u.reportReadings x r).reportSwitch x r = u := by
  have hrole : u.roleOf x ≠ some .panel ∧ u.roleOf x ≠ some .sensor := by
    cases he : x.entry with
    | some i =>
      rw [State.roleOf_entry he]
      rcases h i he with hr | hr <;> simp [hr]
    | none =>
      rw [State.roleOf, he]
      dsimp only
      split <;> simp
  have hread : u.reportReadings x r = u := by
    unfold State.reportReadings
    split
    · next hr _ => exact absurd hr hrole.1
    · next hr _ => exact absurd hr hrole.2
    · rfl
  rw [hread]
  unfold State.reportSwitch
  split
  · next hr _ => exact absurd hr hrole.1
  · rfl

theorem clsRoomReport_reply (u : State) (x : Sender) (p : List Byte) :
    u.takeReply x clsRoomReport p = u.takeReport x (roomReportOf p) := by
  simp [State.takeReply]

theorem State.takeReport_without {u : State} {x : Sender} {r : RoomReport} (h : r.setpoints = none) :
    u.takeReport x r = (u.reportReadings x r).reportSwitch x r := by
  simp [State.takeReport, h]

theorem State.takeReport_with {u : State} {x : Sender} {r : RoomReport} {v : Setpoints} (h : r.setpoints = some v) :
    u.takeReport x r = ((u.reportReadings x r).reportSwitch x r).reportSetpoints x v := by
  simp [State.takeReport, h]

/-- The parts of a report leave setpoints, confirmed mark and held result alone. -/
theorem State.takesParts_keeps {u : State} {panel : Bool} {z : ZoneId} {r : RoomReport} (hsource : u.hasSource z = true) :
    let v := u.takesParts panel i z r
    ((v.zone z).sh = (u.zone z).sh ∧ (v.zone z).sc = (u.zone z).sc ∧ (v.zone z).hd = (u.zone z).hd
      ∧ (v.zone z).confirmed = (u.zone z).confirmed) ∧ (v.routeRun i).held = (u.routeRun i).held := by
  have hsame := State.takesParts_same (panel := panel) (i := i) (r := r) hsource
  have hroutes := (u.takesParts_frame panel i z r).2.2.2.2.2.1
  dsimp only at hsame ⊢
  refine ⟨by rw [hsame]; exact ⟨rfl, rfl, rfl, rfl⟩, ?_⟩
  rw [State.routeRun, hroutes, look_put_same]
  rfl

/-- Settles O19: the parts of the report, by the sender's role. -/
theorem reportedReadingsAreTaken : Obligations.ReportedReadingsAreTaken := by
  intro s dt b w p hears hnone
  have hexec : exec (.roomReport dt b) s = .next (((afterReply s dt w p).reportReadings (s.senderAt w.address)
      (roomReportOf p)).reportSwitch (s.senderAt w.address) (roomReportOf p)) := by
    refine congrArg Host.Outcome.next (hears.receive.trans ?_)
    rw [show (0x21 : Byte) = clsRoomReport from rfl, clsRoomReport_reply, State.takeReport_without hnone]
  refine ⟨fun i z hentry hz hrole => ?_, fun hother => ?_⟩
  · have hsource := hasSource_of_entry hentry hz hrole
    rw [State.reportParts_of_source (u := afterReply s dt w p) _ hentry hz hrole] at hexec
    obtain ⟨⟨hsh, hsc, hhd, hconfirmed⟩, hheld⟩ := State.takesParts_keeps (u := afterReply s dt w p) (i := i)
      (panel := decide ((s.routeCfg i).role = .panel)) (r := roomReportOf p) hsource
    refine ⟨_, hexec, takesReport_of_parts hentry hsource rfl (.refl _ i z), State.takesParts_eq _ _ _ _ _,
      hsh, hsc, hhd, hconfirmed, hheld.trans ?_⟩
    rw [afterReply_routeRun hentry]
  · rw [hexec, State.reportParts_of_other (u := afterReply s dt w p) _ fun i hi => hother i hi]

/-! ### The setpoints part (R13, R124, R128) -/

theorem State.hold_entry {u : State} {x : Sender} (h : x.entry = some i) (r : HeldResult) :
    u.hold x r = u.setRoute i { u.routeRun i with held := some r } := by
  simp [State.hold, h]

/-- A held result is all that a refused setpoints part leaves. -/
theorem onlyAnswers_hold {v : State} {x : Sender} (h : x.entry = some i) (r : HeldResult) (z : ZoneId) :
    OnlyAnswers v (v.hold x r) i z := by
  rw [State.hold_entry h]
  refine ⟨rfl, ?_, fun j hj => look_put_other _ _ _ _ hj, rfl, fun _ _ => rfl⟩
  rw [State.routeRun_setRoute_same]

/-- New setpoints, the confirmed mark and a held result are all that an accepted setpoints part leaves. -/
theorem onlyAnswers_confirm {v : State} {x : Sender} (h : x.entry = some i) (r : HeldResult) (z : ZoneId) (c : Setpoints) :
    OnlyAnswers v ((v.confirmSetpoints z c).hold x r) i z := by
  have hzone : (v.confirmSetpoints z c).zone z = { (v.zone z).change c with confirmed := true } := by
    simp [State.confirmSetpoints]
  rw [State.hold_entry h]
  refine ⟨rfl, ?_, fun j hj => look_put_other _ _ _ _ hj, ?_, fun z' hz' => ?_⟩
  · rw [State.routeRun_setRoute_same]
    rfl
  · rw [State.zone_setRoute, hzone, ZoneRun.change_eq]
  · rw [State.zone_setRoute, State.confirmSetpoints, State.zone_setZone_other _ _ _ _ hz', State.changeZone_other _ _ _ _ hz']

theorem State.reportSetpoints_of_panel {u : State} {x : Sender} {z : ZoneId} (c : Setpoints) (h : x.entry = some i)
    (hrole : (u.routeCfg i).role = .panel) (hz : (u.routeCfg i).zone = some z) :
    u.reportSetpoints x c =
      if c.wellMarked then (u.confirmSetpoints z c).hold x ⟨.setpoint, .ok, none⟩ else u.hold x ⟨.setpoint, .range, none⟩ := by
  rw [State.reportSetpoints, State.roleOf_entry h, State.zoneOf_entry h, hrole, hz]

theorem State.reportSetpoints_of_other {u : State} {x : Sender} (c : Setpoints) (h : u.roleOf x ≠ some .panel) :
    u.reportSetpoints x c = u.hold x ⟨.setpoint, .rights, none⟩ := by
  unfold State.reportSetpoints
  split
  · next hr _ => exact absurd hr h
  · rfl

theorem State.hold_zone (u : State) (x : Sender) (r : HeldResult) (z : ZoneId) : (u.hold x r).zone z = u.zone z := by
  simp [State.zone]

theorem State.hold_held {u : State} {x : Sender} (h : x.entry = some i) (r : HeldResult) :
    ((u.hold x r).routeRun i).held = some r := by
  rw [State.hold_entry h, State.routeRun_setRoute_same]

theorem State.confirmSetpoints_hold_zone (u : State) (x : Sender) (r : HeldResult) (z : ZoneId) (c : Setpoints) :
    ((u.confirmSetpoints z c).hold x r).zone z = { (u.zone z).change c with confirmed := true } := by
  rw [State.hold_zone]
  simp [State.confirmSetpoints]

/-- What a change makes of the setpoints rests on the setpoints alone (R16). -/
theorem ZoneRun.change_setpoints {a c : ZoneRun} (x : Setpoints) (hsh : a.sh = c.sh) (hsc : a.sc = c.sc) (hhd : a.hd = c.hd) :
    (a.change x).sh = (c.change x).sh ∧ (a.change x).sc = (c.change x).sc ∧ (a.change x).hd = (c.change x).hd := by
  rw [ZoneRun.change_eq, ZoneRun.change_eq]
  simp only [ZoneRun.newHeat, ZoneRun.newCool, ZoneRun.newDry, hsh, hsc, hhd]
  exact ⟨rfl, rfl, trivial⟩

/-- What the parts of a report from an entry of a zone leave, before its setpoints are looked at. -/
theorem reportParts_leave {z : ZoneId} {r : RoomReport} (hentry : s.entryOf w.address = some i)
    (hz : (s.routeCfg i).zone = some z) (hrole : (s.routeCfg i).role = .sensor ∨ (s.routeCfg i).role = .panel) :
    ∃ v, ((afterReply s dt w p).reportReadings (s.senderAt w.address) r).reportSwitch (s.senderAt w.address) r = v
      ∧ v.tables = s.tables ∧ v = { afterReply s dt w p with routes := v.routes, zones := v.zones }
      ∧ ((v.zone z).sh = (s.zone z).sh ∧ (v.zone z).sc = (s.zone z).sc ∧ (v.zone z).hd = (s.zone z).hd
        ∧ (v.zone z).confirmed = (s.zone z).confirmed)
      ∧ ∀ t, OnlyAnswers v t i z → TakesReport s t dt i z r := by
  have hsource := hasSource_of_entry hentry hz hrole
  refine ⟨_, State.reportParts_of_source (u := afterReply s dt w p) _ hentry hz hrole, ?_, State.takesParts_eq _ _ _ _ _,
    (State.takesParts_keeps (u := afterReply s dt w p) hsource).1, fun t => takesReport_of_parts hentry hsource rfl⟩
  exact (State.takesParts_frame _ _ i z r).2.1

/-- Settles O20: the parts of the report, then its setpoints by the sender's role. -/
theorem panelConfirmsSetpoints : Obligations.PanelConfirmsSetpoints := by
  intro s dt b w p x hears hsome
  have hexec : exec (.roomReport dt b) s = .next ((((afterReply s dt w p).reportReadings (s.senderAt w.address)
      (roomReportOf p)).reportSwitch (s.senderAt w.address) (roomReportOf p)).reportSetpoints (s.senderAt w.address) x) := by
    refine congrArg Host.Outcome.next (hears.receive.trans ?_)
    rw [show (0x21 : Byte) = clsRoomReport from rfl, clsRoomReport_reply, State.takeReport_with hsome]
  refine ⟨fun i z hentry hrole hz => ?_, fun i z hentry hrole hz => ?_, fun i hentry hrole => ?_, fun hentry hservice => ?_⟩
  · obtain ⟨v, hv, htables, hrest, ⟨hsh, hsc, hhd, hconfirmed⟩, htakes⟩ := reportParts_leave (r := roomReportOf p) (dt := dt)
      (p := p) hentry hz (.inr hrole)
    rw [hv, State.reportSetpoints_of_panel (x := s.senderAt w.address) x hentry
      (by rw [State.routeCfg_congr htables]; exact hrole) (by rw [State.routeCfg_congr htables]; exact hz)] at hexec
    by_cases hmarked : x.wellMarked
    · rw [if_pos hmarked] at hexec
      have honly := onlyAnswers_confirm (v := v) (x := s.senderAt w.address) hentry ⟨.setpoint, .ok, none⟩ z x
      obtain ⟨hsh', hsc', hhd'⟩ := ZoneRun.change_setpoints x hsh hsc hhd
      refine ⟨_, hexec, htakes _ honly, honly.rest.trans (by rw [hrest]), ?_⟩
      rw [State.confirmSetpoints_hold_zone, State.hold_held hentry]
      simp only [hmarked, if_true]
      exact ⟨hsh', hsc', hhd', trivial, trivial⟩
    · rw [if_neg hmarked] at hexec
      have honly := onlyAnswers_hold (v := v) (x := s.senderAt w.address) hentry ⟨.setpoint, .range, none⟩ z
      refine ⟨_, hexec, htakes _ honly, honly.rest.trans (by rw [hrest]), ?_⟩
      rw [State.hold_zone, State.hold_held hentry]
      simp only [hmarked]
      exact ⟨hsh, hsc, hhd, hconfirmed, rfl⟩
  · obtain ⟨v, hv, htables, hrest, ⟨hsh, hsc, hhd, hconfirmed⟩, htakes⟩ := reportParts_leave (r := roomReportOf p) (dt := dt)
      (p := p) hentry hz (.inl hrole)
    have hnot : v.roleOf (s.senderAt w.address) ≠ some .panel := by
      rw [State.roleOf_congr htables, State.roleOf_entry (i := i) hentry, hrole]
      decide
    rw [hv, State.reportSetpoints_of_other x hnot] at hexec
    have honly := onlyAnswers_hold (v := v) (x := s.senderAt w.address) hentry ⟨.setpoint, .rights, none⟩ z
    refine ⟨_, hexec, htakes _ honly, honly.rest.trans (by rw [hrest]), ?_⟩
    rw [State.hold_zone, State.hold_held hentry]
    exact ⟨hsh, hsc, hhd, hconfirmed, rfl⟩
  · have hnot : (afterReply s dt w p).roleOf (s.senderAt w.address) ≠ some .panel := by
      rw [State.roleOf_congr (s := s) (t := afterReply s dt w p) rfl, State.roleOf_entry (i := i) hentry]
      rcases hrole with hr | hr <;> rw [hr] <;> decide
    rw [hexec, State.reportParts_of_other (u := afterReply s dt w p) _ fun j hj => ?_,
      State.reportSetpoints_of_other x hnot, State.hold_entry hentry, afterReply_routeRun hentry]
    · refine congrArg (fun v => Host.Outcome.next { afterReply s dt w p with routes := v }) ?_
      show put (creditedRoutes s w.address) i _ = _
      rw [creditedRoutes_of_entry hentry, put_put]
    · obtain rfl : i = j := Option.some.inj (hentry.symm.trans hj)
      exact hrole
  · have hnone : (s.senderAt w.address).entry = none := hentry
    have hnot : (afterReply s dt w p).roleOf (s.senderAt w.address) ≠ some .panel := by
      simp only [State.roleOf, hnone]
      split <;> simp
    rw [hexec, State.reportParts_of_other (u := afterReply s dt w p) _ (fun j hj => by rw [hnone] at hj; cases hj),
      State.reportSetpoints_of_other x hnot, State.hold, hnone]
    exact congrArg Host.Outcome.next (if_pos hservice)

end

end Sys2Proof.Machine
end

section
/-! PROOF. SETPOINT CHANGE (R15, R125, R128). -/

namespace Sys2Proof.Machine

/-- The table of R15, row by row. -/
theorem scopeAllowed_iff {role : Option Role} {house : Bool} {sc : Scope} (hsc : sc ≠ .unknown) :
    scopeAllowed role house sc = true ↔
      (role = some .panel ∧ (sc = .zone ∨ house = true)) ∨ (role = some .tool ∧ sc ≠ .zone ∧ house = true) := by
  rcases role with - | role
  · simp [scopeAllowed]
  · cases role <;> cases sc <;> simp [scopeAllowed] at hsc ⊢

/-- The zones that a change reaches: the sender's own, the enabled ones of a group, or every enabled one (R15). -/
def State.Reaches (s : State) (x : Sender) (sc : Scope) (g : Nat) (z : ZoneId) : Prop :=
  (sc = .zone ∧ s.zoneOf x = some z)
    ∨ (sc = .group ∧ (s.zoneCfg z).enabled = true ∧ (s.zoneCfg z).groups.getLsbD g = true)
    ∨ (sc = .house ∧ (s.zoneCfg z).enabled = true)

section
variable {u : State} {x : Sender} {sc : Scope} {g : Nat} {v : Setpoints} {z : ZoneId}

theorem State.applyChange_reached (h : u.Reaches x sc g z) : (u.applyChange x sc g v).zone z = (u.zone z).change v := by
  rcases h with ⟨rfl, hz⟩ | ⟨rfl, hon, hg⟩ | ⟨rfl, hon⟩
  · simp [State.applyChange, hz]
  · simp [State.applyChange, State.changeZones_zone, hon, hg]
  · simp [State.applyChange, State.changeZones_zone, hon]

theorem State.applyChange_unreached (h : ¬u.Reaches x sc g z) : (u.applyChange x sc g v).zone z = u.zone z := by
  cases sc with
  | zone =>
    unfold State.applyChange
    dsimp only
    split
    · next z' hz' =>
      refine u.changeZone_other v z' z fun heq => h (.inl ⟨rfl, ?_⟩)
      rw [heq]
      exact hz'
    · rfl
  | group =>
    have hnot : ¬((u.zoneCfg z).enabled = true ∧ (u.zoneCfg z).groups.getLsbD g = true) := fun hg => h (.inr (.inl ⟨rfl, hg⟩))
    rw [State.applyChange, State.changeZones_zone, if_neg (by simpa using hnot)]
  | house =>
    have hnot : ¬(u.zoneCfg z).enabled = true := fun hon => h (.inr (.inr ⟨rfl, hon⟩))
    rw [State.applyChange, State.changeZones_zone, if_neg (by simpa using hnot)]
  | unknown => rfl

/-- The outcomes of R125 in the order of its checks. -/
theorem State.changeResult_cases (hsc : sc ≠ .unknown) :
    let may := (u.roleOf x = some .panel ∧ (sc = .zone ∨ u.hasHouse x = true))
      ∨ (u.roleOf x = some .tool ∧ sc ≠ .zone ∧ u.hasHouse x = true)
    (¬may → u.changeResult x sc g v = .rights)
      ∧ (may → (sc = .group ∧ 3 < g) ∨ v.wellMarked = false → u.changeResult x sc g v = .range)
      ∧ (may → ¬(sc = .group ∧ 3 < g) → v.wellMarked = true → u.changeResult x sc g v = .ok) := by
  dsimp only
  rw [← scopeAllowed_iff hsc]
  unfold State.changeResult
  refine ⟨fun hno => by simp [hno], fun hmay hbad => ?_, fun hmay hgroup hmarked => by simp [hmay, hgroup, hmarked, hsc]⟩
  by_cases hgroup : sc = .group ∧ 3 < g
  · rw [hmay, Bool.not_true, if_neg Bool.false_ne_true, if_pos (.inr hgroup)]
  · simp [hmay, hgroup, hbad.resolve_left hgroup]

theorem State.hold_other_entry {i : RouteId} {r : HeldResult} (h : x.entry = some i) :
    (u.hold x r).serviceHeld = u.serviceHeld ∧ (u.hold x r).routes = put u.routes i { u.routeRun i with held := some r } := by
  rw [State.hold_entry h]
  exact ⟨rfl, rfl⟩

theorem State.hold_without_entry {r : HeldResult} (h : x.entry = none) :
    (u.hold x r).routes = u.routes
      ∧ (u.hold x r).serviceHeld = if x.address = serviceAddress then some r else u.serviceHeld := by
  rw [State.hold, h]
  dsimp only
  split <;> exact ⟨rfl, rfl⟩

/-- A change touches zones and the sender's held result alone. -/
theorem State.takeChange_eq :
    u.takeChange x sc g v =
      { u with
        zones := (u.takeChange x sc g v).zones
        routes := (u.takeChange x sc g v).routes
        serviceHeld := (u.takeChange x sc g v).serviceHeld } := by
  ext1
  all_goals simp [State.takeChange]

end

/-- Settles O22: the result by the order of R125's checks, the zones by the scope. -/
theorem setpointChangeReachesItsScope : Obligations.SetpointChangeReachesItsScope := by
  intro s dt b w p hears hsc
  dsimp only
  set x := s.senderAt w.address with hx
  set sc := scopeOf (byteAt p 1) with hscope
  set g := (byteAt p 2).toNat
  set v := setpointsAt p 3
  set u := afterReply s dt w p with hu
  have hexec : exec (.setpointChange dt b) s = .next (u.takeChange x sc g v) :=
    congrArg Host.Outcome.next (hears.receive.trans (by simp [State.takeReply, clsRoomReport, clsSetpointChange]; rfl))
  set o := u.changeResult x sc g v with ho
  have htake : u.takeChange x sc g v = (if o = .ok then u.applyChange x sc g v else u).hold x ⟨.setpoint, o, none⟩ := rfl
  have hroutes : (if o = .ok then u.applyChange x sc g v else u).routes = u.routes := by split <;> simp
  have hservice : (if o = .ok then u.applyChange x sc g v else u).serviceHeld = u.serviceHeld := by split <;> simp
  refine ⟨_, o, hexec, State.changeResult_cases (u := u) hsc, State.takeChange_eq, fun z hok hreach => ?_, fun z hnot => ?_,
    fun i hi => ?_, fun hnone => ?_⟩
  · rw [htake, State.hold_zone, if_pos hok]
    exact State.applyChange_reached (u := u) hreach
  · rw [htake, State.hold_zone]
    split
    · next hok => exact State.applyChange_unreached (u := u) fun hreach => hnot ⟨hok, hreach⟩
    · rfl
  · obtain ⟨hheld, hput⟩ := State.hold_other_entry (u := if o = .ok then u.applyChange x sc g v else u)
      (r := ⟨.setpoint, o, none⟩) (show x.entry = some i from hi)
    rw [htake, hheld, hput, hservice, State.routeRun, hroutes]
    refine ⟨rfl, ?_⟩
    show put (creditedRoutes s w.address) i { look (creditedRoutes s w.address) i with held := some ⟨.setpoint, o, none⟩ } = _
    rw [creditedRoutes_of_entry hi, look_put_same, put_put]
  · obtain ⟨hput, hheld⟩ := State.hold_without_entry (u := if o = .ok then u.applyChange x sc g v else u)
      (r := ⟨.setpoint, o, none⟩) (show x.entry = none from hnone)
    rw [htake, hheld, hput, hservice, hroutes]
    refine ⟨?_, rfl⟩
    show creditedRoutes s w.address = _
    simp [creditedRoutes, hnone]

end Sys2Proof.Machine
end

section
/-! PROOF. Table records as bytes and back (12.3): what a valid record's bytes decode to, and what the bytes of a record that is
taken hold. -/

namespace Sys2Proof.Machine

/-! ### Fields (R195) -/

theorem u8_toNat {n : Nat} (h : n < 256) : (u8 n).toNat = n := by
  simp [u8, Nat.mod_eq_of_lt h]

/-- A 16-bit value is the two bytes it is sent in. -/
theorem word16_bytes16 (w : BitVec 16) : word16 (w.extractLsb' 8 8) (w.extractLsb' 0 8) = w := by
  rw [word16, BitVec.extractLsb'_append_extractLsb'_eq_extractLsb' (by rfl)]
  exact BitVec.extractLsb'_eq_self

theorem nat16_u16 {n : Nat} (h : n < 65536) :
    nat16 ((BitVec.ofNat 16 n).extractLsb' 8 8) ((BitVec.ofNat 16 n).extractLsb' 0 8) = n := by
  rw [nat16, word16_bytes16]
  simp [Nat.mod_eq_of_lt h]

theorem int16_i16 {x : Int} (hlo : -32768 ≤ x) (hhi : x < 32768) :
    int16 ((BitVec.ofInt 16 x).extractLsb' 8 8) ((BitVec.ofInt 16 x).extractLsb' 0 8) = x := by
  rw [int16, word16_bytes16, BitVec.toInt_ofInt, Int.bmod_eq_of_le] <;> omega

theorem ofInt8_toNat {x : Int} (hlo : 0 ≤ x) (hhi : x < 256) : ((BitVec.ofInt 8 x).toNat : Int) = x := by
  rw [BitVec.toNat_ofInt]
  omega

theorem nat16_eq_fieldAt (r : List Byte) (k : Nat) : nat16 (byteAt r k) (byteAt r (k + 1)) = fieldAt r k := by
  have := (byteAt r (k + 1)).isLt
  rw [nat16, word16, BitVec.toNat_append, ← Nat.shiftLeft_add_eq_or_of_lt this, Nat.shiftLeft_eq, fieldAt, Nat.mul_comm]

/-- A signed field that is not below zero is the unsigned one. -/
theorem int16_eq_fieldAt {r : List Byte} {k : Nat} (h : 0 ≤ int16 (byteAt r k) (byteAt r (k + 1))) :
    int16 (byteAt r k) (byteAt r (k + 1)) = fieldAt r k := by
  rw [← nat16_eq_fieldAt]
  rw [int16, BitVec.toInt_eq_toNat_cond] at h ⊢
  rw [nat16]
  have := (word16 (byteAt r k) (byteAt r (k + 1))).isLt
  split_ifs at h ⊢ <;> omega

/-- The mark byte of a Zone record. -/
theorem zoneMarks (on : Bool) (g : BitVec 4) :
    (u8 (on.toNat + 16 * g.toNat)).extractLsb' 1 3 = 0 ∧ (u8 (on.toNat + 16 * g.toNat)).getLsbD 0 = on
      ∧ (u8 (on.toNat + 16 * g.toNat)).extractLsb' 4 4 = g := by
  revert on g
  decide

/-- The mark byte of a Route record. -/
theorem routeMarks (a b c d : Bool) :
    (markByte [a, b, c, d]).extractLsb' 4 4 = 0 ∧ (markByte [a, b, c, d]).getLsbD 0 = a
      ∧ (markByte [a, b, c, d]).getLsbD 1 = b ∧ (markByte [a, b, c, d]).getLsbD 2 = c
      ∧ (markByte [a, b, c, d]).getLsbD 3 = d := by
  revert a b c d
  decide

theorem permissionOf_code (m : Permission) : permissionOf m.code = some m := by
  cases m <;> rfl

theorem roleOf_code (r : Role) : roleOf r.code = some r := by
  cases r <;> rfl

theorem zoneByte_optU8 (z : Option ZoneId) : zoneByte (optU8 (z.map (·.val))) = some z := by
  revert z
  decide

/-! ### A valid record's bytes decode to it -/

theorem Profile.valid_iff (c : Profile) : c.valid = true ↔
    (10 ≤ c.cycle ∧ c.cycle ≤ 60) ∧ (120 ≤ c.minRun ∧ c.minRun ≤ 900) ∧ (60 ≤ c.minRest ∧ c.minRest ≤ 600)
      ∧ (60 ≤ c.dwell ∧ c.dwell ≤ 600) ∧ (5 ≤ c.starvation ∧ c.starvation ≤ 255) ∧ (3 ≤ c.ton ∧ c.ton ≤ 20) ∧ c.toff ≤ 10
      ∧ (40 ≤ c.dryFactor ∧ c.dryFactor ≤ 80) ∧ (1 ≤ c.slots ∧ c.slots ≤ 4) ∧ (10 ≤ c.holdMin ∧ c.holdMin ≤ 240) := by
  simp only [Profile.valid, Bool.and_eq_true, decide_eq_true_eq, and_assoc]

theorem ZoneCfg.valid_iff (c : ZoneCfg) : c.valid = true ↔
    (20 ≤ c.qd ∧ c.qd ≤ 400) ∧ c.pmin ≤ 60 ∧ c.spillRank ≤ 8 ∧ (10 ≤ c.psp ∧ c.psp ≤ 100) ∧ (1 ≤ c.kp ∧ c.kp ≤ 40)
      ∧ (50 ≤ c.shSt ∧ c.shSt ≤ 300) ∧ (150 ≤ c.scSt ∧ c.scSt ≤ 350) ∧ (35 ≤ c.hdSt ∧ c.hdSt ≤ 70)
      ∧ 10 ≤ c.scSt - c.shSt := by
  simp only [ZoneCfg.valid, Bool.and_eq_true, decide_eq_true_eq, and_assoc]

theorem DamperCfg.valid_iff (c : DamperCfg) : c.valid = true ↔
    (200 ≤ c.stroke ∧ c.stroke ≤ 4000) ∧ (2 ≤ c.settle ∧ c.settle ≤ 20) ∧ (8 ≤ c.approach ∧ c.approach ≤ 64)
      ∧ (100 ≤ c.deadMs ∧ c.deadMs ≤ 2000) ∧ (200 ≤ c.stallMs ∧ c.stallMs ≤ 2000) ∧ (30 ≤ c.seekS ∧ c.seekS ≤ 240) := by
  simp only [DamperCfg.valid, Bool.and_eq_true, decide_eq_true_eq, and_assoc]

theorem RouteCfg.valid_iff (c : RouteCfg) : c.valid = true ↔
    (0x10 ≤ c.address.toNat ∧ c.address.toNat ≤ 0x6F) ∧ (1 ≤ c.weight ∧ c.weight ≤ 4)
      ∧ (c.role = .tool ∨ c.zone.isSome = true) := by
  simp only [RouteCfg.valid, Bool.and_eq_true, Bool.or_eq_true, decide_eq_true_eq, and_assoc]

theorem keepIf_of_pos {α : Type} {p : α → Bool} {x : α} (h : p x = true) : keepIf p x = some x :=
  if_pos h

theorem profileRecord_bytes {c : Profile} (h : c.valid = true) : profileRecord c.bytes = some c := by
  obtain ⟨h1, h2, h3, h4, h5, h6, h7, h8, h9, h10⟩ := c.valid_iff.1 h
  rw [profileRecord, show (byteAt c.bytes 0).toNat = c.cycle from u8_toNat (by omega),
    show nat16 (byteAt c.bytes 1) (byteAt c.bytes 2) = c.minRun from nat16_u16 (by omega),
    show nat16 (byteAt c.bytes 3) (byteAt c.bytes 4) = c.minRest from nat16_u16 (by omega),
    show nat16 (byteAt c.bytes 5) (byteAt c.bytes 6) = c.dwell from nat16_u16 (by omega),
    show (byteAt c.bytes 7).toNat = c.starvation from u8_toNat (by omega),
    show (byteAt c.bytes 8).toNat = c.ton from u8_toNat (by omega),
    show (byteAt c.bytes 9).toNat = c.toff from u8_toNat (by omega),
    show (byteAt c.bytes 10).toNat = c.dryFactor from u8_toNat (by omega),
    show (byteAt c.bytes 11).toNat = c.slots from u8_toNat (by omega),
    show (byteAt c.bytes 12).toNat = c.holdMin from u8_toNat (by omega),
    show word16 (byteAt c.bytes 13) (byteAt c.bytes 14) = c.enable from word16_bytes16 _]
  exact keepIf_of_pos h

theorem zoneRecord_bytes {c : ZoneCfg} (h : c.valid = true) : zoneRecord c.bytes = some c := by
  obtain ⟨h1, h2, h3, h4, h5, h6, h7, h8, h9⟩ := c.valid_iff.1 h
  obtain ⟨hreserved, hon, hgroups⟩ := zoneMarks c.enabled c.groups
  rw [zoneRecord, show byteAt c.bytes 0 = u8 (c.enabled.toNat + 16 * c.groups.toNat) from rfl,
    show permissionOf (byteAt c.bytes 1) = some c.permission from permissionOf_code _,
    show nat16 (byteAt c.bytes 2) (byteAt c.bytes 3) = c.qd from nat16_u16 (by omega),
    show (byteAt c.bytes 4).toNat = c.pmin from u8_toNat (by omega),
    show (byteAt c.bytes 5).toNat = c.spillRank from u8_toNat (by omega),
    show (byteAt c.bytes 6).toNat = c.psp from u8_toNat (by omega),
    show (byteAt c.bytes 7).toNat = c.kp from u8_toNat (by omega),
    show int16 (byteAt c.bytes 8) (byteAt c.bytes 9) = c.shSt from int16_i16 (by omega) (by omega),
    show int16 (byteAt c.bytes 10) (byteAt c.bytes 11) = c.scSt from int16_i16 (by omega) (by omega),
    show ((byteAt c.bytes 12).toNat : Int) = c.hdSt from ofInt8_toNat (by omega) (by omega)]
  dsimp only
  rw [hreserved, hon, hgroups]
  exact keepIf_of_pos h

theorem routeRecord_bytes {c : RouteCfg} (h : c.valid = true) : routeRecord c.bytes = some c.stored := by
  obtain ⟨h1, h2, h3⟩ := c.valid_iff.1 h
  obtain ⟨hreserved, hused, hpolled, hhouse, hnotice⟩ := routeMarks c.used c.polled c.house c.notice
  have hzone : (if c.role = Role.tool then some none else zoneByte (byteAt c.bytes 3)) =
      some (if c.role = Role.tool then none else c.zone) := by
    split
    · rfl
    · exact zoneByte_optU8 c.zone
  have hvalid : ({ c with zone := if c.role = Role.tool then none else c.zone } : RouteCfg).valid = true := by
    refine (RouteCfg.valid_iff _).2 ⟨h1, h2, ?_⟩
    by_cases htool : c.role = .tool
    · exact .inl htool
    · exact .inr (by rw [if_neg htool]; exact h3.resolve_left htool)
  have hstored : ({ c with zone := if c.role = Role.tool then none else c.zone } : RouteCfg).stored = c.stored := by
    simp only [RouteCfg.stored]
    split <;> rfl
  rw [routeRecord, show byteAt c.bytes 0 = markByte [c.used, c.polled, c.house, c.notice] from rfl,
    show roleOf (byteAt c.bytes 2) = some c.role from roleOf_code _, show byteAt c.bytes 1 = c.address from rfl,
    show (byteAt c.bytes 4).toNat = c.weight from u8_toNat (by omega)]
  dsimp only
  rw [hreserved, hused, hpolled, hhouse, hnotice, hzone]
  dsimp only
  rw [if_neg (by simp), keepIf_of_pos hvalid]
  exact congrArg some hstored

/-! ### What the bytes of a record that is taken hold (R2, R29, R72, R119) -/

theorem profileRecord_fits {r : List Byte} {c : Profile} (h : profileRecord r = some c) : RecordFits .profile r := by
  obtain ⟨hv, rfl⟩ := (keepIf_eq_some_iff _ _ _).1 h
  rw [Profile.valid_iff] at hv
  simp only [nat16_eq_fieldAt] at hv
  unfold RecordFits
  dsimp only
  omega

theorem damperRecord_fits {r : List Byte} {c : DamperCfg} (h : damperRecord r = some c) : RecordFits .damper r := by
  obtain ⟨hv, rfl⟩ := (keepIf_eq_some_iff _ _ _).1 h
  rw [DamperCfg.valid_iff] at hv
  simp only [nat16_eq_fieldAt] at hv
  unfold RecordFits
  dsimp only
  omega

theorem permissionOf_le {b : Byte} {m : Permission} (h : permissionOf b = some m) : b.toNat ≤ 2 := by
  unfold permissionOf at h
  split_ifs at h with h0 h1 h2 <;> subst b <;> decide

theorem roleOf_code_of_eq_some {b : Byte} {m : Role} (h : roleOf b = some m) : b.toNat ≤ 3 ∧ (m = .tool ↔ b.toNat = 2) := by
  unfold roleOf at h
  split_ifs at h with h0 h1 h2 h3 <;> subst b <;> cases h <;> decide

theorem zoneByte_le {b : Byte} {z : ZoneId} (h : zoneByte b = some (some z)) : b.toNat ≤ 7 := by
  unfold zoneByte at h
  split_ifs at h with hlt
  · omega
  · cases h

theorem zoneRecord_fits {r : List Byte} {c : ZoneCfg} (h : zoneRecord r = some c) : RecordFits .zone r := by
  unfold zoneRecord at h
  dsimp only at h
  split at h
  · cases h
  · next hreserved =>
    split at h
    · cases h
    · next m hm =>
      obtain ⟨hv, -⟩ := (keepIf_eq_some_iff _ _ _).1 h
      rw [ZoneCfg.valid_iff] at hv
      dsimp only at hv
      obtain ⟨hqd, hpmin, hrank, hpsp, hkp, hsh, hsc, hhd, hgap⟩ := hv
      rw [nat16_eq_fieldAt] at hqd
      have hheat : int16 (byteAt r 8) (byteAt r 9) = fieldAt r 8 := int16_eq_fieldAt (le_trans (by decide) hsh.1)
      have hcool : int16 (byteAt r 10) (byteAt r 11) = fieldAt r 10 := int16_eq_fieldAt (le_trans (by decide) hsc.1)
      have := permissionOf_le hm
      unfold RecordFits
      refine ⟨not_not.1 hreserved, ?_⟩
      dsimp only
      omega

theorem routeRecord_fits {r : List Byte} {c : RouteCfg} (h : routeRecord r = some c) : RecordFits .route r := by
  unfold routeRecord at h
  dsimp only at h
  split at h
  · cases h
  · next hreserved =>
    split at h
    · cases h
    · next m hm =>
      obtain ⟨hcode, htool⟩ := roleOf_code_of_eq_some hm
      split at h
      · cases h
      · next z hz =>
        obtain ⟨d, hd, -⟩ := Option.map_eq_some_iff.1 h
        obtain ⟨hv, -⟩ := (keepIf_eq_some_iff _ _ _).1 hd
        obtain ⟨haddress, hweight, hzone⟩ := (RouteCfg.valid_iff _).1 hv
        refine ⟨not_not.1 hreserved, haddress, hcode, ?_, hweight⟩
        by_cases ht : m = .tool
        · exact .inl (htool.1 ht)
        · obtain ⟨z', hz'⟩ := Option.isSome_iff_exists.1 (hzone.resolve_left ht)
          dsimp only at hz'
          rw [if_neg ht, hz'] at hz
          exact .inr (zoneByte_le hz)

/-! ### A write's records cut apart (R186) -/

theorem chunks_eq (len count : Nat) (p : List Byte) :
    chunks len count p = (List.range count).map fun n => (p.drop (n * len)).take len := by
  induction count generalizing p with
  | zero => rfl
  | succ k ih =>
    rw [chunks, ih, List.range_succ_eq_map, List.map_cons, List.map_map, Nat.zero_mul, List.drop_zero]
    refine congrArg _ (List.map_congr_left fun n _ => ?_)
    rw [Function.comp_apply, List.drop_drop, Nat.succ_mul, Nat.add_comm]

/-- A write whose records do not all decode is refused. -/
theorem recordsOf_eq_none {α : Type} {f : List Byte → Option α} {len count n : Nat} {p : List Byte} (hn : n < count)
    (h : f ((p.drop (n * len)).take len) = none) : recordsOf f len count p = none := by
  rw [Option.eq_none_iff_forall_ne_some]
  intro xs hxs
  have hmap := (allSome_eq_some_iff _ _).1 hxs
  have hmem : none ∈ (chunks len count p).map f := by
    rw [chunks_eq, List.map_map]
    exact List.mem_map.2 ⟨n, List.mem_range.2 hn, h⟩
  rw [hmap] at hmem
  simp at hmem

/-- The records of a list sent one after the other decode to the list. -/
theorem recordsOf_flatMap {α : Type} {f : List Byte → Option α} {g : α → List Byte} {len : Nat} {xs : List α}
    (hlen : ∀ x, (g x).length = len) (h : ∀ x ∈ xs, f (g x) = some x) : recordsOf f len xs.length (xs.flatMap g) = some xs := by
  refine (allSome_eq_some_iff _ _).2 ?_
  induction xs with
  | nil => rfl
  | cons x xs ih =>
    rw [List.flatMap_cons, List.length_cons, chunks, List.take_left' (hlen x), List.drop_left' (hlen x), List.map_cons,
      List.map_cons, h x List.mem_cons_self, ih fun y hy => h y (List.mem_cons_of_mem _ hy)]

theorem length_flatMap_records {α : Type} {g : α → List Byte} {len : Nat} (hlen : ∀ x, (g x).length = len) (xs : List α) :
    (xs.flatMap g).length = xs.length * len := by
  simp [List.length_flatMap, hlen]

end Sys2Proof.Machine
end

section
/-! PROOF. WRITE TABLE (R186): its refusals for every table, and the effects of Profile and Zone records (R3, R30, R85). -/

namespace Sys2Proof.Machine

/-! ### The request and its checks (R186) -/

section
variable {s : State} {dt : Nat} {b : Burst} {w : RoomWait} {q p : List Byte}

/-- A WRITE TABLE is answered with what the table's write gives. -/
theorem Requests.writes {a : Answer} (h : Requests s dt b w 0x03 q p) (ha : (afterReply s dt w p).writeTable q = a) :
    exec (.writeTable dt b) s = .next (answeredWith a.state w.address 0x03 a.result a.data) := by
  subst ha
  exact congrArg Host.Outcome.next (h.receive (r := .writeTable) (by decide) (by decide))

end

theorem indexFits_iff (k : Table) (start count : Nat) :
    indexFits k start count = true ↔ 1 ≤ count ∧ start + count ≤ k.size ∧ count ≤ k.limit := by
  simp only [indexFits, Bool.and_eq_true, decide_eq_true_eq, and_assoc]

section
variable {u : State} {q : List Byte} {k : Table}

theorem State.writeTable_unread (h : q.length < 3 ∨ tableOf (byteAt q 0) = none) : u.writeTable q = u.refuse .range := by
  unfold State.writeTable
  split
  · rfl
  · next k hk => rw [if_pos (h.resolve_right (by simp [hk]))]

/-- The checks of a write whose table is known, with no SAVE under way. -/
theorem State.writeTable_of_table (hk : tableOf (byteAt q 0) = some k) (hlen : 3 ≤ q.length) (hsave : u.storeState ≠ .saving) :
    u.writeTable q =
      if !indexFits k (byteAt q 1).toNat (byteAt q 2).toNat then u.refuse .index
      else if q.length ≠ 3 + (byteAt q 2).toNat * k.recordLength then u.refuse .range
      else u.writeRecords k (byteAt q 1).toNat (byteAt q 2).toNat (q.take 3) (q.drop 3) := by
  unfold State.writeTable
  rw [hk]
  dsimp only
  rw [if_neg (by omega), if_neg (by simp [State.isSaving, hsave])]

/-- A write of records that are where they belong and as long as they should be is the write of the records. -/
theorem State.writeTable_of_records {start count : Nat} {code : Byte} {records : List Byte} (hk : tableOf code = some k)
    (hfits : indexFits k start count = true) (hsized : records.length = count * k.recordLength)
    (hsave : u.storeState ≠ .saving) :
    u.writeTable ([code, u8 start, u8 count] ++ records) =
      u.writeRecords k start count [code, u8 start, u8 count] records := by
  obtain ⟨hone, hsize, hlimit⟩ := (indexFits_iff _ _ _).1 hfits
  have hbound : k.size ≤ 16 := by cases k <;> decide
  have hstart : (byteAt ([code, u8 start, u8 count] ++ records) 1).toNat = start := u8_toNat (by omega)
  have hcount : (byteAt ([code, u8 start, u8 count] ++ records) 2).toNat = count := u8_toNat (by omega)
  rw [State.writeTable_of_table (q := [code, u8 start, u8 count] ++ records) hk (by simp) hsave, hstart, hcount, hfits,
    Bool.not_true, if_neg Bool.false_ne_true, if_neg (not_not.2 (by rw [List.length_append, hsized]; rfl))]
  rfl

/-- A record with a field out of its range has the whole write refused, whatever the table. -/
theorem State.writeRecords_unfit {start count n : Nat} {head records : List Byte} (hfits : indexFits k start count = true)
    (hsized : records.length = count * k.recordLength) (hn : n < count)
    (h : ¬RecordFits k ((records.drop (n * k.recordLength)).take k.recordLength)) :
    u.writeRecords k start count head records = u.refuse .range := by
  cases k with
  | route =>
    have hnone := recordsOf_eq_none hn (Option.eq_none_iff_forall_ne_some.2 fun c hc => h (routeRecord_fits hc))
    simp only [State.writeRecords, hnone]
  | zone =>
    have hnone := recordsOf_eq_none hn (Option.eq_none_iff_forall_ne_some.2 fun c hc => h (zoneRecord_fits hc))
    simp only [State.writeRecords, hnone]
  | damper =>
    have hnone := recordsOf_eq_none hn (Option.eq_none_iff_forall_ne_some.2 fun c hc => h (damperRecord_fits hc))
    simp only [State.writeRecords, hnone]
  | profile =>
    obtain ⟨-, -, hone⟩ := (indexFits_iff _ _ _).1 hfits
    obtain ⟨rfl, rfl⟩ : count = 1 ∧ n = 0 := by
      rw [Table.limit] at hone
      omega
    rw [Nat.zero_mul, List.drop_zero, List.take_of_length_le (by omega)] at h
    have hnone : profileRecord records = none := Option.eq_none_iff_forall_ne_some.2 fun c hc => h (profileRecord_fits hc)
    simp only [State.writeRecords, hnone]

end

/-! ### A Profile record (R30, R85) -/

theorem State.serveQueue_empty {s : State} (h : s.queue = []) : s.serveQueue = s.settleLimit := by
  simp [State.serveQueue, h, State.grantLoop]

/-- What a write of the Profile touches. -/
theorem State.profileWritten_eq (u : State) (c : Profile) :
    u.profileWritten c =
      { u with
        tables := { u.tables with profile := c }
        slotLimit := if u.drivingCount ≤ c.slots then c.slots else u.slotLimit
        channels := (u.profileWritten c).channels
        queue := (u.profileWritten c).queue } := by
  ext1
  case slotLimit =>
    simp only [State.profileWritten, State.serveQueue, State.grantLoop_frame]
    exact State.ite_slotLimit ..
  all_goals simp [State.profileWritten]

/-- With nothing waiting, a new slot limit moves no channel. -/
theorem State.profileWritten_empty {u : State} (h : u.queue = []) (c : Profile) :
    (u.profileWritten c).channels = u.channels ∧ (u.profileWritten c).queue = [] := by
  rw [State.profileWritten, State.serveQueue_empty (by simpa using h)]
  simp [h]

theorem ZoneCfg.length_bytes (c : ZoneCfg) : c.bytes.length = 13 := rfl

theorem RouteCfg.length_bytes (c : RouteCfg) : c.bytes.length = 5 := rfl

/-! ### Zone records (R3) -/

/-- A record that a write covers, by its place in the list. -/
theorem look_writeAt_at {α : Type} {n : Nat} {v : Vector α n} {start : Nat} {xs : List α} {i : Fin n} {x : α}
    (hle : start ≤ i.val) (hx : xs[i.val - start]? = some x) :
    covers start xs.length i.val = true ∧ look (writeAt v start xs) i = x := by
  obtain ⟨hlt, -⟩ := List.getElem?_eq_some_iff.1 hx
  have hc : covers start xs.length i.val = true := (covers_iff _ _ _).2 ⟨hle, by omega⟩
  refine ⟨hc, ?_⟩
  rw [look_writeAt, if_pos hc, List.getD_eq_getElem?_getD, hx, Option.getD_some]

/-- What a write of the Zone Table touches. -/
theorem State.zonesWritten_touches (u : State) (start : Nat) (xs : List ZoneCfg) :
    u.zonesWritten start xs =
      { u with
        tables := { u.tables with zones := writeAt u.tables.zones start xs }
        zones := (u.zonesWritten start xs).zones
        events := (u.zonesWritten start xs).events } := by
  ext1
  all_goals simp [State.zonesWritten]

/-- A zone that a write covers, as the manual says it (R2, R3, R12, R24). -/
theorem State.zonesWritten_same {u : State} {start : Nat} {xs : List ZoneCfg} {z : ZoneId} {c : ZoneCfg} (hle : start ≤ z.val)
    (hc : xs[z.val - start]? = some c) :
    (u.zonesWritten start xs).zone z =
      let stops := (u.zoneCfg z).enabled = true ∧ c.enabled = false
      { (u.zone z).takeStored (u.zoneCfg z) c with
        call := if stops then .none else (u.zone z).call
        demand := if stops then 0 else (u.zone z).demand
        unmet := if stops then 0 else (u.zone z).unmet
        status := if (u.zoneCfg z).enabled = c.enabled then (u.zone z).status else (u.zonesWritten start xs).statusOf z } := by
  obtain ⟨hcovers, hlook⟩ := look_writeAt_at (v := u.tables.zones) hle hc
  obtain ⟨v, hv, hz, hres⟩ := (u.zonesWritten_zone start xs z).2 hcovers
  have hcfg : v.zoneCfg z = c := (State.zoneCfg_congr hv.1 z).trans hlook
  have hstatus : (u.zonesWritten start xs).statusOf z = (v.zoneWritten z (u.zoneCfg z)).statusOf z := by
    obtain ⟨htables, hcomputation, hcommand, harbiter⟩ := hv
    rw [State.zonesWritten_touches] at hres ⊢
    apply State.statusOf_congr
    · simp [htables, State.zonesInstalled, State.setTables]
    · simp [hcomputation, State.zonesInstalled, State.setTables]
    · simp [hcommand, State.zonesInstalled, State.setTables]
    · exact State.house_congr (by simp [harbiter, State.zonesInstalled, State.setTables])
    all_goals rw [hres]
  rw [hstatus, hres, State.zoneWritten_same, hcfg, hz]
  cases (u.zoneCfg z).enabled <;> cases c.enabled <;> rfl

/-! ### WRITE TABLE of the Profile and of Zone records -/

/-- Settles O27: the Profile and its slot limit, the covered zones one by one, and the refusals in the order of the checks. -/
theorem writtenProfileAndZoneTakeForce : Obligations.WrittenProfileAndZoneTakeForce := by
  refine ⟨fun s dt b w q p c hreq hq hvalid hsave => ?_, fun s dt b w q p start xs hreq hq hone htwo hspan hvalid hsave => ?_,
    fun s dt b w q p hreq => ?_⟩
  · set u := afterReply s dt w p with hu
    have hwrite : u.writeTable q = (u.profileWritten c).grant [0x03, 0, 1] := by
      have htable := State.writeTable_of_records (u := u) (k := .profile) (start := 0) (count := 1) (code := 0x03)
        (records := c.bytes) rfl rfl rfl hsave
      simp only [State.writeRecords, profileRecord_bytes hvalid] at htable
      exact hq ▸ htable
    exact ⟨_, hreq.writes hwrite, u.profileWritten_eq c, fun hempty => State.profileWritten_empty (u := u) hempty c⟩
  · set u := afterReply s dt w p with hu
    have hrecords : recordsOf zoneRecord 13 xs.length (xs.flatMap ZoneCfg.bytes) = some xs :=
      recordsOf_flatMap ZoneCfg.length_bytes fun c hc => zoneRecord_bytes (hvalid c hc)
    have hwrite : u.writeTable q = (u.zonesWritten start xs).grant [0x01, u8 start, u8 xs.length] := by
      have htable := State.writeTable_of_records (u := u) (k := .zone) (code := 0x01) rfl
        ((indexFits_iff _ _ _).2 ⟨hone, hspan, htwo⟩) (length_flatMap_records ZoneCfg.length_bytes xs) hsave
      simp only [State.writeRecords, Table.recordLength, hrecords] at htable
      exact hq ▸ htable
    refine ⟨_, hreq.writes hwrite, ?_, fun z => ⟨fun hout => ?_, fun c hle hc => ⟨?_, ?_⟩⟩⟩
    · conv_lhs => rw [State.grant_state, State.zonesWritten_touches]
      rw [State.grant_state, State.zonesWritten_touches]
      rfl
    · have hnot : covers start xs.length z.val = false := by
        rw [← Bool.not_eq_true, covers_iff]
        omega
      refine ⟨?_, (u.zonesWritten_zone start xs z).1 hnot⟩
      rw [State.grant_state, State.zonesWritten_touches]
      exact look_writeAt_outside hnot
    · rw [State.grant_state, State.zonesWritten_touches]
      exact (look_writeAt_at hle hc).2
    · rw [State.grant_state]
      exact State.zonesWritten_same (u := u) hle hc
  · refine ⟨fun hunread => hreq.writes (State.writeTable_unread hunread), fun k hlen hk hsave => ?_⟩
    have htable := State.writeTable_of_table (u := afterReply s dt w p) hk hlen hsave
    dsimp only
    rw [← indexFits_iff]
    refine ⟨fun hfits => hreq.writes (a := (afterReply s dt w p).refuse .index) ?_,
      fun hfits hsized => hreq.writes (a := (afterReply s dt w p).refuse .range) ?_,
      fun hfits hsized ⟨n, hn, hunfit⟩ => hreq.writes (a := (afterReply s dt w p).refuse .range) ?_⟩
    · rw [htable, Bool.eq_false_of_not_eq_true hfits]
      rfl
    · rw [htable, hfits, Bool.not_true, if_neg Bool.false_ne_true, if_pos hsized]
    · rw [htable, hfits, Bool.not_true, if_neg Bool.false_ne_true, if_neg (not_not.2 hsized)]
      refine State.writeRecords_unfit hfits (by rw [List.length_drop]; omega) hn ?_
      rwa [List.drop_drop]

end Sys2Proof.Machine
end

section
/-! PROOF. A Route Table write, zone by zone (R7, R10, R13, R134). -/

namespace Sys2Proof.Machine

/-! ### A route write raises nothing -/

theorem State.loseSource_events (s : State) (z : ZoneId) : (s.loseSource z).events = s.events := by
  rw [State.loseSource, State.leavePlay_events]
  · simp
  · exact State.isLost_eq_false (by simp [ZoneRun.expired])

theorem State.gainSource_events (s : State) (z : ZoneId) : (s.gainSource z).events = s.events := by
  rw [State.gainSource, State.deriveStatus_events_of_running]
  · simp
  · simp [ZoneRun.expired]

theorem State.reviewSources_events (s : State) (old : Vector RouteCfg 16) (z : ZoneId) :
    (s.reviewSources old z).events = s.events := by
  simp only [State.reviewSources]
  split_ifs <;> simp [State.loseSource_events, State.gainSource_events]

theorem State.reviewZone_events (s : State) (old : Vector RouteCfg 16) (z : ZoneId) :
    (s.reviewZone old z).events = s.events := by
  rw [State.reviewZone]
  rcases (s.reviewSources old z).reviewPanel_cases old z with h | h | h <;> rw [h]
  · exact s.reviewSources_events old z
  · simp [State.reviewSources_events]
  · rw [State.takeSwitch_events, State.reviewSources_events]

/-! ### The sources of a zone (R7, R134) -/

/-- A zone whose set of sources changed and which has no source left had one. -/
theorem sourceIn_of_sourcesChanged {old new : Vector RouteCfg 16} {z : ZoneId} (h : sourcesChanged old new z = true)
    (hnone : sourceIn new z = false) : sourceIn old z = true := by
  rw [← Bool.not_eq_false]
  intro hold
  obtain ⟨i, hi⟩ := (anyIx_iff _).1 h
  have hnew := (anyIx_eq_false_iff _).1 hnone i
  have hbefore := (anyIx_eq_false_iff _).1 hold i
  simp [hnew, hbefore] at hi

/-- A zone after the review of its sources: what a lost last source, a first source, and a changed set of sources do. -/
theorem State.reviewSources_same (x : State) (old : Vector RouteCfg 16) (z : ZoneId) :
    let y := x.reviewSources old z
    let changed := sourcesChanged old x.tables.routes z
    let had := sourceIn old z
    let has := sourceIn x.tables.routes z
    y.zone z =
      { x.zone z with
        t := if changed then (if has then combine (x.freshReadings (·.temp) z) else none) else (x.zone z).t
        h := if changed then (if has then combine (x.freshReadings (·.hum) z) else none) else (x.zone z).h
        lastFresh := if had && !has then none else (x.zone z).lastFresh
        loss :=
          if had && !has then .stopped else if !had && has then .running (x.now + sec 60) else (x.zone z).loss
        call := if had && !has then .none else (x.zone z).call
        demand := if had && !has then 0 else (x.zone z).demand
        unmet := if had && !has then 0 else (x.zone z).unmet
        status := if had = has then (x.zone z).status else y.statusOf z } := by
  dsimp only
  cases hchanged : sourcesChanged old x.tables.routes z with
  | false =>
    have hsame : sourceIn old z = sourceIn x.tables.routes z := by
      by_contra hne
      rw [sourcesChanged_of_sourceIn_ne hne] at hchanged
      exact Bool.noConfusion hchanged
    rw [State.reviewSources_unchanged hchanged, hsame]
    cases sourceIn x.tables.routes z <;> rfl
  | true =>
    cases hhas : sourceIn x.tables.routes z with
    | false =>
      have hhad := sourceIn_of_sourcesChanged hchanged hhas
      rw [State.reviewSources_lost hchanged hhas, hhad, State.loseSource, State.leavePlay_same, State.zone_setZone_same,
        State.recombine_same]
      rfl
    | true =>
      cases hhad : sourceIn old z with
      | false =>
        rw [State.reviewSources_gained hchanged hhas hhad, State.gainSource, State.deriveStatus_same, State.zone_setZone_same,
          State.recombine_same]
        rfl
      | true =>
        rw [State.reviewSources_left hchanged hhas hhad, State.recombine_same]
        rfl

/-! ### The whole review of a zone -/

/-- A zone after the review of its PANEL (R10, R13, R134). -/
theorem State.reviewPanel_same (y : State) (old : Vector RouteCfg 16) (z : ZoneId) :
    let n := y.reviewPanel old z
    let before := panelIn old z
    let after := panelIn y.tables.routes z
    n.zone z =
        { y.zone z with
          confirmed := if after ≠ none ∧ before ≠ after then false else (y.zone z).confirmed
          switchOn := if before ≠ none ∧ after = none then true else (y.zone z).switchOn
          fan := if before ≠ none ∧ after = none then false else (y.zone z).fan
          status := (n.zone z).status }
      ∧ ((n.zone z).status = (y.zone z).status ∨ (n.zone z).status = n.statusOf z)
      ∧ (y.hasSource z = false ∨ before = none → (n.zone z).status = (y.zone z).status ∧ n.statusOf z = y.statusOf z) := by
  dsimp only
  by_cases hsame : panelIn old z = panelIn y.tables.routes z
  · rw [State.reviewPanel_kept hsame, hsame]
    refine ⟨?_, .inl rfl, fun _ => ⟨rfl, rfl⟩⟩
    cases panelIn y.tables.routes z <;> simp
  · cases hafter : panelIn y.tables.routes z with
    | some p =>
      rw [hafter] at hsame
      rw [State.reviewPanel_another hafter hsame]
      refine ⟨?_, .inl (by simp), fun _ => ⟨by simp, ?_⟩⟩
      · rw [State.zone_setZone_same]
        simp [hsame]
      · apply State.statusOf_congr <;> simp [State.house]
    | none =>
      rw [hafter] at hsame
      rw [State.reviewPanel_gone hafter hsame]
      have hswitch := y.takeSwitch_same z true false
      simp only [Bool.not_true, Bool.and_false, Bool.false_eq_true, if_false] at hswitch
      have hstatus : ((y.takeSwitch z true false).zone z).status =
          if y.heedsSwitch z && ((y.zone z).switchOn != true) then (y.takeSwitch z true false).statusOf z
          else (y.zone z).status := by conv_lhs => rw [hswitch]
      refine ⟨?_, ?_, fun hcase => ?_⟩
      · rw [hstatus, hswitch]
        simp [hsame]
      · rw [hstatus]
        split
        · exact .inr rfl
        · exact .inl rfl
      · have hnone : y.hasSource z = false := hcase.resolve_right hsame
        have hdeaf : y.heedsSwitch z = false := by simp [State.heedsSwitch, hnone]
        rw [hstatus, hdeaf, State.statusOf_noSource hnone, State.statusOf_noSource (by
          rw [State.hasSource_congr (s := y) (by simp)]; exact hnone), State.zoneCfg_congr (s := y) (by simp)]
        simp

/-- A PANEL of a zone is one of its sources (R4). -/
theorem sourceIn_of_panelIn {v : Vector RouteCfg 16} {z : ZoneId} (h : panelIn v z ≠ none) : sourceIn v z = true := by
  obtain ⟨p, hp⟩ := Option.ne_none_iff_exists'.1 h
  obtain ⟨i, hi, -⟩ := Option.map_eq_some_iff.1 hp
  have hpanel := List.find?_some hi
  rw [sourceIn, anyIx_iff]
  refine ⟨i, ?_⟩
  simp only [RouteCfg.isPanelOf, Bool.and_eq_true, decide_eq_true_eq] at hpanel
  obtain ⟨⟨hused, hrole⟩, hzone⟩ := hpanel
  simp [RouteCfg.isSourceOf, hused, hrole, hzone]

end Sys2Proof.Machine
end

section
/-! PROOF. WRITE TABLE of Route records: the zones, the queries and the whole write (R133 to R135, R166, R186). -/

namespace Sys2Proof.Machine

/-! ### A zone after the whole write -/

/-- A zone after a Route Table write, by its sources and its PANEL before and after. -/
theorem State.routesWritten_same (u : State) (v : Vector RouteCfg 16) (z : ZoneId) :
    let t := u.routesWritten v
    let changed := sourcesChanged u.tables.routes v z
    let had := sourceIn u.tables.routes z
    let has := sourceIn v z
    let before := panelIn u.tables.routes z
    let after := panelIn v z
    t.zone z =
        { u.zone z with
          t := if changed then (if has then combine (t.freshReadings (·.temp) z) else none) else (u.zone z).t
          h := if changed then (if has then combine (t.freshReadings (·.hum) z) else none) else (u.zone z).h
          lastFresh := if had && !has then none else (u.zone z).lastFresh
          loss := if had && !has then .stopped else if !had && has then .running (u.now + sec 60) else (u.zone z).loss
          call := if had && !has then .none else (u.zone z).call
          demand := if had && !has then 0 else (u.zone z).demand
          unmet := if had && !has then 0 else (u.zone z).unmet
          confirmed := if after ≠ none ∧ before ≠ after then false else (u.zone z).confirmed
          switchOn := if before ≠ none ∧ after = none then true else (u.zone z).switchOn
          fan := if before ≠ none ∧ after = none then false else (u.zone z).fan
          status := (t.zone z).status }
      ∧ (had = has → (t.zone z).status = (u.zone z).status ∨ (t.zone z).status = t.statusOf z)
      ∧ (had ≠ has → (t.zone z).status = t.statusOf z) := by
  dsimp only
  obtain ⟨x, hx, hz, hres⟩ := u.routesWritten_zone v z
  obtain ⟨⟨htables, hcomputation, hcommand, harbiter⟩, hroutes, hnow, -⟩ := hx
  have hv : x.tables.routes = v := congrArg Tables.routes htables
  have hfresh : ∀ pick, (u.routesWritten v).freshReadings pick z = x.freshReadings pick z := fun pick => by
    apply State.freshReadings_congr
    · simp [htables, State.routesWritten_eq, State.reviewZone]
    · simp [hroutes, State.routesWritten_eq, State.reviewZone]
    · simp [hnow, State.routesWritten_eq, State.reviewZone]
  have hstatus : (u.routesWritten v).statusOf z = (x.reviewZone u.tables.routes z).statusOf z := by
    apply State.statusOf_congr
    · simp [htables, State.routesWritten_eq, State.reviewZone]
    · simp [hcomputation, State.routesWritten_eq, State.reviewZone, State.routesInstalled]
    · simp [hcommand, State.routesWritten_eq, State.reviewZone, State.routesInstalled]
    · exact State.house_congr (by simp [harbiter, State.routesWritten_eq, State.reviewZone, State.routesInstalled])
    all_goals rw [hres]
  have hsources := x.reviewSources_same u.tables.routes z
  have hy : (x.reviewSources u.tables.routes z).tables.routes = v := by simpa using hv
  have hhas : (x.reviewSources u.tables.routes z).hasSource z = sourceIn v z := by rw [State.hasSource_eq, hy]
  have hnow' : x.now = u.now := hnow
  obtain ⟨hpanel, hmoves, hstays⟩ := (x.reviewSources u.tables.routes z).reviewPanel_same u.tables.routes z
  rw [hy] at hpanel
  rw [hhas] at hstays
  have hderived : ((x.reviewSources u.tables.routes z).zone z).status =
      if sourceIn u.tables.routes z = sourceIn v z then (u.zone z).status
      else (x.reviewSources u.tables.routes z).statusOf z := by
    conv_lhs => rw [hsources, hv, hz]
  rw [hres, hfresh, hfresh, hstatus, State.reviewZone]
  refine ⟨?_, fun hsame => ?_, fun hdiffer => ?_⟩
  · conv_lhs => rw [hpanel, hsources, hv, hz, hnow']
  · rw [hderived, if_pos hsame] at hmoves
    exact hmoves
  · have hcase : sourceIn v z = false ∨ panelIn u.tables.routes z = none := by
      by_contra hno
      obtain ⟨hv', hbefore⟩ := not_or.1 hno
      exact hdiffer ((sourceIn_of_panelIn hbefore).trans (Bool.eq_true_of_not_eq_false hv').symm)
    obtain ⟨hkept, hrule⟩ := hstays hcase
    rw [hkept, hrule, hderived, if_neg hdiffer]

/-! ### Two Route Tables compared (R133, R134) -/

theorem RouteCfg.isSourceOf_iff (c : RouteCfg) (z : ZoneId) :
    c.isSourceOf z = true ↔ c.used = true ∧ (c.role = .panel ∨ c.role = .sensor) ∧ c.zone = some z := by
  simp only [RouteCfg.isSourceOf, Bool.and_eq_true, Bool.or_eq_true, decide_eq_true_eq, and_assoc]

theorem RouteCfg.isPanelOf_iff (c : RouteCfg) (z : ZoneId) :
    c.isPanelOf z = true ↔ c.used = true ∧ c.role = .panel ∧ c.zone = some z := by
  simp only [RouteCfg.isPanelOf, Bool.and_eq_true, decide_eq_true_eq, and_assoc]

/-- An address leaves an entry: the used entry becomes unused or takes another one (R135). -/
def RouteCfg.leaves (a b : RouteCfg) : Prop := a.used = true ∧ (b.used = false ∨ a.address ≠ b.address)

theorem RouteCfg.renewed_iff (a b : RouteCfg) : a.renewed b = true ↔ a.used ≠ b.used ∨ a.leaves b := by
  simp only [RouteCfg.renewed, RouteCfg.leaves, Bool.or_eq_true, Bool.and_eq_true, decide_eq_true_eq]
  cases a.used <;> cases b.used <;> simp

theorem RouteCfg.leaves_iff (a b : RouteCfg) : (a.used && a.renewed b) = true ↔ a.leaves b := by
  rw [Bool.and_eq_true, RouteCfg.renewed_iff, RouteCfg.leaves]
  cases a.used <;> cases b.used <;> simp

theorem RouteCfg.reassigned_iff (a b : RouteCfg) : a.reassigned b = true ↔ a.role ≠ b.role ∨ a.zone ≠ b.zone := by
  simp only [RouteCfg.reassigned, Bool.or_eq_true, decide_eq_true_eq]

theorem RouteCfg.not_renewed_self (a : RouteCfg) : ¬a.renewed a = true := by
  simp [RouteCfg.renewed]

theorem RouteCfg.not_reassigned_self (a : RouteCfg) : ¬a.reassigned a = true := by
  simp [RouteCfg.reassigned]

theorem sourceIn_iff (v : Vector RouteCfg 16) (z : ZoneId) :
    sourceIn v z = true ↔ ∃ j : RouteId, (look v j).isSourceOf z = true :=
  anyIx_iff _

theorem sourcesChanged_iff (old new : Vector RouteCfg 16) (z : ZoneId) :
    sourcesChanged old new z = true ↔ ∃ j : RouteId,
      ((look old j).isSourceOf z = true ∧ ¬(look new j).isSourceOf z = true)
        ∨ ((look new j).isSourceOf z = true ∧ (¬(look old j).isSourceOf z = true ∨ (look old j).renewed (look new j) = true
          ∨ (look old j).reassigned (look new j) = true)) := by
  rw [sourcesChanged, anyIx_iff]
  refine exists_congr fun j => ?_
  dsimp only
  cases (look old j).isSourceOf z <;> cases (look new j).isSourceOf z <;> simp

theorem panelIn_eq_none_iff (v : Vector RouteCfg 16) (z : ZoneId) :
    panelIn v z = none ↔ ∀ j : RouteId, ¬(look v j).isPanelOf z = true := by
  simp [panelIn, List.find?_eq_none]

/-- In a table without clashes no zone has two PANELs (R120). -/
theorem panel_unique {v : Vector RouteCfg 16} (h : uniqueRoutes v = true) {z : ZoneId} {i j : RouteId}
    (hi : (look v i).isPanelOf z = true) (hj : (look v j).isPanelOf z = true) : i = j := by
  have hclash : ∀ a b : RouteId, a < b → (look v a).isPanelOf z = true → (look v b).isPanelOf z = true → False := by
    intro a b hlt ha hb
    rw [RouteCfg.isPanelOf_iff] at ha hb
    obtain ⟨hau, har, haz⟩ := ha
    obtain ⟨hbu, hbr, hbz⟩ := hb
    rw [uniqueRoutes, Bool.not_eq_true', anyIx_eq_false_iff] at h
    have hab := (anyIx_eq_false_iff _).1 (h a) b
    simp [hlt, RouteCfg.clashes, hau, hbu, har, hbr, haz, hbz] at hab
  rcases lt_trichotomy i j with hlt | heq | hlt
  · exact (hclash i j hlt hi hj).elim
  · exact heq
  · exact (hclash j i hlt hj hi).elim

/-- In a table without clashes the PANEL of a zone is the one entry that is a PANEL of it. -/
theorem panelIn_eq_some_iff {v : Vector RouteCfg 16} (h : uniqueRoutes v = true) (z : ZoneId) (i : RouteId) (a : Byte) :
    panelIn v z = some (i, a) ↔ (look v i).isPanelOf z = true ∧ (look v i).address = a := by
  rw [panelIn, Option.map_eq_some_iff]
  constructor
  · rintro ⟨j, hj, heq⟩
    obtain ⟨rfl, rfl⟩ := Prod.mk.inj heq
    exact ⟨List.find?_some (p := fun i => (look v i).isPanelOf z) hj, rfl⟩
  · rintro ⟨hpanel, rfl⟩
    cases hfind : (List.finRange 16).find? fun i : RouteId => (look v i).isPanelOf z with
    | none =>
      rw [List.find?_eq_none] at hfind
      exact absurd hpanel (hfind i (List.mem_finRange i))
    | some j =>
      have hj := List.find?_some (p := fun i => (look v i).isPanelOf z) hfind
      rw [panel_unique h hpanel hj]
      exact ⟨j, rfl, rfl⟩

/-- A zone gets a PANEL, or one of another address (R13, R134). -/
theorem panelIn_another_iff {old new : Vector RouteCfg 16} (hold : uniqueRoutes old = true) (hnew : uniqueRoutes new = true)
    (z : ZoneId) :
    (panelIn new z ≠ none ∧ panelIn old z ≠ panelIn new z) ↔
      ∃ j : RouteId, (look new j).isPanelOf z = true
        ∧ (¬(look old j).isPanelOf z = true ∨ (look old j).address ≠ (look new j).address) := by
  have hdiffers : ∀ j : RouteId, (look new j).isPanelOf z = true →
      (panelIn old z ≠ panelIn new z ↔
        ¬(look old j).isPanelOf z = true ∨ (look old j).address ≠ (look new j).address) := fun j hj => by
    rw [(panelIn_eq_some_iff hnew z j _).2 ⟨hj, rfl⟩, Ne, panelIn_eq_some_iff hold, not_and_or]
  constructor
  · rintro ⟨hsome, hne⟩
    obtain ⟨⟨j, a⟩, hj⟩ := Option.ne_none_iff_exists'.1 hsome
    obtain ⟨hpanel, -⟩ := (panelIn_eq_some_iff hnew z j a).1 hj
    exact ⟨j, hpanel, (hdiffers j hpanel).1 hne⟩
  · rintro ⟨j, hpanel, hcase⟩
    refine ⟨?_, (hdiffers j hpanel).2 hcase⟩
    rw [(panelIn_eq_some_iff hnew z j _).2 ⟨hpanel, rfl⟩]
    exact Option.some_ne_none _

/-- A zone loses its PANEL and gets none (R10, R134). -/
theorem panelIn_gone_iff (old new : Vector RouteCfg 16) (z : ZoneId) :
    (panelIn old z ≠ none ∧ panelIn new z = none) ↔
      (∃ j : RouteId, (look old j).isPanelOf z = true) ∧ ∀ j : RouteId, ¬(look new j).isPanelOf z = true := by
  rw [Ne, panelIn_eq_none_iff, panelIn_eq_none_iff, not_forall_not]

theorem RouteCfg.isSourceOf_of_isPanelOf {c : RouteCfg} {z : ZoneId} (h : c.isPanelOf z = true) : c.isSourceOf z = true := by
  obtain ⟨hused, hrole, hzone⟩ := (c.isPanelOf_iff z).1 h
  exact (c.isSourceOf_iff z).2 ⟨hused, .inl hrole, hzone⟩

/-- Two tables with the same PANEL entries of a zone have the same PANEL of it. -/
theorem panelIn_congr {old new : Vector RouteCfg 16} {z : ZoneId}
    (h : ∀ j : RouteId, look new j = look old j ∨ (¬(look old j).isPanelOf z = true ∧ ¬(look new j).isPanelOf z = true)) :
    panelIn old z = panelIn new z := by
  have hpanel : (fun i : RouteId => (look old i).isPanelOf z) = fun i => (look new i).isPanelOf z := by
    funext i
    rcases h i with hi | ⟨hold, hnew⟩
    · rw [hi]
    · rw [Bool.eq_false_of_not_eq_true hold, Bool.eq_false_of_not_eq_true hnew]
  rw [panelIn, panelIn, hpanel]
  refine Option.map_congr fun i hi => ?_
  have hi' := List.find?_some (p := fun i : RouteId => (look new i).isPanelOf z) hi
  rw [(h i).resolve_right fun hno => hno.2 hi']

/-- A zone that no entry that differs is a source of, before or after, is not touched. -/
theorem State.routesWritten_apart {u : State} {v : Vector RouteCfg 16} {z : ZoneId}
    (h : ∀ j : RouteId, look v j = look u.tables.routes j
      ∨ (¬(look u.tables.routes j).isSourceOf z = true ∧ ¬(look v j).isSourceOf z = true)) :
    (u.routesWritten v).zone z = u.zone z := by
  obtain ⟨x, ⟨⟨htables, -⟩, -⟩, hz, hres⟩ := u.routesWritten_zone v z
  have hv : x.tables.routes = v := congrArg Tables.routes htables
  have hsources : sourcesChanged u.tables.routes x.tables.routes z = false := by
    rw [hv, ← Bool.not_eq_true, sourcesChanged_iff]
    rintro ⟨j, hj⟩
    rcases h j with hsame | ⟨hold, hnew⟩
    · rw [hsame] at hj
      rcases hj with ⟨h1, h2⟩ | ⟨h1, h2 | h2 | h2⟩
      · exact h2 h1
      · exact h2 h1
      · exact RouteCfg.not_renewed_self _ h2
      · exact RouteCfg.not_reassigned_self _ h2
    · rcases hj with ⟨h1, -⟩ | ⟨h1, -⟩
      · exact hold h1
      · exact hnew h1
  have hpanels : panelIn u.tables.routes z = panelIn x.tables.routes z := by
    rw [hv]
    exact panelIn_congr fun j => (h j).imp_right fun ⟨hold, hnew⟩ =>
      ⟨fun hp => hold (RouteCfg.isSourceOf_of_isPanelOf hp), fun hp => hnew (RouteCfg.isSourceOf_of_isPanelOf hp)⟩
  rw [hres, State.reviewZone, State.reviewSources_unchanged hsources, State.reviewPanel_kept hpanels, hz]

/-! ### The queries of addresses that left (R135, R166) -/

/-- The relay without the queries of some addresses, off the line too. -/
def Relay.without (r : Relay) (gone : Byte → Bool) : Relay :=
  { r with
    entries := r.entries.filter fun e => !gone e.requester
    onLine := if r.entries.any fun e => r.onLineIs e && gone e.requester then none else r.onLine }

theorem Relay.without_none (r : Relay) : (r.without fun _ => false) = r := by
  simp [Relay.without]

/-- Addresses taken out one set after the other, or at once. -/
theorem Relay.without_without (r : Relay) (p q : Byte → Bool) : (r.without p).without q = r.without fun a => p a || q a := by
  have hentries : (r.entries.filter fun e => !p e.requester).filter (fun e => !q e.requester) =
      r.entries.filter fun e => !(p e.requester || q e.requester) := by
    rw [List.filter_filter]
    refine List.filter_congr fun e _ => ?_
    rw [Bool.not_or, Bool.and_comm]
  unfold Relay.without
  simp only [hentries, Relay.mk.injEq, true_and, and_true]
  by_cases hp : r.entries.any (fun e => r.onLineIs e && p e.requester) = true
  · have hboth : r.entries.any (fun e => r.onLineIs e && (p e.requester || q e.requester)) = true := by
      obtain ⟨e, he, hon⟩ := List.any_eq_true.1 hp
      obtain ⟨hline, hpe⟩ := Bool.and_eq_true_iff.1 hon
      exact List.any_eq_true.2 ⟨e, he, by simp [hline, hpe]⟩
    rw [if_pos hp, if_pos hboth, ite_self]
  · have hnot : ∀ e ∈ r.entries, r.onLineIs e = true → p e.requester = false := fun e he hline => by
      rw [← Bool.not_eq_true]
      exact fun hpe => hp (List.any_eq_true.2 ⟨e, he, by simp [hline, hpe]⟩)
    rw [if_neg hp]
    refine if_congr ?_ rfl rfl
    simp only [List.any_eq_true]
    refine exists_congr fun e => ?_
    rw [List.mem_filter, and_assoc]
    refine and_congr_right fun he => ?_
    show (!p e.requester) = true ∧ (r.onLineIs e && q e.requester) = true ↔ _
    cases hline : r.onLineIs e with
    | false => simp
    | true => simp [hnot e he hline]

theorem State.freeQueriesOf_relay (s : State) (a : Byte) :
    (s.freeQueriesOf a).relay = s.relay.without fun b => decide (b = a) := by
  simp [State.freeQueriesOf, Relay.without]

/-- An entry of the table's review frees the queries of the address that left it. -/
theorem State.reviewQueries_relay (s : State) (old : Vector RouteCfg 16) (i : RouteId) :
    (s.reviewQueries old i).relay =
      s.relay.without fun b =>
        (look old i).used && (look old i).renewed (look s.tables.routes i) && decide (b = (look old i).address) := by
  rw [State.reviewQueries, State.routeCfg]
  cases (look old i).used && (look old i).renewed (look s.tables.routes i) with
  | true => simp [State.freeQueriesOf_relay]
  | false => simp [Relay.without_none]

/-- After the whole review the queries of every address that left are gone, and no other. -/
theorem State.forIx_reviewQueries_relay (s : State) (old : Vector RouteCfg 16) :
    (s.forIx fun i t => t.reviewQueries old i).relay =
      s.relay.without fun b => anyIx fun i : RouteId =>
        (look old i).used && (look old i).renewed (look s.tables.routes i) && decide (b = (look old i).address) := by
  unfold State.forIx anyIx
  generalize List.finRange 16 = l
  induction l generalizing s with
  | nil => simp [Relay.without_none]
  | cons i l ih =>
    rw [List.foldl_cons, ih, State.reviewQueries_relay, Relay.without_without]
    have htables : (s.reviewQueries old i).tables = s.tables := by simp
    simp only [htables, List.any_cons]

end Sys2Proof.Machine
end

section
/-! PROOF. WRITE TABLE of Route records is all or nothing (R120, R133 to R135, R186). -/

namespace Sys2Proof.Machine

theorem State.routesWritten_events (u : State) (v : Vector RouteCfg 16) : (u.routesWritten v).events = u.events := by
  rw [State.routesWritten_eq, State.forIx_events _ _ (by simp), State.forIx_events _ _ fun i t => t.reviewZone_events _ i]
  rfl

/-- What a Route Table write touches. -/
theorem State.routesWritten_touches (u : State) (v : Vector RouteCfg 16) :
    u.routesWritten v =
      { u with
        tables := { u.tables with routes := v }
        routes := (u.routesWritten v).routes
        zones := (u.routesWritten v).zones
        relay := (u.routesWritten v).relay } := by
  ext1
  case events => exact u.routesWritten_events v
  all_goals simp [State.routesWritten]

/-- The runtime part of an entry after a write (R133). -/
theorem State.routesWritten_routeRun (u : State) (v : Vector RouteCfg 16) (j : RouteId) :
    (u.routesWritten v).routeRun j = (u.routeRun j).aligned (u.routeCfg j) (look v j) := by
  have hroutes : (u.routesWritten v).routes = (u.routesInstalled v).routes := by
    simp [State.routesWritten_eq, State.reviewZone]
  rw [State.routeRun, hroutes, State.routesInstalled, look_tab]
  rfl

theorem State.routesWritten_relay (u : State) (v : Vector RouteCfg 16) :
    (u.routesWritten v).relay =
      u.relay.without fun a => anyIx fun i : RouteId =>
        (u.routeCfg i).used && (u.routeCfg i).renewed (look v i) && decide (a = (u.routeCfg i).address) := by
  have hrelay : ((u.routesInstalled v).forIx fun z t => t.reviewZone u.tables.routes z).relay = u.relay := by
    simp [State.reviewZone, State.routesInstalled]
  have htables : ((u.routesInstalled v).forIx fun z t => t.reviewZone u.tables.routes z).tables.routes = v := by
    simp [State.reviewZone, State.routesInstalled]
  rw [State.routesWritten_eq, State.forIx_reviewQueries_relay, hrelay, htables]
  rfl

section
variable (u : State) (v : Vector RouteCfg 16) (z : ZoneId)

/-- No Route Table write touches setpoints or the damper fault mark. -/
theorem State.routesWritten_setpoints :
    ((u.routesWritten v).zone z).sh = (u.zone z).sh ∧ ((u.routesWritten v).zone z).sc = (u.zone z).sc
      ∧ ((u.routesWritten v).zone z).hd = (u.zone z).hd
      ∧ ((u.routesWritten v).zone z).damperFault = (u.zone z).damperFault := by
  rw [(u.routesWritten_same v z).1]
  exact ⟨rfl, rfl, rfl, rfl⟩

/-- What a write does to a zone for its PANEL (R10, R13, R134). -/
theorem State.routesWritten_panel :
    ((u.routesWritten v).zone z).confirmed =
        (if panelIn v z ≠ none ∧ panelIn u.tables.routes z ≠ panelIn v z then false else (u.zone z).confirmed)
      ∧ ((u.routesWritten v).zone z).switchOn =
        (if panelIn u.tables.routes z ≠ none ∧ panelIn v z = none then true else (u.zone z).switchOn)
      ∧ ((u.routesWritten v).zone z).fan =
        (if panelIn u.tables.routes z ≠ none ∧ panelIn v z = none then false else (u.zone z).fan) := by
  rw [(u.routesWritten_same v z).1]
  exact ⟨rfl, rfl, rfl⟩

variable {u v z}

/-- A zone that loses its last source (R7). -/
theorem State.routesWritten_lost (hhad : sourceIn u.tables.routes z = true) (hhas : sourceIn v z = false) :
    let n := (u.routesWritten v).zone z
    n.t = none ∧ n.h = none ∧ n.lastFresh = none ∧ n.loss = .stopped ∧ n.call = .none ∧ n.demand = 0 ∧ n.unmet = 0
      ∧ n.status = (u.routesWritten v).statusOf z := by
  have hdiffer : sourceIn u.tables.routes z ≠ sourceIn v z := by rw [hhad, hhas]; decide
  obtain ⟨hzone, -, hstatus⟩ := u.routesWritten_same v z
  refine and_assoc.1 (and_assoc.1 (and_assoc.1 (and_assoc.1 (and_assoc.1 (and_assoc.1 ⟨?_, hstatus hdiffer⟩)))))
  rw [hzone, sourcesChanged_of_sourceIn_ne hdiffer, hhad, hhas]
  exact ⟨⟨⟨⟨⟨⟨rfl, rfl⟩, rfl⟩, rfl⟩, rfl⟩, rfl⟩, rfl⟩

/-- A zone that gains its first source (R7). -/
theorem State.routesWritten_gained (hhad : sourceIn u.tables.routes z = false) (hhas : sourceIn v z = true) :
    let n := (u.routesWritten v).zone z
    n.loss = .running (u.now + sec 60) ∧ n.lastFresh = (u.zone z).lastFresh ∧ n.call = (u.zone z).call
      ∧ n.demand = (u.zone z).demand ∧ n.unmet = (u.zone z).unmet ∧ n.status = (u.routesWritten v).statusOf z := by
  have hdiffer : sourceIn u.tables.routes z ≠ sourceIn v z := by rw [hhad, hhas]; decide
  obtain ⟨hzone, -, hstatus⟩ := u.routesWritten_same v z
  refine and_assoc.1 (and_assoc.1 (and_assoc.1 (and_assoc.1 ⟨?_, hstatus hdiffer⟩)))
  rw [hzone, hhad, hhas]
  exact ⟨⟨⟨⟨rfl, rfl⟩, rfl⟩, rfl⟩, rfl⟩

/-- A zone with sources before and after, or with none before and after. -/
theorem State.routesWritten_stays (h : sourceIn u.tables.routes z = sourceIn v z) :
    let n := (u.routesWritten v).zone z
    n.loss = (u.zone z).loss ∧ n.lastFresh = (u.zone z).lastFresh ∧ n.call = (u.zone z).call
      ∧ n.demand = (u.zone z).demand ∧ n.unmet = (u.zone z).unmet
      ∧ (n.status = (u.zone z).status ∨ n.status = (u.routesWritten v).statusOf z) := by
  obtain ⟨hzone, hstatus, -⟩ := u.routesWritten_same v z
  refine and_assoc.1 (and_assoc.1 (and_assoc.1 (and_assoc.1 ⟨?_, hstatus h⟩)))
  rw [hzone, h]
  cases sourceIn v z <;> exact ⟨⟨⟨⟨rfl, rfl⟩, rfl⟩, rfl⟩, rfl⟩

/-- A zone whose set of sources changed and which has one left is combined anew (R6, R134). -/
theorem State.routesWritten_combined (hhas : sourceIn v z = true) (hchanged : sourcesChanged u.tables.routes v z = true) :
    let t := u.routesWritten v
    (t.zone z).t = combine (t.freshReadings (·.temp) z) ∧ (t.zone z).h = combine (t.freshReadings (·.hum) z) := by
  dsimp only
  rw [(u.routesWritten_same v z).1, hhas, hchanged]
  exact ⟨rfl, rfl⟩

theorem State.routesWritten_uncombined (hchanged : sourcesChanged u.tables.routes v z = false) :
    ((u.routesWritten v).zone z).t = (u.zone z).t ∧ ((u.routesWritten v).zone z).h = (u.zone z).h := by
  rw [(u.routesWritten_same v z).1, hchanged]
  exact ⟨rfl, rfl⟩

end

/-- The records that a write puts into a table, by their place. -/
theorem writeAt_eq_tab {α : Type} {n : Nat} (v : Vector α n) (start : Nat) (xs : List α) :
    writeAt v start xs = tab fun j => if start ≤ j.val then (xs[j.val - start]?).getD (look v j) else look v j := by
  refine look_ext fun j => ?_
  rw [look_writeAt, look_tab]
  by_cases hle : start ≤ j.val
  · rw [if_pos hle, List.getD_eq_getElem?_getD]
    split
    · rfl
    · next hc =>
      rw [covers_iff] at hc
      rw [List.getElem?_eq_none (by omega), Option.getD_none]
  · rw [if_neg hle, if_neg (by rw [covers_iff]; omega)]

/-- A WRITE TABLE of valid Route records: CONFLICT for a table that would clash, or the write (R186). -/
theorem State.writeTable_routes {u : State} {start : Nat} {xs : List RouteCfg} (hone : 1 ≤ xs.length) (hfive : xs.length ≤ 5)
    (hspan : start + xs.length ≤ 16) (hvalid : ∀ c ∈ xs, c.valid = true ∧ c.stored = c) (hsave : u.storeState ≠ .saving) :
    u.writeTable ([0x00, u8 start, u8 xs.length] ++ xs.flatMap RouteCfg.bytes) =
      if uniqueRoutes (writeAt u.tables.routes start xs) then
        (u.routesWritten (writeAt u.tables.routes start xs)).grant [0x00, u8 start, u8 xs.length]
      else u.refuse .conflict := by
  have hrecords : recordsOf routeRecord 5 xs.length (xs.flatMap RouteCfg.bytes) = some xs := by
    refine recordsOf_flatMap RouteCfg.length_bytes fun c hc => ?_
    obtain ⟨hv, hstored⟩ := hvalid c hc
    rw [routeRecord_bytes hv, hstored]
  rw [State.writeTable_of_records (k := .route) rfl ((indexFits_iff _ _ _).2 ⟨hone, hspan, hfive⟩)
    (length_flatMap_records RouteCfg.length_bytes xs) hsave]
  simp only [State.writeRecords, Table.recordLength, hrecords]

/-- Settles O29: the write as a whole, then entries, zones and queries by the comparison of the two tables. -/
theorem routeWriteIsAllOrNothing : Obligations.RouteWriteIsAllOrNothing := by
  intro s dt b w q p start xs hreq hq hone hfive hspan hvalid hsave u written old new left renewed moved source panel
  have hv : writeAt u.tables.routes start xs = tab new := writeAt_eq_tab _ _ _
  have hlook : ∀ j, look (tab new) j = new j := fun j => look_tab _ _
  have hwrite := State.writeTable_routes (u := u) hone hfive hspan hvalid hsave
  rw [← hq, hv] at hwrite
  refine ⟨fun hclash => ?_, fun hunique => ?_⟩
  · rw [hclash, if_neg Bool.false_ne_true] at hwrite
    exact hreq.writes hwrite
  · rw [hunique, if_pos rfl] at hwrite
    have hrenewed : ∀ j, (old j).renewed (new j) = true ↔ renewed j := fun j => RouteCfg.renewed_iff _ _
    have hmoved : ∀ j, (old j).reassigned (new j) = true ↔ moved j := fun j => RouteCfg.reassigned_iff _ _
    have hsource : ∀ (c : RouteCfg) (z : ZoneId), c.isSourceOf z = true ↔ source c z := RouteCfg.isSourceOf_iff
    have hpanel : ∀ (c : RouteCfg) (z : ZoneId), c.isPanelOf z = true ↔ panel c z := RouteCfg.isPanelOf_iff
    refine ⟨_, hreq.writes hwrite, u.routesWritten_touches _, fun j => ?_, fun z => ?_, ?_⟩
    · rw [State.grant_state, State.routesWritten_routeRun, hlook, RouteRun.aligned]
      refine ⟨fun hr => if_pos ((hrenewed j).2 hr), fun hr hm => ?_, fun hr hm => ?_⟩
      · exact (if_neg fun h => hr ((hrenewed j).1 h)).trans (if_pos ((hmoved j).2 hm))
      · exact (if_neg fun h => hr ((hrenewed j).1 h)).trans (if_neg fun h => hm ((hmoved j).1 h))
    · intro r n had has changed another gone
      have hhad : sourceIn u.tables.routes z = true ↔ had := by
        rw [sourceIn_iff]
        exact exists_congr fun j => hsource _ _
      have hhas : sourceIn (tab new) z = true ↔ has := by
        rw [sourceIn_iff]
        exact exists_congr fun j => by rw [hlook]; exact hsource _ _
      have hchanged : sourcesChanged u.tables.routes (tab new) z = true ↔ changed := by
        rw [sourcesChanged_iff]
        refine exists_congr fun j => ?_
        rw [hlook]
        exact or_congr (and_congr (hsource _ _) (not_congr (hsource _ _))) (and_congr (hsource _ _)
          (or_congr (not_congr (hsource _ _)) (or_congr (hrenewed j) (hmoved j))))
      have hgone : (panelIn u.tables.routes z ≠ none ∧ panelIn (tab new) z = none) ↔ gone := by
        rw [panelIn_gone_iff]
        exact and_congr (exists_congr fun j => hpanel _ _) (forall_congr' fun j => by rw [hlook, hpanel])
      obtain ⟨hconfirmed, hswitch, hfan⟩ := u.routesWritten_panel (tab new) z
      refine ⟨fun hapart => ?_, u.routesWritten_setpoints _ z,
        fun hbefore hafter => State.routesWritten_lost (hhad.2 hbefore)
          (Bool.eq_false_of_not_eq_true fun h => hafter (hhas.1 h)),
        fun hbefore hafter => State.routesWritten_gained (Bool.eq_false_of_not_eq_true fun h => hbefore (hhad.1 h))
          (hhas.2 hafter),
        fun hboth => State.routesWritten_stays (Bool.eq_iff_iff.2 (hhad.trans (hboth.trans hhas.symm))),
        fun hafter hmove => State.routesWritten_combined (hhas.2 hafter) (hchanged.2 hmove),
        fun hstill => State.routesWritten_uncombined (Bool.eq_false_of_not_eq_true fun h => hstill (hchanged.1 h)),
        fun hold => ?_, hswitch.trans (if_congr hgone rfl rfl), hfan.trans (if_congr hgone rfl rfl)⟩
      · refine State.routesWritten_apart fun j => ?_
        rw [hlook]
        by_cases hw : written j
        · exact .inr ⟨fun h => (hapart j hw).1 ((hsource _ _).1 h), fun h => (hapart j hw).2 ((hsource _ _).1 h)⟩
        · rw [← hlook, ← hv]
          refine .inl (look_writeAt_outside ?_)
          rw [← Bool.not_eq_true, covers_iff]
          exact hw
      · have hanother : (panelIn (tab new) z ≠ none ∧ panelIn u.tables.routes z ≠ panelIn (tab new) z) ↔ another := by
          refine (panelIn_another_iff (old := u.tables.routes) hold hunique z).trans (exists_congr fun j => ?_)
          rw [hlook]
          exact and_congr (hpanel _ _) (or_congr (not_congr (hpanel _ _)) Iff.rfl)
        exact hconfirmed.trans (if_congr hanother rfl rfl)
    · rw [State.grant_state, State.routesWritten_relay]
      have hleft : ∀ a : Byte, (anyIx fun i : RouteId => (u.routeCfg i).used && (u.routeCfg i).renewed (look (tab new) i)
          && decide (a = (u.routeCfg i).address)) = true ↔ ∃ j, left j ∧ a = (old j).address := fun a => by
        rw [anyIx_iff]
        refine exists_congr fun j => ?_
        rw [hlook, Bool.and_eq_true, decide_eq_true_eq, RouteCfg.leaves_iff]
        rfl
      have hgone : ∀ (a : Byte) [Decidable (∃ j, left j ∧ a = (old j).address)],
          (anyIx fun i : RouteId => (u.routeCfg i).used && (u.routeCfg i).renewed (look (tab new) i)
            && decide (a = (u.routeCfg i).address)) = decide (∃ j, left j ∧ a = (old j).address) := fun a _ =>
        Bool.eq_iff_iff.2 ((hleft a).trans decide_eq_true_iff.symm)
      refine (Relay.mk.injEq ..).mpr ⟨List.filter_congr fun e _ => congrArg _ (hgone _), if_congr ?_ rfl rfl, rfl⟩
      rw [List.any_eq_true]
      refine exists_congr fun e => and_congr_right fun _ => ?_
      rw [Bool.and_eq_true, and_comm]
      exact and_congr (hleft _) decide_eq_true_iff

end Sys2Proof.Machine
end

section
/-! PROOF. Start-up completion (R28, R102, R115, R173, R180, R182). -/

namespace Sys2Proof.Machine

/-! ### The first events (R180, R191) -/

theorem Event.code_lt (e : Event) : e.code < 16 := by
  cases e <;> decide

theorem Event.code_inj {e f : Event} : e.code = f.code ↔ e = f := by
  cases e <;> cases f <;> decide

/-- A raised event is marked, and the marks of the others stay. -/
theorem marked_afterRaise (x : EventList) (e f : Event) :
    marked (afterRaise x e).raised f = (marked x.raised f || decide (f = e)) := by
  unfold afterRaise
  split
  · next h =>
    by_cases hf : f = e
    · rw [hf, h, Bool.true_or]
    · simp [hf]
  · simp [marked, Event.bit, f.code_lt, Event.code_inj, eq_comm]

/-- Every raised event waits for its delivery and none is on offer. -/
def EventList.Unsent (x : EventList) : Prop := x.undelivered = x.raised ∧ x.offer = none

theorem EventList.Unsent.afterRaise {x : EventList} (h : x.Unsent) (e : Event) : (afterRaise x e).Unsent := by
  obtain ⟨hmarks, hoffer⟩ := h
  unfold Machine.afterRaise
  split
  · exact ⟨hmarks, hoffer⟩
  · exact ⟨by rw [hmarks], by rw [hoffer]; rfl⟩

theorem State.firstEvents_events (s : State) :
    s.firstEvents.events =
      let x := afterRaise clearedEvents .restart
      let y := if s.supply.latch then afterRaise x .shutdown else x
      if s.supply.supply = .sag then afterRaise y .supplySag else y := by
  simp only [State.firstEvents]
  cases hlatch : s.supply.latch <;> by_cases hsag : s.supply.supply = .sag <;> simp [hlatch, hsag]

theorem State.firstEvents_marked (s : State) (e : Event) :
    marked s.firstEvents.events.raised e =
      (decide (e = .restart) || (decide (e = .shutdown) && s.supply.latch)
        || (decide (e = .supplySag) && decide (s.supply.supply = .sag))) := by
  have hnone : marked clearedEvents.raised e = false := by simp [marked, clearedEvents]
  rw [State.firstEvents_events]
  cases s.supply.latch <;> by_cases hsag : s.supply.supply = .sag <;> simp [hsag, marked_afterRaise, hnone]

theorem State.firstEvents_unsent (s : State) : s.firstEvents.events.Unsent := by
  have hrestart : (afterRaise clearedEvents .restart).Unsent := EventList.Unsent.afterRaise ⟨rfl, rfl⟩ _
  rw [State.firstEvents_events]
  dsimp only
  split <;> split
  · exact (hrestart.afterRaise _).afterRaise _
  · exact hrestart.afterRaise _
  · exact hrestart.afterRaise _
  · exact hrestart

/-! ### The first plant round (R115, R116) -/

theorem State.wakeDue_iff (s : State) (n : Node) :
    s.wakeDue n = true ↔ ∀ w, s.plant.lastWake.get n = some w → w + sec 2 ≤ s.now := by
  unfold State.wakeDue
  split
  · next h => simp [h]
  · next w h => simp [h]

theorem State.sendsTo_iff (s : State) (n : Node) :
    s.sendsTo n = true ↔ (s.link n).state ≠ .down ∨ ∀ w, s.plant.lastWake.get n = some w → w + sec 2 ≤ s.now := by
  rw [State.sendsTo, Bool.or_eq_true, decide_eq_true_eq, State.wakeDue_iff]

theorem Relay.offered_isSome_iff (r : Relay) :
    r.offered.isSome = true ↔ ∃ e ∈ r.entries, e.state = .waiting ∧ r.onLine ≠ some e.tag := by
  simp [Relay.offered, Relay.onLineIs, List.find?_isSome]

/-- The slot in which a round begins. -/
def State.firstSlot (s : State) : Slot :=
  if s.sendsTo .airHandler then .airHandler else if s.sendsTo .outdoorUnit then .outdoorUnit
  else if s.relay.offered.isSome then .query else .over

theorem State.startRound_plant (s : State) :
    s.startRound.plant =
      { s.plant with roundDue := some (s.now + ms 500), slot := s.firstSlot, dueSince := s.now } := by
  have hsends : ∀ n, (s.setPlant { s.plant with roundDue := s.after (ms 500) }).sendsTo n = s.sendsTo n := fun n => rfl
  simp only [State.startRound, State.beginRound, State.beginOutdoorSlot, State.beginQuerySlot, State.firstSlot, hsends]
  split
  · rfl
  · split <;> rfl

theorem State.firstSlot_spec (s : State) :
    (s.sendsTo .airHandler = true → s.firstSlot = .airHandler)
      ∧ (¬s.sendsTo .airHandler = true → s.sendsTo .outdoorUnit = true → s.firstSlot = .outdoorUnit)
      ∧ (¬s.sendsTo .airHandler = true → ¬s.sendsTo .outdoorUnit = true →
        (s.firstSlot = .query ∨ s.firstSlot = .over)
          ∧ (s.firstSlot = .query ↔ ∃ e ∈ s.relay.entries, e.state = .waiting ∧ s.relay.onLine ≠ some e.tag)) := by
  rw [← Relay.offered_isSome_iff]
  unfold State.firstSlot
  refine ⟨fun h => if_pos h, fun h1 h2 => (if_neg h1).trans (if_pos h2), fun h1 h2 => ?_⟩
  rw [if_neg h1, if_neg h2]
  cases s.relay.offered.isSome <;> simp

theorem State.firstSlot_congr {s t : State} (now : t.now = s.now) (links : t.links = s.links) (plant : t.plant = s.plant)
    (relay : t.relay = s.relay) : t.firstSlot = s.firstSlot := by
  have hsends : ∀ n, t.sendsTo n = s.sendsTo n := fun n => Bool.eq_iff_iff.2 <| by
    rw [State.sendsTo_iff, State.sendsTo_iff, State.link, State.link, links, plant, now]
  simp only [State.firstSlot, hsends, relay]

/-! ### The retained level (R167, R173) -/

/-- A hold that runs for whole seconds from now has those seconds left (R1). -/
theorem Decoder.holdLeft_now {d : Decoder} {now : Time} {n : Nat} (h : d.holdDue = some (now + sec n)) (hn : 0 < n) :
    d.holdLeft now = n := by
  rw [Decoder.holdLeft, h]
  simp only [sec]
  omega

/-! ### Start-up completion as a whole -/

section
variable (u : State)

theorem State.startBlocks_supply :
    u.startBlocks.supply = { u.supply with latch := decide (u.supply.input = .asserted) } := by
  rw [State.startBlocks_eq]
  simp [State.blocksSet]

theorem State.startBlocks_arbiter : u.startBlocks.arbiter = u.blocksSet.arbiter := by
  rw [State.startBlocks_eq]
  simp

theorem State.startBlocks_channels : u.startBlocks.channels = u.blocksSet.channels := by
  rw [State.startBlocks_eq]
  simp

theorem State.startBlocks_decoder :
    u.startBlocks.decoder =
      { resetDecoder u.decoder.pin with
        train := if u.decoder.pin then .waitRest else .quiet
        level := u.retained.level
        holdDue := if u.retained.level = .release then none else some (u.now + sec u.retained.holdLeft) } := by
  have hdecoder : (u.blocksSet.forIx fun z t => t.deriveStatus z : State).decoder = u.decoder := by simp [State.blocksSet]
  have hretained : (u.blocksSet.forIx fun z t => t.deriveStatus z : State).retained = u.retained := by simp [State.blocksSet]
  have hnow : (u.blocksSet.forIx fun z t => t.deriveStatus z : State).now = u.now := by simp [State.blocksSet]
  rw [State.startBlocks_eq]
  simp only [State.startDecoder, State.after, hdecoder, hretained, hnow]
  rfl

/-- The retained area is written as it was read: the level with the time left of its hold (R167, R173). -/
theorem State.startBlocks_retained (h : u.retained.level = .release ↔ u.retained.holdLeft = 0) :
    u.startBlocks.retained = u.retained := by
  have hkept : u.startBlocks.retained =
      { u.retained with level := u.startBlocks.decoder.level, holdLeft := u.startBlocks.decoder.holdLeft u.now } := by
    rw [State.startBlocks_eq]
    simp [State.startDecoder, State.retain, State.keptArea, State.blocksSet]
  have hleft : u.startBlocks.decoder.holdLeft u.now = u.retained.holdLeft := by
    by_cases hrel : u.retained.level = .release
    · rw [State.startBlocks_decoder, Decoder.holdLeft, if_pos hrel, h.1 hrel]
    · refine Decoder.holdLeft_now ?_ (Nat.pos_of_ne_zero fun h0 => hrel (h.2 h0))
      rw [State.startBlocks_decoder, if_neg hrel]
  rw [hkept, hleft, State.startBlocks_decoder]

end

/-- What start-up completion touches. -/
theorem State.completeStart_touches (u : State) :
    u.completeStart =
      { u with
        phase := .running, supply := u.completeStart.supply, arbiter := u.completeStart.arbiter
        zones := u.completeStart.zones, slotLimit := u.profile.slots, decoder := u.completeStart.decoder
        retained := u.completeStart.retained, events := u.completeStart.events
        homingDue := if u.supply.input = .asserted then none else some (max u.now (u.resetAt + sec 2))
        channels := u.completeStart.channels
        room := { u.room with dueSince := u.now }
        plant := { u.plant with
          roundDue := some (u.now + ms 500), slot := u.completeStart.plant.slot, dueSince := u.now } } := by
  ext1
  case plant => simp [State.completeStart, State.startRound_plant, State.startBlocks_eq, State.blocksSet]
  all_goals simp [State.completeStart, State.startBlocks_eq, State.blocksSet]

/-- The status of a zone as start-up completion leaves it, where no spill stands (R23). -/
theorem State.completeStart_status {u : State} {z : ZoneId} (h : look u.computation.spill z = false) :
    (u.completeStart.zone z).status =
      if (u.zoneCfg z).enabled = false then .disabled else if u.hasSource z then .satisfied else .noSource := by
  have hzone := u.completeStart_zone z
  have hcfg : u.completeStart.zoneCfg z = u.zoneCfg z :=
    State.zoneCfg_congr (by simp [State.completeStart, State.startBlocks_eq, State.blocksSet]) z
  have hsource : u.completeStart.hasSource z = u.hasSource z :=
    State.hasSource_congr (by simp [State.completeStart, State.startBlocks_eq, State.blocksSet]) z
  have hspill : look u.completeStart.computation.spill z = false := by
    rw [State.completeStart_touches]
    exact h
  have hcall : (u.completeStart.zone z).call = .none := by rw [hzone]; rfl
  have hswitch : (u.completeStart.zone z).switchOn = true := by rw [hzone]; rfl
  have hfan : (u.completeStart.zone z).fan = false := by rw [hzone]; rfl
  have hloss : (u.completeStart.zone z).expired = false := by
    rw [hzone]
    simp only [ZoneRun.expired, State.startZone]
    split <;> rfl
  have hserved : u.completeStart.isServed z = false := by simp [State.isServed, State.fanCounts, hcall, hfan]
  have hstatus : (u.completeStart.zone z).status = u.completeStart.statusOf z := by
    conv_lhs => rw [hzone]
  rw [hstatus, State.statusOf, hcfg, hsource, hspill, hcall, hswitch, hserved, State.isLost_eq_false hloss]
  cases (u.zoneCfg z).enabled <;> cases u.hasSource z <;> simp

/-- Settles O59: the blocks as set, the first events and the first round. -/
theorem startUpCompletes : Obligations.StartUpCompletes := by
  intro s dt hphase now latch sends
  set u := s.elapse dt with hu
  have hexec : exec (.startUpCompletion dt) s = .next u.completeStart := congrArg Host.Outcome.next (if_pos hphase)
  have hretained : u.retained = s.retained := if_neg (by simp [State.isRunning, hphase])
  have hsends : ∀ n, u.sendsTo n = true ↔ sends n := fun n => u.sendsTo_iff n
  have hslot : u.completeStart.plant.slot = u.firstSlot := by
    rw [State.completeStart, State.startRound_plant]
    exact State.firstSlot_congr (by simp) (by simp) (by simp) (by simp)
  obtain ⟨hair, houtdoor, hquery⟩ := u.firstSlot_spec
  rw [hsends] at hair
  rw [hsends, hsends] at houtdoor hquery
  rw [← hslot] at hair houtdoor hquery
  have hsupply : u.completeStart.supply = u.startBlocks.supply := by simp [State.completeStart]
  have harbiter : u.completeStart.arbiter = u.startBlocks.arbiter := by simp [State.completeStart]
  have hchannels : u.completeStart.channels = u.startBlocks.channels := by simp [State.completeStart]
  have hdecoder : u.completeStart.decoder = u.startBlocks.decoder := by simp [State.completeStart]
  have hevents : u.completeStart.events = u.startBlocks.firstEvents.events := by simp [State.completeStart]
  rw [State.startBlocks_supply] at hsupply
  rw [State.startBlocks_arbiter] at harbiter
  rw [State.startBlocks_channels] at hchannels
  rw [State.startBlocks_decoder, hretained] at hdecoder
  obtain ⟨hundelivered, hoffer⟩ := u.startBlocks.firstEvents_unsent
  have hzone := u.completeStart_zone
  refine ⟨_, hexec, State.completeStart_touches u, hair, houtdoor, hquery, fun c => ?_, hsupply, ?_, ?_, ?_, ?_, ?_, ?_,
    fun z => ?_, ?_, ?_, ?_, fun hsame => ?_, fun e => ?_, ?_, ?_⟩
  · rw [State.channel, hchannels, State.blocksSet]
    exact look_tab _ _
  · rw [State.house, harbiter]
    rfl
  · rw [harbiter]
    rfl
  · rw [harbiter]
    rfl
  · rw [harbiter]
    rfl
  · rw [harbiter]
    rfl
  · rw [harbiter]
    rfl
  · refine ⟨?_, ?_, ?_, ?_, ?_, ?_, ?_, fun hspill => State.completeStart_status (u := u) hspill⟩ <;> rw [hzone] <;> rfl
  · rw [hdecoder]
  · rw [hdecoder]
    rfl
  · rw [hdecoder]
    rfl
  · have hkept : u.completeStart.retained = u.startBlocks.retained := by simp [State.completeStart]
    rw [hkept, State.startBlocks_retained u (hretained ▸ hsame), hretained]
  · rw [hevents, State.firstEvents_marked, State.startBlocks_supply]
    rfl
  · rw [hevents, hundelivered]
  · rw [hevents, hoffer]

end Sys2Proof.Machine
end

section
/-! PROOF. Writing the plant command record and entering a house state (R27, R32, R36, R39, R53): the record, the arbiter and the event
marks after each, and the house invariant after a turn of the house. -/

namespace Sys2Proof.Machine

/-! ### Writes of the record (R27, R36, R53) -/

@[simp] theorem State.writeCommand_command (s : State) (c : Command) : (s.writeCommand c).command = c := by
  simp [State.writeCommand]

@[simp] theorem State.writeCommand_arbiter (s : State) (c : Command) :
    (s.writeCommand c).arbiter = s.arbiter.atOutMode s.now s.command.outMode c.outMode := by
  simp [State.writeCommand]

/-- MODE CHANGE is raised by a write that changes the outdoor mode (R53). -/
theorem State.writeCommand_events (s : State) (c : Command) :
    (s.writeCommand c).events = if s.command.outMode = c.outMode then s.events else afterRaise s.events .modeChange := by
  by_cases h : s.command.outMode = c.outMode <;> simp [State.writeCommand, h]

theorem State.writeCommand_events_congr {s t : State} (command : t.command = s.command) (events : t.events = s.events)
    (c : Command) : (t.writeCommand c).events = (s.writeCommand c).events := by
  rw [State.writeCommand_events, State.writeCommand_events, command, events]

@[simp] theorem State.enterHouse_arbiter (s : State) (h : HouseState) :
    (s.enterHouse h).arbiter =
      { s.arbiter with house := h, hold := if s.arbiter.house = h then s.arbiter.hold else false } := rfl

@[simp] theorem State.stopHouseTimers_arbiter (s : State) :
    s.stopHouseTimers.arbiter = { s.arbiter with dwellStart := none, defrostDue := none, remembered := none } := rfl

@[simp] theorem State.setTarget_arbiter (s : State) (t : Option Target) :
    (s.setTarget t).arbiter = { s.arbiter with pendingTarget := t } := rfl

section
variable (x : Arbiter) (now : Time) (a b : OutMode)

@[simp] theorem Arbiter.atOutMode_same : x.atOutMode now a a = x := by
  cases a <;> rfl

theorem Arbiter.atOutMode_start (h : b ≠ .off) :
    x.atOutMode now .off b =
      { x with runStart := some now, restStart := none, lastRun := b.run, pendingTarget := none } :=
  if_pos ⟨rfl, h⟩

theorem Arbiter.atOutMode_stop (h : a ≠ .off) :
    x.atOutMode now a .off = { x with runStart := none, restStart := some now, hold := false } := by
  simp [Arbiter.atOutMode, h]

@[simp] theorem Arbiter.atOutMode_frame :
    (x.atOutMode now a b).house = x.house ∧ (x.atOutMode now a b).remembered = x.remembered
      ∧ (x.atOutMode now a b).cycleDue = x.cycleDue ∧ (x.atOutMode now a b).dwellStart = x.dwellStart
      ∧ (x.atOutMode now a b).defrostDue = x.defrostDue := by
  unfold Arbiter.atOutMode
  split_ifs <;> simp

variable {x a}

theorem Arbiter.atOutMode_run_congr {y : Arbiter} (h : y.runStart = x.runStart) :
    (y.atOutMode now a b).runStart = (x.atOutMode now a b).runStart := by
  unfold Arbiter.atOutMode
  split_ifs <;> simp [h]

theorem Arbiter.atOutMode_rest_congr {y : Arbiter} (h : y.restStart = x.restStart) :
    (y.atOutMode now a b).restStart = (x.atOutMode now a b).restStart := by
  unfold Arbiter.atOutMode
  split_ifs <;> simp [h]

theorem Arbiter.atOutMode_runTimer (h : x.runStart.isSome = decide (a ≠ .off)) :
    (x.atOutMode now a b).runStart.isSome = decide (b ≠ .off) := by
  cases a <;> cases b <;> simp_all [Arbiter.atOutMode]

theorem Arbiter.atOutMode_restTimer (h : x.restStart.isSome = !decide (a ≠ .off)) :
    (x.atOutMode now a b).restStart.isSome = !decide (b ≠ .off) := by
  cases a <;> cases b <;> simp_all [Arbiter.atOutMode]

end

/-! ### Records that fit a house state (R26, R27, R69, R71) -/

/-- A record that a house state may command. -/
structure Command.Fits (c : Command) (h : HouseState) : Prop where
  outMode : c.outMode = h.outMode
  airMode : airModeFits h c.airMode
  outOff : c.outMode = .off → c.capacity = 0
  airOff : c.airMode = .off → c.airflow = 0 ∧ c.reheat = false ∧ c.coldBlow = false

theorem HouseHolds.fits {s : State} (h : HouseHolds s) : s.command.Fits s.house :=
  ⟨h.outMode, h.airMode, h.outOff, h.airOff⟩

/-- Both nodes may be commanded OFF in a house state that runs neither. -/
theorem commandOff_fits {h : HouseState} (out : h.outMode = .off) (air : airModeFits h .off) : commandOff.Fits h :=
  ⟨out.symm, air, fun _ => rfl, fun _ => ⟨rfl, rfl, rfl⟩⟩

/-- The record of a house state that runs neither node is the one that commands both OFF. -/
theorem Command.Fits.eq_off {c : Command} {h : HouseState} (f : c.Fits h) (out : h.outMode = .off) (air : h.airMode = .off) :
    c = commandOff := by
  have hout : c.outMode = .off := f.outMode.trans out
  have hair : c.airMode = .off := f.airMode.elim (·.trans air) (·.2)
  have hcap := f.outOff hout
  obtain ⟨hflow, hreheat, hblow⟩ := f.airOff hair
  cases c
  simp_all [commandOff, resetCommand]

/-- The fan alone runs in FAN and in SHED (R46, R69). -/
theorem fanOnly_fits {h : HouseState} (hh : h = .fan ∨ h = .shed) (q : Nat) :
    Command.Fits { commandOff with airMode := .fan, airflow := q } h := by
  rcases hh with rfl | rfl <;> exact ⟨rfl, .inl rfl, fun _ => rfl, fun h => absurd h (by simp)⟩

/-! ### The house invariant after a turn -/

/-- What a house in which the record fits, and whose timers are those that a write of the record leaves, holds after a turn. -/
theorem HouseHolds.turn {s t : State} (h : HouseHolds s) (phase : t.phase = s.phase) (fits : t.command.Fits t.house)
    (run : t.arbiter.runStart = (s.arbiter.atOutMode s.now s.command.outMode t.command.outMode).runStart)
    (rest : t.arbiter.restStart = (s.arbiter.atOutMode s.now s.command.outMode t.command.outMode).restStart)
    (latched : t.supply.latch = true → t.house = .halt ∨ t.house = .uncommissioned)
    (dwell : t.arbiter.dwellStart.isSome = decide (t.house = .changeover))
    (flow : t.arbiter.remembered.isSome = decide (t.house = .defrost))
    (before : t.phase ≠ .running → t.house = .uncommissioned ∧ t.supply.latch = false) : HouseHolds t where
  outMode := fits.outMode
  airMode := fits.airMode
  outOff := fits.outOff
  airOff := fits.airOff
  latched := latched
  runTimer := by rw [run]; exact Arbiter.atOutMode_runTimer _ _ h.runTimer
  restTimer hp := by rw [rest]; exact Arbiter.atOutMode_restTimer _ _ (h.restTimer (phase ▸ hp))
  dwellTimer := dwell
  defrostFlow := flow
  silentBefore := before

/-- The invariant follows the record, the arbiter, the latch and the phase alone. -/
theorem HouseHolds.same {s t : State} (h : HouseHolds s) (phase : t.phase = s.phase) (command : t.command = s.command)
    (arbiter : t.arbiter = s.arbiter) (latch : t.supply.latch = s.supply.latch) : HouseHolds t := by
  have hhouse : t.house = s.house := State.house_congr arbiter
  refine h.turn phase (by rw [command, hhouse]; exact h.fits) (by simp [arbiter, command]) (by simp [arbiter, command])
    ?_ ?_ ?_ ?_
  · rw [latch, hhouse]; exact h.latched
  · rw [arbiter, hhouse]; exact h.dwellTimer
  · rw [arbiter, hhouse]; exact h.defrostFlow
  · rw [phase, latch, hhouse]; exact h.silentBefore

section
variable {s : State} (h : HouseHolds s)
include h

theorem HouseHolds.running (hu : s.house ≠ .uncommissioned) : s.phase = .running := by
  by_contra hp
  exact hu (h.silentBefore hp).1

theorem HouseHolds.unlatched (hh : s.house ≠ .halt) (hu : s.house ≠ .uncommissioned) : s.supply.latch = false := by
  by_contra hl
  exact (h.latched (by simpa using hl)).elim hh hu

/-- A write of the record that leaves the house state as it is. -/
theorem HouseHolds.rewrite {t : State} {c : Command} (fits : c.Fits s.house) (phase : t.phase = s.phase)
    (command : t.command = c) (arbiter : t.arbiter = (s.writeCommand c).arbiter) (latch : t.supply.latch = s.supply.latch) :
    HouseHolds t := by
  have hhouse : t.house = s.house := by simp [State.house, arbiter]
  refine h.turn phase (by rw [command, hhouse]; exact fits) (by simp [arbiter, command]) (by simp [arbiter, command])
    ?_ ?_ ?_ ?_
  · rw [latch, hhouse]; exact h.latched
  · rw [arbiter, hhouse, ← h.dwellTimer]; simp
  · rw [arbiter, hhouse, ← h.defrostFlow]; simp
  · rw [phase, latch, hhouse]; exact h.silentBefore

/-- The record is written and another house state is entered, one that is neither CHANGEOVER nor DEFROST. -/
theorem HouseHolds.enter {t : State} {c : Command} (running : s.phase = .running) (phase : t.phase = s.phase)
    (command : t.command = c) (fits : c.Fits t.house)
    (run : t.arbiter.runStart = (s.writeCommand c).arbiter.runStart)
    (rest : t.arbiter.restStart = (s.writeCommand c).arbiter.restStart)
    (latched : t.supply.latch = true → t.house = .halt ∨ t.house = .uncommissioned)
    (dwell : t.arbiter.dwellStart = none) (flow : t.arbiter.remembered = none)
    (hc : t.house ≠ .changeover) (hd : t.house ≠ .defrost) : HouseHolds t :=
  h.turn phase (command ▸ fits) (by simp [run, command]) (by simp [rest, command]) latched (by simp [dwell, hc])
    (by simp [flow, hd]) fun hp => absurd (phase.trans running) hp

end

/-! ### Raised marks (R191) -/

/-- Every event that is raised in `s` is raised in `t`. -/
def MarksKept (s t : State) : Prop := ∀ e, marked s.events.raised e = true → marked t.events.raised e = true

theorem MarksKept.of_events {s t : State} (h : t.events = s.events) : MarksKept s t := fun _ he => by rwa [h]

theorem MarksKept.trans {s t u : State} (h : MarksKept s t) (h' : MarksKept t u) : MarksKept s u := fun e he => h' e (h e he)

theorem MarksKept.of_afterRaise {s t : State} {e : Event} (h : t.events = afterRaise s.events e) : MarksKept s t :=
  fun f hf => by rw [h, marked_afterRaise, hf, Bool.true_or]

theorem MarksKept.raise (s : State) (e : Event) : MarksKept s (s.raise e) := .of_afterRaise (s.raise_events e)

theorem State.marked_raise (s : State) (e : Event) : marked (s.raise e).events.raised e = true := by
  simp [marked_afterRaise]

theorem MarksKept.deriveStatus (s : State) (z : ZoneId) : MarksKept s (s.deriveStatus z) := by
  simp only [State.deriveStatus]
  split
  · exact .of_afterRaise (State.raise_events _ _)
  · exact .of_events rfl

theorem MarksKept.leavePlay (s : State) (z : ZoneId) : MarksKept s (s.leavePlay z) := by
  simp only [State.leavePlay]
  exact MarksKept.trans (t := s.setZone z _) (.of_events rfl) (MarksKept.deriveStatus _ z)

theorem MarksKept.forIx {n : Nat} {f : Fin n → State → State} (s : State) (h : ∀ i t, MarksKept t (f i t)) :
    MarksKept s (s.forIx f) :=
  State.forIx_induct (MarksKept s) f s (.of_events rfl) fun i t ht => ht.trans (h i t)

theorem MarksKept.updateZones (s : State) : MarksKept s s.updateZones :=
  MarksKept.trans (t := { s with zones := tab fun z => (s.zone z).countUnmet s.house }) (.of_events rfl)
    (MarksKept.forIx _ fun z t => MarksKept.deriveStatus t z)

theorem MarksKept.writeCommand (s : State) (c : Command) : MarksKept s (s.writeCommand c) := by
  by_cases h : s.command.outMode = c.outMode
  · exact .of_events (by simp [State.writeCommand_events, h])
  · exact .of_afterRaise (e := .modeChange) (by simp [State.writeCommand_events, h])

theorem State.writeCommand_marked {s : State} {c : Command} (h : s.command.outMode ≠ c.outMode) :
    marked (s.writeCommand c).events.raised .modeChange = true := by
  simp [State.writeCommand_events, h, marked_afterRaise]

end Sys2Proof.Machine
end

section
/-! PROOF. Every operation of the house keeps the house invariant and raises MODE CHANGE when it changes the outdoor mode (R26, R27, R32,
R45 to R53, R181). -/

namespace Sys2Proof.Machine

/-! ### Records written at a turn -/

/-- The record with which SHED is entered (R46). -/
def State.shedCommand (s : State) : Command :=
  if s.keepsFan then { commandOff with airMode := .fan, airflow := s.clampAirflow s.command.airflow } else commandOff

theorem State.enterShed_eq (s : State) :
    s.enterShed = (((s.writeCommand s.shedCommand).enterHouse .shed).stopHouseTimers).setTarget none := rfl

theorem State.shedCommand_fits (s : State) : s.shedCommand.Fits .shed := by
  unfold State.shedCommand
  split
  · exact fanOnly_fits (.inr rfl) _
  · exact commandOff_fits rfl (.inr ⟨rfl, rfl⟩)

section
variable {c : Command} {h : HouseState}

theorem HouseState.outMode_of_compressor (hc : h.compressor = true) : h.outMode ≠ .off := by
  cases h <;> simp_all [HouseState.compressor, HouseState.conditions, HouseState.outMode]

/-- A house state that runs the compressor may command any capacity. -/
theorem Command.Fits.withCapacity (f : c.Fits h) (hc : h.compressor = true) (n : Nat) :
    Command.Fits { c with capacity := n } h :=
  ⟨f.outMode, f.airMode, fun ho => absurd (f.outMode.symm.trans ho) (HouseState.outMode_of_compressor hc), f.airOff⟩

/-- While the air handler runs any airflow may be commanded. -/
theorem Command.Fits.withAirflow (f : c.Fits h) (on : c.airMode ≠ .off) (q : Nat) :
    Command.Fits { c with airflow := q } h :=
  ⟨f.outMode, f.airMode, f.outOff, fun ho => absurd ho on⟩

theorem Command.Fits.withoutReheat (f : c.Fits h) : Command.Fits { c with reheat := false } h :=
  ⟨f.outMode, f.airMode, f.outOff, fun ho => ⟨(f.airOff ho).1, rfl, (f.airOff ho).2.2⟩⟩

/-- In hold the compressor keeps running at another capacity, without reheat (R39). -/
theorem Command.Fits.held (f : c.Fits h) (hc : h.compressor = true) (n : Nat) :
    Command.Fits { c with capacity := n, reheat := false } h :=
  (f.withCapacity hc n).withoutReheat

/-- The record of HEAT turned to that of DEFROST (R44). -/
theorem Command.Fits.defrost (f : c.Fits .heat) (q : Nat) :
    Command.Fits { c with airMode := .heat, airflow := q, reheat := false, coldBlow := true } .defrost :=
  ⟨f.outMode, .inl rfl, fun ho => absurd (f.outMode.symm.trans ho) (by decide), fun ho => absurd ho (by simp)⟩

/-- The record of DEFROST turned to that of HEAT (R45). -/
theorem Command.Fits.heat (f : c.Fits .defrost) (q : Nat) : Command.Fits { c with airflow := q, coldBlow := false } .heat :=
  ⟨f.outMode, .inl (f.airMode.elim id fun hs => absurd hs.1 (by decide)),
    fun ho => absurd (f.outMode.symm.trans ho) (by decide), fun ho => by
      have hair : c.airMode = .heat := f.airMode.elim id fun hs => absurd hs.1 (by decide)
      rw [hair] at ho
      exact absurd ho (by simp)⟩

end

theorem HouseState.sheds_iff (h : HouseState) : h.sheds = true ↔ h ≠ .uncommissioned ∧ h ≠ .halt ∧ h ≠ .shed := by
  simp [HouseState.sheds, and_assoc]

theorem HouseState.commissioned_of_compressor {h : HouseState} (hc : h.compressor = true) :
    h ≠ .halt ∧ h ≠ .uncommissioned := by
  constructor <;> rintro rfl <;> exact absurd hc (by decide)

/-- What an operation of the house keeps: the invariant, the raised marks, and MODE CHANGE at a change of the outdoor mode. -/
structure HouseKept (s t : State) : Prop where
  phase : t.phase = s.phase
  holds : HouseHolds s → HouseHolds t
  marks : MarksKept s t
  change : s.command.outMode ≠ t.command.outMode → marked t.events.raised .modeChange = true

namespace HouseKept

variable {s t u : State}

theorem trans (h : HouseKept s t) (h' : HouseKept t u) : HouseKept s u where
  phase := h'.phase.trans h.phase
  holds hs := h'.holds (h.holds hs)
  marks := h.marks.trans h'.marks
  change hne := by
    by_cases hst : s.command.outMode = t.command.outMode
    · exact h'.change (hst ▸ hne)
    · exact h'.marks _ (h.change hst)

/-- An operation that leaves record, arbiter, latch and phase as they are and clears no mark. -/
theorem same (marks : MarksKept s t) (phase : t.phase = s.phase) (command : t.command = s.command)
    (arbiter : t.arbiter = s.arbiter) (latch : t.supply.latch = s.supply.latch) : HouseKept s t where
  phase := phase
  holds hs := hs.same phase command arbiter latch
  marks := marks
  change hne := absurd (congrArg Command.outMode command).symm hne

/-- An operation that leaves record, arbiter, supply, phase and event list as they are. -/
theorem frame (h : t.phase = s.phase ∧ t.command = s.command ∧ t.arbiter = s.arbiter ∧ t.supply = s.supply
    ∧ t.events = s.events) : HouseKept s t :=
  have ⟨phase, command, arbiter, supply, events⟩ := h
  same (.of_events events) phase command arbiter (by rw [supply])

theorem refl (s : State) : HouseKept s s := frame ⟨rfl, rfl, rfl, rfl, rfl⟩

theorem raise (s : State) (e : Event) : HouseKept s (s.raise e) :=
  same (.raise s e) (by simp) (by simp) (by simp) (by simp)

/-- A write of the record with what follows it at the same moment (R53). -/
theorem write {c : Command} (command : t.command = c) (events : t.events = (s.writeCommand c).events)
    (phase : t.phase = s.phase) (holds : HouseHolds s → HouseHolds t) : HouseKept s t where
  phase := phase
  holds := holds
  marks e he := by rw [events]; exact MarksKept.writeCommand s c e he
  change hne := by rw [events]; exact State.writeCommand_marked (command ▸ hne)

/-- A write of a record that fits the present house state. -/
theorem rewrite {c : Command} (fits : HouseHolds s → c.Fits s.house) : HouseKept s (s.writeCommand c) :=
  write (by simp) rfl (by simp) fun h => h.rewrite (fits h) (by simp) (by simp) rfl (by simp)

theorem ite {p : Prop} [Decidable p] (ht : p → HouseKept s t) (hu : ¬p → HouseKept s u) :
    HouseKept s (if p then t else u) := by
  split
  · next h => exact ht h
  · next h => exact hu h

/-! ### Turns of the house (R43 to R52) -/

theorem goIdle (hh : s.house ≠ .halt) (hu : s.house ≠ .uncommissioned) : HouseKept s s.goIdle :=
  write (c := commandOff) (by simp [State.goIdle]) (by simp [State.goIdle]) (by simp) fun h =>
    h.enter (h.running hu) (by simp) (c := commandOff) (by simp [State.goIdle]) (commandOff_fits rfl (.inl rfl))
      (by simp [State.goIdle]) (by simp [State.goIdle]) (by simp [h.unlatched hh hu]) (by simp [State.goIdle])
      (by simp [State.goIdle]) (by simp [State.house, State.goIdle]) (by simp [State.house, State.goIdle])


theorem enterShed (hh : s.house ≠ .halt) (hu : s.house ≠ .uncommissioned) : HouseKept s s.enterShed :=
  write (c := s.shedCommand) (by simp [State.enterShed_eq]) (by simp [State.enterShed_eq]) (by simp) fun h =>
    h.enter (h.running hu) (by simp) (c := s.shedCommand) (by simp [State.enterShed_eq])
      (by simpa [State.enterShed_eq, State.house] using s.shedCommand_fits) (by simp [State.enterShed_eq])
      (by simp [State.enterShed_eq]) (by simp [h.unlatched hh hu]) (by simp [State.enterShed_eq])
      (by simp [State.enterShed_eq]) (by simp [State.house, State.enterShed_eq]) (by simp [State.house, State.enterShed_eq])

/-- A house in a state without CHANGEOVER's and DEFROST's timers goes to IDLE with both nodes OFF (R38, R47, R51). -/
theorem fallIdle (hs : s.house = .shed ∨ s.house = .fan) : HouseKept s ((s.writeCommand commandOff).enterHouse .idle) :=
  write (c := commandOff) (by simp) (by simp) (by simp) fun h => by
    have hh : s.house ≠ .halt := by rcases hs with hs | hs <;> rw [hs] <;> decide
    have hu : s.house ≠ .uncommissioned := by rcases hs with hs | hs <;> rw [hs] <;> decide
    have hdwell : s.arbiter.dwellStart = none := by
      have := h.dwellTimer
      rcases hs with hs | hs <;> simpa [hs] using this
    have hflow : s.arbiter.remembered = none := by
      have := h.defrostFlow
      rcases hs with hs | hs <;> simpa [hs] using this
    exact h.enter (h.running hu) (by simp) (c := commandOff) (by simp) (commandOff_fits rfl (.inl rfl)) (by simp) (by simp)
      (by simp [h.unlatched hh hu]) (by simp [hdwell]) (by simp [hflow]) (by simp [State.house]) (by simp [State.house])

theorem reviewShed (s : State) : HouseKept s s.reviewShed := by
  unfold State.reviewShed
  refine ite (fun _ => ite (fun hs => ?_) fun _ => refl s) fun _ => ite (fun hs => fallIdle (.inl hs)) fun _ => refl s
  obtain ⟨hu, hh, -⟩ := (HouseState.sheds_iff _).1 hs
  exact enterShed hh hu

theorem setCapacity (s : State) (n : Nat) (hc : s.house.compressor = true) :
    HouseKept s (s.writeCommand { s.command with capacity := n }) :=
  rewrite fun h => h.fits.withCapacity hc n

theorem capChanged (s : State) : HouseKept s s.capChanged := by
  refine (reviewShed s).trans (ite (fun hc => setCapacity _ _ ?_) fun _ => refl _)
  simp only [Bool.and_eq_true] at hc
  exact hc.1

theorem cminChanged (s : State) : HouseKept s s.cminChanged := by
  simp only [State.cminChanged]
  split
  · refine (reviewShed s).trans (ite (fun hc => setCapacity _ _ ?_) fun _ => refl _)
    simp only [Bool.and_eq_true] at hc
    exact hc.1
  · exact reviewShed s

theorem nodeUnavailable (s : State) (n : Node) : HouseKept s (s.nodeUnavailable n) := by
  unfold State.nodeUnavailable
  refine ite (fun hc => ?_) fun _ => ?_
  · obtain ⟨hh, hu⟩ := HouseState.commissioned_of_compressor hc
    exact goIdle hh hu
  · cases n with
    | outdoorUnit => exact refl s
    | airHandler =>
      refine ite (fun hf => fallIdle (.inr hf)) fun _ => ite (fun hs => rewrite fun _ => ?_) fun _ => refl s
      rw [hs.1]
      exact commandOff_fits rfl (.inr ⟨rfl, rfl⟩)

theorem enterDefrost (hs : s.house = .heat) : HouseKept s s.enterDefrost := by
  refine write (by simp [State.enterDefrost]; rfl) (by simp [State.enterDefrost]) (by simp) fun h => ?_
  have hu : s.house ≠ .uncommissioned := by rw [hs]; decide
  have hlatch := h.unlatched (by rw [hs]; decide) hu
  have hdwell : s.arbiter.dwellStart = none := by simpa [hs] using h.dwellTimer
  have hfits := h.fits
  rw [hs] at hfits
  refine h.turn (by simp) ?_ (by simp [State.enterDefrost]) (by simp [State.enterDefrost]) (by simp [hlatch])
    (by simp [State.enterDefrost, State.house, hdwell]) (by simp [State.enterDefrost, State.house])
    fun hp => absurd ((by simp : s.enterDefrost.phase = s.phase).trans (h.running hu)) hp
  simpa [State.enterDefrost, State.house] using hfits.defrost _

theorem leaveDefrost (hs : s.house = .defrost) : HouseKept s s.leaveDefrost := by
  refine write (by simp [State.leaveDefrost]; rfl) (by simp [State.leaveDefrost]) (by simp) fun h => ?_
  have hu : s.house ≠ .uncommissioned := by rw [hs]; decide
  have hlatch := h.unlatched (by rw [hs]; decide) hu
  have hdwell : s.arbiter.dwellStart = none := by simpa [hs] using h.dwellTimer
  have hfits := h.fits
  rw [hs] at hfits
  refine h.turn (by simp) ?_ (by simp [State.leaveDefrost]) (by simp [State.leaveDefrost]) (by simp [hlatch])
    (by simp [State.leaveDefrost, State.house, hdwell]) (by simp [State.leaveDefrost, State.house])
    fun hp => absurd ((by simp : s.leaveDefrost.phase = s.phase).trans (h.running hu)) hp
  simpa [State.leaveDefrost, State.house] using hfits.heat _

theorem outdoorReported (s : State) (st : NodeState) : HouseKept s (s.outdoorReported st) := by
  unfold State.outdoorReported
  split
  · exact ite enterDefrost fun _ => refl s
  · exact ite leaveDefrost fun _ => refl s
  all_goals exact refl s

theorem airLimitsChanged (s : State) : HouseKept s s.airLimitsChanged := by
  unfold State.airLimitsChanged
  split
  · refine ite (fun hon => rewrite fun h => h.fits.withAirflow ?_ _) fun _ => refl s
    simpa [Command.airOn] using hon
  · exact refl s

theorem reheatLost (s : State) : HouseKept s s.reheatLost := rewrite fun h => h.fits.withoutReheat

theorem heatPumpLost (s : State) : HouseKept s s.heatPumpLost := by
  refine ite (fun hs => goIdle ?_ ?_) fun _ => refl s
  · rcases hs with hs | hs <;> rw [hs] <;> decide
  · rcases hs with hs | hs <;> rw [hs] <;> decide

theorem capabilityChanged (s : State) (old new : Capability) : HouseKept s (s.capabilityChanged old new) := by
  unfold State.capabilityChanged
  split
  · exact ite (fun _ => (ite (fun _ => cminChanged s) fun _ => refl s).trans (heatPumpLost _)) fun _ =>
      ite (fun _ => cminChanged s) fun _ => refl s
  · exact ite (fun _ => (ite (fun _ => airLimitsChanged s) fun _ => refl s).trans (reheatLost _)) fun _ =>
      ite (fun _ => airLimitsChanged s) fun _ => refl s
  · exact refl s
  · exact refl s

end HouseKept

end Sys2Proof.Machine
end

section
/-! PROOF. The shutdown latch, the end of a SAVE and the cycle keep the house invariant and raise MODE CHANGE (R34 to R49, R53, R181,
R183). -/

namespace Sys2Proof.Machine

/-! ### What a decision can do (R34 to R43, R47) -/

/-- A house state that makes a computation (R55). -/
def HouseState.computes (h : HouseState) : Bool := h.conditions || decide (h = .fan) || decide (h = .shed)

/-- The arbiter `a` is `x` turned to a house state that makes a computation, the record not yet written. -/
structure Arbiter.Prepares (x a : Arbiter) : Prop where
  house : a.house.computes = true
  commissioned : x.house ≠ .halt ∧ x.house ≠ .uncommissioned ∧ x.house ≠ .defrost
  run : a.runStart = x.runStart
  rest : a.restStart = x.restStart
  dwell : a.dwellStart = none ∨ (x.house ≠ .changeover ∧ a.dwellStart = x.dwellStart)
  flow : a.remembered = none ∨ a.remembered = x.remembered

theorem Target.house_computes (t : Target) : t.house.computes = true := by
  cases t <;> rfl

/-- The arbiter of a target that is entered (R36). -/
def Arbiter.entering (x : Arbiter) (t : Target) : Arbiter :=
  { x with
    house := t.house, hold := if x.house = t.house then x.hold else false, dwellStart := none, defrostDue := none
    remembered := none, pendingTarget := none }

/-- What a decision can do: the house stays, a target is pending, the record is written at a turn, or the arbiter alone is turned to a
state whose computation follows. -/
inductive Decides (s : State) : State × Bool → Prop
  | stays : Decides s (s, false)
  | pends (t : Option Target) : Decides s (s.setTarget t, false)
  | prepares (a : Arbiter) (h : s.arbiter.Prepares a) : Decides s (s.setArbiter a, true)
  | fanEnds (t : Option Target) (h : s.house = .fan) :
      Decides s (((s.setTarget t).writeCommand commandOff).enterHouse .idle, false)
  | fanStops (h : s.house = .shed) : Decides s (s.writeCommand commandOff, false)
  | goesIdle (h : s.house.conditions = true ∨ s.house = .changeover) : Decides s (s.goIdle, false)
  | holds (h : s.house.conditions = true) : Decides s (s.holdOn, false)
  | changes (h : s.house.conditions = true) (t : Target) : Decides s (s.enterChangeover t, false)

section
variable {s : State}

theorem State.decideIdle_decides (hs : s.house = .idle) : Decides s s.decideIdle := by
  have hc : s.arbiter.house ≠ .halt ∧ s.arbiter.house ≠ .uncommissioned ∧ s.arbiter.house ≠ .defrost := by
    rw [show s.arbiter.house = _ from hs]; decide
  simp only [State.decideIdle]
  split_ifs
  · exact .prepares _ ⟨Target.house_computes _, hc, rfl, rfl, .inl rfl, .inl rfl⟩
  · exact .pends _
  · exact .prepares _ ⟨rfl, hc, rfl, rfl, .inr ⟨by rw [show s.arbiter.house = _ from hs]; decide, rfl⟩, .inr rfl⟩
  · exact .pends _

theorem State.decideFan_decides (hs : s.house = .fan) : Decides s s.decideFan := by
  have hh : s.arbiter.house = .fan := hs
  have hc : s.arbiter.house ≠ .halt ∧ s.arbiter.house ≠ .uncommissioned ∧ s.arbiter.house ≠ .defrost := by
    rw [hh]; decide
  have hfan : ∀ t, Decides s (s.setTarget t).fanOrIdle := by
    intro t
    simp only [State.fanOrIdle]
    split_ifs
    · exact .prepares _ ⟨by rw [hh]; rfl, hc, rfl, rfl, .inr ⟨by rw [hh]; decide, rfl⟩, .inr rfl⟩
    · exact .fanEnds t hs
  simp only [State.decideFan]
  split_ifs
  · exact .prepares _ ⟨Target.house_computes _, hc, rfl, rfl, .inl rfl, .inl rfl⟩
  · exact hfan _
  · exact hfan _

theorem HouseState.conditions_cases {h : HouseState} (hc : h.conditions = true) :
    h ≠ .halt ∧ h ≠ .uncommissioned ∧ h ≠ .defrost ∧ h ≠ .changeover ∧ h ≠ .shed := by
  cases h <;> simp_all [HouseState.conditions]

/-- A running house goes on computing, in a state of its family (R40, R41). -/
theorem Arbiter.Prepares.goesOn {x : Arbiter} (hc : x.house.conditions = true) {h : HouseState} (hh : h.conditions = true)
    (hold : Bool) : x.Prepares { x with house := h, hold := hold } := by
  obtain ⟨h1, h2, h3, h4, -⟩ := HouseState.conditions_cases hc
  exact ⟨by simp [HouseState.computes, hh], ⟨h1, h2, h3⟩, rfl, rfl, .inr ⟨h4, rfl⟩, .inr rfl⟩

theorem State.decideCooling_decides (hs : s.house.conditions = true) : Decides s s.decideCooling := by
  simp only [State.decideCooling]
  split_ifs
  · exact .changes hs _
  · exact .goesIdle (.inl hs)
  · exact .holds hs
  · exact .prepares _ (.goesOn hs rfl _)
  · exact .prepares _ (.goesOn hs rfl _)

theorem State.decideHeating_decides (hs : s.house = .heat) : Decides s s.decideHeating := by
  have hc : s.house.conditions = true := by rw [hs]; rfl
  simp only [State.decideHeating]
  split_ifs
  · exact .changes hc _
  · exact .changes hc _
  · exact .goesIdle (.inl hc)
  · exact .holds hc
  · exact .prepares _ (.goesOn hc hc _)

theorem State.decideChangeover_decides (hs : s.house = .changeover) : Decides s s.decideChangeover := by
  simp only [State.decideChangeover]
  split
  · split_ifs
    · exact .goesIdle (.inr hs)
    · exact .stays
  · split_ifs
    · exact .goesIdle (.inr hs)
    · exact .prepares _ ⟨Target.house_computes _, by rw [show s.arbiter.house = _ from hs]; decide, rfl, rfl, .inl rfl, .inl rfl⟩
    · exact .pends _
    · exact .pends _

theorem State.decideShed_decides (hs : s.house = .shed) : Decides s s.decideShed := by
  have hh : s.arbiter.house = .shed := hs
  simp only [State.decideShed]
  split_ifs
  · exact .prepares s.arbiter ⟨by rw [hh]; rfl, by rw [hh]; decide, rfl, rfl, .inr ⟨by rw [hh]; decide, rfl⟩, .inr rfl⟩
  · exact .fanStops hs

theorem State.decision_decides (s : State) : Decides s s.decision := by
  unfold State.decision
  split
  case h_1 | h_2 | h_8 => exact .stays
  case h_3 hs => exact State.decideIdle_decides hs
  case h_4 hs => exact State.decideFan_decides hs
  case h_5 hs => exact State.decideCooling_decides (by rw [hs]; rfl)
  case h_6 hs => exact State.decideCooling_decides (by rw [hs]; rfl)
  case h_7 hs => exact State.decideHeating_decides hs
  case h_9 hs => exact State.decideChangeover_decides hs
  case h_10 hs => exact State.decideShed_decides hs

end

/-! ### The computation that follows (R56, R59, R69) -/

theorem State.publishFigures_command (s : State) (f : Figures) : (s.publishFigures f).command = f.command s.house := by
  simp only [State.publishFigures]
  (repeat' split) <;> simp [State.house]

theorem State.publishFigures_arbiter (s : State) (f : Figures) :
    (s.publishFigures f).arbiter = (s.writeCommand (f.command s.house)).arbiter := by
  simp only [State.publishFigures]
  (repeat' split) <;> simp [State.house]

theorem State.publishFigures_events (s : State) (f : Figures) :
    (s.publishFigures f).events =
      let x := (s.writeCommand (f.command s.house)).events
      if f.record.short then afterRaise x .spillShort else x := by
  have hwrite := State.writeCommand_events_congr (s := s) (t := s.setComputation f.record) rfl rfl (f.command s.house)
  have hhouse : (s.setComputation f.record).house = s.house := rfl
  simp only [State.publishFigures, hhouse]
  (repeat' split) <;> simp [hwrite]

/-- The capacity of a computation without compressor is 0 (R58). -/
theorem State.compute_fan {s : State} {h : HouseState} (hc : h.conditions = false) :
    s.compute h = some (s.figures h none 0) := by
  simp [State.compute, hc]

/-- The record that a computation writes fits its house state (R69). -/
theorem State.figures_fit {s : State} {h : HouseState} {f : Figures} (hh : h.computes = true) (hf : s.compute h = some f) :
    (f.command h).Fits h := by
  refine ⟨rfl, .inl rfl, fun ho => ?_, fun ho => ?_⟩
  · have hc : h.conditions = false := by
      cases h <;> simp_all [HouseState.conditions, Figures.command, HouseState.outMode]
    rw [State.compute_fan hc] at hf
    obtain rfl := Option.some.inj hf
    rfl
  · cases h <;> simp_all [HouseState.computes, HouseState.conditions, Figures.command, HouseState.airMode]

/-! ### The shutdown latch (R48, R181, R183) -/

/-- The part with the shutdown latch set or clear. -/
def State.withLatch (s : State) (b : Bool) : State := { s with supply := { s.supply with latch := b } }

@[simp] theorem State.withLatch_frame (s : State) (b : Bool) :
    (s.withLatch b).now = s.now ∧ (s.withLatch b).pending = s.pending ∧ (s.withLatch b).phase = s.phase
      ∧ (s.withLatch b).resetAt = s.resetAt ∧ (s.withLatch b).supply = { s.supply with latch := b }
      ∧ (s.withLatch b).retained = s.retained ∧ (s.withLatch b).store = s.store
      ∧ (s.withLatch b).storeState = s.storeState ∧ (s.withLatch b).saving = s.saving ∧ (s.withLatch b).tables = s.tables
      ∧ (s.withLatch b).routes = s.routes ∧ (s.withLatch b).serviceHeld = s.serviceHeld ∧ (s.withLatch b).zones = s.zones
      ∧ (s.withLatch b).arbiter = s.arbiter ∧ (s.withLatch b).command = s.command
      ∧ (s.withLatch b).computation = s.computation ∧ (s.withLatch b).channels = s.channels
      ∧ (s.withLatch b).queue = s.queue ∧ (s.withLatch b).slotLimit = s.slotLimit
      ∧ (s.withLatch b).homingDue = s.homingDue ∧ (s.withLatch b).links = s.links ∧ (s.withLatch b).room = s.room
      ∧ (s.withLatch b).plant = s.plant ∧ (s.withLatch b).relay = s.relay ∧ (s.withLatch b).decoder = s.decoder
      ∧ (s.withLatch b).events = s.events := by
  simp [State.withLatch]

theorem HouseHolds.withoutLatch {s : State} (h : HouseHolds s) : HouseHolds (s.withLatch false) :=
  h.turn rfl h.fits (by simp) (by simp) (fun hl => absurd hl Bool.false_ne_true) h.dwellTimer h.defrostFlow fun hp =>
    ⟨(h.silentBefore hp).1, rfl⟩

theorem State.setLatch_eq (s : State) : s.setLatch = (((s.withLatch true).raise .shutdown).haltHouse).cutDrives := rfl

theorem State.clearLatch_eq (s : State) : s.clearLatch = ((s.withLatch false).unhaltHouse).resumeDrives := rfl

theorem State.haltHouse_uncommissioned {s : State} (h : s.house = .uncommissioned) : s.haltHouse = s := if_pos h

theorem State.haltHouse_commissioned {s : State} (h : s.house ≠ .uncommissioned) :
    s.haltHouse = (((s.writeCommand commandOff).enterHouse .halt).stopHouseTimers).setTarget none := if_neg h

namespace HouseKept

variable {s t u : State}

/-- What the house invariant gives of an arbiter that a decision has prepared. -/
theorem prepared (h : HouseHolds s) {a : Arbiter} (ha : s.arbiter.Prepares a) :
    s.phase = .running ∧ s.supply.latch = false ∧ a.dwellStart = none ∧ a.remembered = none := by
  obtain ⟨hh, hu, hd⟩ := ha.commissioned
  have hflow : s.arbiter.remembered = none := by simpa [State.house, hd] using h.defrostFlow
  refine ⟨h.running hu, h.unlatched hh hu, ?_, ha.flow.elim id (·.trans hflow)⟩
  rcases ha.dwell with hdwell | ⟨hc, hdwell⟩
  · exact hdwell
  · rw [hdwell]
    simpa [State.house, hc] using h.dwellTimer

theorem computes_spec {h : HouseState} (hh : h.computes = true) : h ≠ .changeover ∧ h ≠ .defrost := by
  constructor <;> rintro rfl <;> exact absurd hh (by decide)

/-- The record is written at a turn to a state that makes a computation (R59, R69). -/
theorem turn {a : Arbiter} (ha : s.arbiter.Prepares a) {c : Command} (command : t.command = c)
    (events : t.events = ((s.setArbiter a).writeCommand c).events) (phase : t.phase = s.phase)
    (latch : t.supply.latch = s.supply.latch) (fits : c.Fits t.house) (computes : t.house.computes = true)
    (run : t.arbiter.runStart = ((s.setArbiter a).writeCommand c).arbiter.runStart)
    (rest : t.arbiter.restStart = ((s.setArbiter a).writeCommand c).arbiter.restStart)
    (dwell : t.arbiter.dwellStart = none ∨ t.arbiter.dwellStart = a.dwellStart)
    (flow : t.arbiter.remembered = none ∨ t.arbiter.remembered = a.remembered) : HouseKept s t := by
  refine write command ?_ phase fun h => ?_
  · exact events.trans (State.writeCommand_events_congr (s := s) (t := s.setArbiter a) rfl rfl c)
  · obtain ⟨hrun, hlatch, hdwell, hflow⟩ := prepared h ha
    obtain ⟨hc, hd⟩ := computes_spec computes
    refine h.enter hrun phase command fits ?_ ?_ (by simp [latch, hlatch]) (dwell.elim id (·.trans hdwell))
      (flow.elim id (·.trans hflow)) hc hd
    · simpa [run] using Arbiter.atOutMode_run_congr _ _ ha.run
    · simpa [rest] using Arbiter.atOutMode_rest_congr _ _ ha.rest

theorem publishFigures_rest (s : State) (f : Figures) :
    HouseKept (s.writeCommand (f.command s.house)) (s.publishFigures f) := by
  refine same (fun e he => ?_) (by simp) (by simp [State.publishFigures_command]) (by rw [State.publishFigures_arbiter])
    (by simp)
  rw [State.publishFigures_events]
  dsimp only
  split
  · rw [marked_afterRaise, he, Bool.true_or]
  · exact he

/-- A computation for which the arbiter has been prepared is written and published, or ends in SHED (R59, R69). -/
theorem computeAndPublish {a : Arbiter} (ha : s.arbiter.Prepares a) : HouseKept s (s.setArbiter a).computeAndPublish := by
  have hhouse : ∀ c, ((s.setArbiter a).writeCommand c).house = a.house := fun c => by simp [State.house]
  unfold State.computeAndPublish
  split
  · next f hf =>
    refine (turn ha (State.writeCommand_command _ _) rfl (by simp) (by simp) ?_ ?_ rfl rfl (.inr ?_) (.inr ?_)).trans
      (publishFigures_rest (s.setArbiter a) f)
    · rw [hhouse]
      exact State.figures_fit ha.house hf
    · rw [hhouse]
      exact ha.house
    · simp
    · simp
  · refine turn ha (c := (s.setArbiter a).noComputation.shedCommand) ?_ ?_ ?_ ?_ ?_ ?_ ?_ ?_ ?_ ?_
    · simp [State.enterShed_eq]
    · simpa [State.enterShed_eq] using State.writeCommand_events_congr (by simp) (by simp) _
    · simp
    · simp
    · simpa [State.enterShed_eq, State.house] using State.shedCommand_fits _
    · rfl
    all_goals simp [State.enterShed_eq]

/-! ### The cycle (R34) -/

/-- The arbiter's fields that the house invariant does not read (R28, R31, R32, R39). -/
theorem setArbiter {a : Arbiter} (house : a.house = s.arbiter.house) (run : a.runStart = s.arbiter.runStart)
    (rest : a.restStart = s.arbiter.restStart) (dwell : a.dwellStart = s.arbiter.dwellStart)
    (flow : a.remembered = s.arbiter.remembered) : HouseKept s (s.setArbiter a) where
  phase := rfl
  holds h := by
    have hhouse : (s.setArbiter a).house = s.house := house
    refine h.turn rfl ?_ (by simp [run]) (by simp [rest]) ?_ ?_ ?_ ?_
    · rw [hhouse]
      exact h.fits
    · rw [hhouse]
      exact h.latched
    · rw [hhouse, ← h.dwellTimer, ← dwell]
      rfl
    · rw [hhouse, ← h.defrostFlow, ← flow]
      rfl
    · rw [hhouse]
      exact h.silentBefore
  marks := .of_events rfl
  change hne := absurd rfl hne

theorem setTarget (s : State) (t : Option Target) : HouseKept s (s.setTarget t) := setArbiter rfl rfl rfl rfl rfl

theorem holdOn (hc : s.house.conditions = true) : HouseKept s s.holdOn := by
  have hcomp : s.house.compressor = true := by simp [HouseState.compressor, hc]
  exact (rewrite fun h => h.fits.held hcomp _).trans (setArbiter rfl rfl rfl rfl rfl)

theorem enterChangeover (hc : s.house.conditions = true) (t : Target) : HouseKept s (s.enterChangeover t) := by
  refine write (c := commandOff) (by simp [State.enterChangeover]) (by simp [State.enterChangeover]) (by simp) fun h => ?_
  obtain ⟨hh, hu, hd, -, -⟩ := HouseState.conditions_cases hc
  have hflow : s.arbiter.remembered = none := by simpa [hd] using h.defrostFlow
  have hrun := h.running hu
  refine h.turn (by simp) ?_ (by simp [State.enterChangeover]) (by simp [State.enterChangeover])
    (by simp [h.unlatched hh hu]) (by simp [State.enterChangeover, State.house])
    (by simp [State.enterChangeover, State.house, hflow]) (by simp [hrun])
  simpa [State.enterChangeover, State.house] using commandOff_fits (h := .changeover) rfl (.inl rfl)

/-- What a decision does is kept with the computation that follows it, if one does. -/
theorem decides {d : State × Bool} (h : Decides s d) :
    HouseKept s (if d.2 then d.1.computeAndPublish else d.1.noComputation) := by
  have hno : ∀ v : State, HouseKept v v.noComputation := fun v => frame (by simp)
  cases h with
  | stays => exact hno s
  | pends t => exact (setTarget s t).trans (hno _)
  | prepares a ha => exact computeAndPublish ha
  | fanEnds t hs => exact ((setTarget s t).trans (fallIdle (.inr hs))).trans (hno _)
  | fanStops hs => exact (rewrite fun _ => hs ▸ commandOff_fits rfl (.inr ⟨rfl, rfl⟩)).trans (hno _)
  | goesIdle hs =>
    refine (goIdle ?_ ?_).trans (hno _)
    · rcases hs with hs | hs
      · exact (HouseState.conditions_cases hs).1
      · rw [hs]; decide
    · rcases hs with hs | hs
      · exact (HouseState.conditions_cases hs).2.1
      · rw [hs]; decide
  | holds hs => exact (holdOn hs).trans (hno _)
  | changes hs t => exact (enterChangeover hs t).trans (hno _)

theorem updateZones (s : State) : HouseKept s s.updateZones :=
  same (.updateZones s) (by simp) (by simp) (by simp) (by simp)

theorem cycle (s : State) : HouseKept s s.cycle := by
  have heval : HouseKept s s.evaluateZones := frame (by simp)
  have hdecided : HouseKept s s.decided := by
    unfold State.decided
    exact heval.trans (decides s.evaluateZones.decision_decides)
  have hupdated : HouseKept s s.updated := by
    unfold State.updated
    exact hdecided.trans (updateZones _)
  rw [State.cycle_eq]
  refine hupdated.trans ?_
  generalize s.updated = v
  exact setArbiter rfl rfl rfl rfl rfl

/-! ### The shutdown latch and the end of a SAVE (R48, R49, R181, R183) -/

/-- The house leaves HALT, or UNCOMMISSIONED with the latch clear, with both nodes OFF (R48, R49). -/
theorem resumeHouse (hrun : s.phase = .running) (hl : s.supply.latch = false)
    (hs : s.house = .halt ∨ s.house = .uncommissioned) : HouseKept s s.resumeHouse := by
  refine write (c := commandOff) (by simp [State.resumeHouse]) (by simp [State.resumeHouse]) (by simp) fun h => ?_
  have hdwell : s.arbiter.dwellStart = none := by
    have := h.dwellTimer
    rcases hs with hs | hs <;> simpa [hs] using this
  have hflow : s.arbiter.remembered = none := by
    have := h.defrostFlow
    rcases hs with hs | hs <;> simpa [hs] using this
  have hhouse : s.resumeHouse.house = .shed ∨ s.resumeHouse.house = .idle := by
    simp only [State.resumeHouse, State.house, State.enterHouse_arbiter]
    split
    · exact .inl rfl
    · exact .inr rfl
  refine h.enter hrun (by simp) (c := commandOff) (by simp [State.resumeHouse]) ?_ (by simp [State.resumeHouse])
    (by simp [State.resumeHouse]) (by simp [hl]) (by simp [State.resumeHouse, hdwell]) (by simp [State.resumeHouse, hflow])
    ?_ ?_
  · rcases hhouse with hh | hh <;> rw [hh]
    · exact commandOff_fits rfl (.inr ⟨rfl, rfl⟩)
    · exact commandOff_fits rfl (.inl rfl)
  · rcases hhouse with hh | hh <;> rw [hh] <;> decide
  · rcases hhouse with hh | hh <;> rw [hh] <;> decide

theorem clearLatch (hrun : s.phase = .running) : HouseKept s s.clearLatch := by
  have hclear : HouseKept s (s.withLatch false) :=
    ⟨rfl, HouseHolds.withoutLatch, .of_events rfl, fun hne => absurd rfl hne⟩
  have hunhalt : HouseKept (s.withLatch false) (s.withLatch false).unhaltHouse :=
    ite (fun hs => resumeHouse hrun rfl (.inl hs)) fun _ => refl _
  rw [State.clearLatch_eq]
  exact (hclear.trans hunhalt).trans (frame (by simp))

/-- The setting of the latch halts a commissioned house (R48, R181). -/
theorem setLatch (hrun : s.phase = .running) : HouseKept s s.setLatch := by
  have hphase : s.setLatch.phase = .running := by simpa [State.setLatch_eq] using hrun
  have hraised : MarksKept s ((s.withLatch true).raise .shutdown) := .of_afterRaise (State.raise_events _ _)
  by_cases hu : s.house = .uncommissioned
  · have heq : s.setLatch = ((s.withLatch true).raise .shutdown).cutDrives := by
      rw [State.setLatch_eq, State.haltHouse_uncommissioned (by simpa [State.house] using hu)]
    refine ⟨hphase.trans hrun.symm, fun h => ?_, ?_, fun hne => absurd (by simp [heq]) hne⟩
    · have hhouse : s.setLatch.house = s.house := State.house_congr (by simp [heq])
      refine h.turn (hphase.trans hrun.symm) ?_ (by simp [heq]) (by simp [heq]) (fun _ => .inr (hhouse.trans hu)) ?_ ?_
        fun hp => absurd hphase hp
      · rw [hhouse]
        simpa [heq] using h.fits
      · rw [hhouse, ← h.dwellTimer]
        simp [heq]
      · rw [hhouse, ← h.defrostFlow]
        simp [heq]
    · exact hraised.trans (.of_events (by simp [heq]))
  · have heq := s.setLatch_eq
    rw [State.haltHouse_commissioned (by simpa [State.house] using hu)] at heq
    refine ⟨hphase.trans hrun.symm, fun h => ?_, ?_, fun hne => ?_⟩
    · exact h.enter hrun (hphase.trans hrun.symm) (c := commandOff) (by simp [heq])
        (by simpa [heq, State.house] using commandOff_fits (h := .halt) rfl (.inl rfl)) (by simp [heq]) (by simp [heq])
        (fun _ => .inl (by simp [heq, State.house])) (by simp [heq]) (by simp [heq]) (by simp [heq, State.house])
        (by simp [heq, State.house])
    · refine (hraised.trans (MarksKept.writeCommand _ commandOff)).trans (.of_events ?_)
      simp [heq]
    · have hne' : ((s.withLatch true).raise .shutdown).command.outMode ≠ commandOff.outMode := by
        simpa [heq] using hne
      rw [show s.setLatch.events = (((s.withLatch true).raise .shutdown).writeCommand commandOff).events by simp [heq]]
      exact State.writeCommand_marked hne'

theorem inputAsserted (s : State) : HouseKept s s.inputAsserted := by
  have hi : HouseKept s (s.setInput .asserted) := same (.of_events rfl) rfl rfl rfl rfl
  refine ite (fun hr => hi.trans (setLatch ?_)) fun _ => hi
  exact (running_and hr).1

/-- A SAVE that has succeeded commissions the house: HALT under the latch, else SHED or IDLE (R48, R49). -/
theorem commission (hrun : s.phase = .running) : HouseKept s s.commission := by
  refine ite (fun hu => ite (fun _ => ?_) fun hl => resumeHouse hrun (by simpa using hl) (.inr hu)) fun _ => refl s
  refine ⟨rfl, fun h => ?_, .of_events rfl, fun hne => absurd rfl hne⟩
  have hoff : s.command = commandOff := by
    have hfits := h.fits
    rw [hu] at hfits
    exact hfits.eq_off rfl rfl
  refine h.turn rfl ?_ (by simp) (by simp) (fun _ => .inl rfl) ?_ ?_ fun hp => absurd hrun hp
  · simpa [hoff, State.house] using commandOff_fits (h := .halt) rfl (.inl rfl)
  · have hdwell := h.dwellTimer
    rw [hu] at hdwell
    simpa [State.house] using hdwell
  · have hflow := h.defrostFlow
    rw [hu] at hflow
    simpa [State.house] using hflow

theorem endSave (hrun : s.phase = .running) (agrees : Bool) : HouseKept s (s.endSave agrees) := by
  unfold State.endSave
  split
  · next x _ =>
    refine ite (fun _ => ?_) fun _ => ?_
    · have hd : HouseKept s (({ s with store := savedImage x, storeState := .valid, saving := none } : State).raise .saveDone) :=
        same (.of_afterRaise (State.raise_events _ _)) (by simp) (by simp) (by simp) (by simp)
      exact hd.trans (commission (by simpa using hrun))
    · exact same (.of_afterRaise (State.raise_events _ _)) (by simp [State.saveFailed]) (by simp [State.saveFailed])
        (by simp [State.saveFailed]) (by simp [State.saveFailed])
  · exact refl s

end HouseKept

end Sys2Proof.Machine
end

section
/-! PROOF. Every move of the part but a reset keeps the house (R26 to R53): the moves of the plant links, the curtailment decoder, the
zones and the room line leave record, arbiter and latch alone or turn the house by the operations above. -/

namespace Sys2Proof.Machine

/-- A report with its node state heard and recorded: the first two steps of R147. -/
def State.nodeTaken (s : State) (n : Node) (x : Status) : State :=
  match x.nodeState with
  | some st => (s.statusHeard n x.nodeState).recordNodeState n st
  | none => s.statusHeard n x.nodeState

theorem State.takeStatus_eq (s : State) (n : Node) (x : Status) :
    s.takeStatus n x = (((((s.nodeTaken n x).recordFault n x.fault).takeAnnex n x).completeBinding n).activate n
      x.nodeState).stopOnIdle n x.nodeState := rfl

/-- The link of a node is DOWN, and the house does not know it yet (R146). -/
def State.linkDown (s : State) (n : Node) (lost : Bool) : State :=
  ((s.setLink n { (s.link n).downed with lost := lost }).setLinkState n .down).forgetWake n

/-- The house stops for a node that the loss made unavailable (R51). -/
def State.nodeGone (s : State) (n : Node) (lost : Bool) : State :=
  if s.available n then (s.linkDown n lost).nodeUnavailable n else s.linkDown n lost

theorem State.enterDown_outdoorUnit (s : State) (lost : Bool) :
    s.enterDown .outdoorUnit lost = (s.nodeGone .outdoorUnit lost).reviewShed := rfl

namespace HouseKept

variable {s t u : State}

/-! ### Plant links -/

theorem recordNodeState (s : State) (n : Node) (st : NodeState) : HouseKept s (s.recordNodeState n st) := by
  have hl : HouseKept s (s.setLink n { s.link n with nodeState := some st }) := frame (by simp)
  have ha : HouseKept s
      (if s.available n && !(s.setLink n { s.link n with nodeState := some st }).available n then
        (s.setLink n { s.link n with nodeState := some st }).nodeUnavailable n
      else s.setLink n { s.link n with nodeState := some st }) :=
    ite (fun _ => hl.trans (nodeUnavailable _ n)) fun _ => hl
  cases n with
  | outdoorUnit => exact ha.trans (outdoorReported _ st)
  | airHandler => exact ha

theorem recordFault (s : State) (n : Node) (code : Nat) : HouseKept s (s.recordFault n code) := by
  have hl : HouseKept s (s.setLink n { s.link n with fault := some code }) := frame (by simp)
  exact ite (fun _ => hl.trans (raise _ _)) fun _ => hl

theorem compareCapability (s : State) (n : Node) (v : AnnexValue) : HouseKept s (s.compareCapability n v) := by
  unfold State.compareCapability
  split
  · refine ite (fun _ => refl s) fun _ => ?_
    exact (HouseKept.trans (frame (by simp)) (raise _ _)).trans (capabilityChanged _ _ _)
  · exact refl s

theorem takeAnnex (s : State) (n : Node) (x : Status) : HouseKept s (s.takeAnnex n x) := by
  unfold State.takeAnnex
  split
  · exact frame (by simp)
  · split
    · exact frame (by simp)
    · exact HouseKept.trans (frame (by simp)) (compareCapability _ n _)

theorem completeBinding (s : State) (n : Node) : HouseKept s (s.completeBinding n) := by
  have hb : ∀ l : Link, HouseKept s ((s.setLink n l).setLinkState n .ready) := fun l => frame (by simp)
  refine ite (fun _ => ?_) fun _ => refl s
  cases n with
  | outdoorUnit => exact (hb _).trans (reviewShed _)
  | airHandler => exact hb _

theorem takeStatus (s : State) (n : Node) (x : Status) : HouseKept s (s.takeStatus n x) := by
  have hheard : HouseKept s (s.statusHeard n x.nodeState) := frame (by simp)
  have hnode : HouseKept s (s.nodeTaken n x) := by
    unfold State.nodeTaken
    split
    · exact hheard.trans (recordNodeState _ n _)
    · exact hheard
  have hbound := ((hnode.trans (recordFault _ n x.fault)).trans (takeAnnex _ n x)).trans (completeBinding _ n)
  rw [State.takeStatus_eq]
  exact hbound.trans (frame (by simp))

theorem enterDown (s : State) (n : Node) (lost : Bool) : HouseKept s (s.enterDown n lost) := by
  have hl : HouseKept s (s.linkDown n lost) := frame (by simp [State.linkDown])
  have hg : HouseKept s (s.nodeGone n lost) := ite (fun _ => hl.trans (nodeUnavailable _ n)) fun _ => hl
  cases n with
  | outdoorUnit => exact hg.trans (reviewShed _)
  | airHandler => exact hg

/-! ### The plant port -/

theorem relayStatus (s : State) (n : Node) (p : List Byte) : HouseKept s (s.relayStatus n p) := frame (by simp)

theorem plantReply (s : State) (w : PlantWait) (p : List Byte) (relayFirst : Bool) :
    HouseKept s (s.plantReply w p relayFirst) := by
  unfold State.plantReply
  split
  · exact ite (fun _ => (relayStatus s _ p).trans (takeStatus _ _ _)) fun _ => (takeStatus s _ _).trans (relayStatus _ _ p)
  · exact frame (by simp)

theorem plantAnswered (s : State) (p : List Byte) (relayFirst : Bool) : HouseKept s (s.plantAnswered p relayFirst) := by
  unfold State.plantAnswered
  split
  · next w _ =>
    have hc : HouseKept s s.closePlantWait := frame (by simp)
    exact (hc.trans (plantReply _ w p relayFirst)).trans (frame (by simp))
  · exact refl s

theorem judgePlant (s : State) (b : Burst) : HouseKept s (s.judgePlant b) := by
  have hc : HouseKept s (s.countPlant (s.plantVerdict b)) := frame (by simp)
  have hm : HouseKept s (s.countPlant (s.plantVerdict b)).plantMissed := hc.trans (frame (by simp))
  simp only [State.judgePlant]
  split
  · exact hc
  · exact hc
  · exact hm
  · exact hm
  · exact hm
  · exact hc.trans (plantAnswered _ _ _)

theorem receivePlant (s : State) (b : Burst) : HouseKept s (s.receivePlant b) := by
  unfold State.receivePlant
  generalize heard b s.now s.plant.frames = l
  induction l generalizing s with
  | nil => exact refl s
  | cons a l ih => exact (judgePlant s a).trans (ih _)

/-! ### The curtailment decoder -/

theorem setDecoder (s : State) (d : Decoder) : HouseKept s (s.setDecoder d) := frame (by simp)

theorem setLevel (s : State) (l : CurtailLevel) : HouseKept s (s.setLevel l) := by
  refine ite (fun _ => refl s) fun _ => ?_
  exact ((setDecoder s _).trans (raise _ _)).trans (capChanged _)

theorem retain (s : State) : HouseKept s s.retain := frame (by simp)

theorem endTrain (s : State) : HouseKept s s.endTrain := by
  unfold State.endTrain
  split
  · exact (((setDecoder s _).trans (setDecoder _ _)).trans (setLevel _ _)).trans (retain _)
  · exact setDecoder s _

theorem glitchEnds (s : State) : HouseKept s s.glitchEnds :=
  ite (fun _ => (setDecoder s _).trans (endTrain _)) fun _ => setDecoder s _

theorem restAtInput (s : State) : HouseKept s s.restAtInput := by
  unfold State.restAtInput
  split
  · exact setDecoder s _
  · exact ite (fun _ => glitchEnds s) fun _ => setDecoder s _
  · exact refl s
  · exact refl s

theorem curtailAtRest (s : State) : HouseKept s s.curtailAtRest :=
  ite (fun _ => ite (fun _ => (setDecoder s _).trans (restAtInput _)) fun _ => setDecoder s _) fun _ => refl s

theorem holdExpired (s : State) : HouseKept s s.holdExpired :=
  ((setDecoder s _).trans (setLevel _ _)).trans (retain _)

/-! ### Zones, queries, dampers and the supply -/

theorem loseZone (s : State) (z : ZoneId) : HouseKept s (s.loseZone z) := by
  have hz : HouseKept s (s.setZone z { s.zone z with loss := .expired }) := frame (by simp)
  have hl : HouseKept s ((s.setZone z { s.zone z with loss := .expired }).leavePlay z) :=
    hz.trans (same (.leavePlay _ z) (by simp) (by simp) (by simp) (by simp))
  exact ite (fun _ => hl) fun _ => hz

theorem answerTimerExpired (s : State) (tag : Nat) : HouseKept s (s.answerTimerExpired tag) := by
  unfold State.answerTimerExpired
  exact ite (fun _ => HouseKept.trans (frame (by simp)) (raise _ _)) fun _ => refl s

theorem enterFault (s : State) (c : ChannelId) (homed : Bool) : HouseKept s (s.enterFault c homed) :=
  HouseKept.trans (frame (by simp)) (raise _ _)

theorem serveQueue (s : State) : HouseKept s s.serveQueue := frame (by simp)

theorem silenceExpired (s : State) (c : ChannelId) : HouseKept s (s.silenceExpired c) := by
  simp only [State.silenceExpired]
  split
  case h_2 => exact ite (fun _ => (enterFault s c _).trans (serveQueue _)) fun _ => frame (by simp)
  all_goals exact frame (by simp)

theorem enterSag (s : State) : HouseKept s s.enterSag := by
  have hs : HouseKept s (s.setSupply .sag s.now) := same (.of_events (by simp)) (by simp) (by simp) (by simp) (by simp)
  exact ite (fun _ => refl s) fun _ => ite (fun _ => hs.trans (raise _ _)) fun _ => hs

end HouseKept

/-! ### The room line -/

/-- Record, arbiter, latch and phase are as they were; the event list may be another. -/
structure HouseStands (s t : State) : Prop where
  phase : t.phase = s.phase
  command : t.command = s.command
  arbiter : t.arbiter = s.arbiter
  supply : t.supply = s.supply

namespace HouseStands

variable {s t u : State}

theorem of (h : t.phase = s.phase ∧ t.command = s.command ∧ t.arbiter = s.arbiter ∧ t.supply = s.supply) :
    HouseStands s t := ⟨h.1, h.2.1, h.2.2.1, h.2.2.2⟩

theorem refl (s : State) : HouseStands s s := ⟨rfl, rfl, rfl, rfl⟩

theorem trans (h : HouseStands s t) (h' : HouseStands t u) : HouseStands s u :=
  ⟨h'.phase.trans h.phase, h'.command.trans h.command, h'.arbiter.trans h.arbiter, h'.supply.trans h.supply⟩

theorem clearEvents (s : State) (es : List Event) : HouseStands s (es.foldl State.clearEvent s) := by
  induction es generalizing s with
  | nil => exact refl s
  | cons e es ih => exact HouseStands.trans (of (by simp)) (ih _)

/-- Of the management requests only CLEAR SHUTDOWN touches the house (R183). -/
theorem manages (m : Manages s t) : HouseStands s t ∨ t = s.clearLatch := by
  cases m with
  | clearsLatch _ _ => exact .inr rfl
  | nothing => exact .inl (refl s)
  | saves _ _ => exact .inl ⟨rfl, rfl, rfl, rfl⟩
  | clearsEvents es => exact .inl (clearEvents s es)
  | clearsCounters => exact .inl ⟨rfl, rfl, rfl, rfl⟩
  | _ => exact .inl (of (by simp))

end HouseStands

/-- What every command but a reset or a start-up keeps: the invariant, and MODE CHANGE at a change of the outdoor mode. -/
structure HouseMoves (s t : State) : Prop where
  holds : HouseHolds s → HouseHolds t
  change : s.command.outMode ≠ t.command.outMode → marked t.events.raised .modeChange = true

namespace HouseMoves

variable {s t u : State}

theorem of_kept (h : HouseKept s t) : HouseMoves s t := ⟨h.holds, h.change⟩

theorem before (h : HouseStands s t) (h' : HouseMoves t u) : HouseMoves s u where
  holds hs := h'.holds (hs.same h.phase h.command h.arbiter (by rw [h.supply]))
  change hne := h'.change (by rwa [h.command])

theorem of_stands (h : HouseStands s t) : HouseMoves s t := before h ⟨id, fun hne => absurd rfl hne⟩

theorem after (h : HouseMoves s t) (h' : HouseKept t u) : HouseMoves s u where
  holds hs := h'.holds (h.holds hs)
  change hne := by
    by_cases hst : s.command.outMode = t.command.outMode
    · exact h'.change (hst ▸ hne)
    · exact h'.marks _ (h.change hst)

theorem takeReply (hrun : s.phase = .running) (x : Sender) (cls : Byte) (p : List Byte) :
    HouseMoves s (s.takeReply x cls p) := by
  simp only [State.takeReply]
  split_ifs
  · exact of_stands (.of (by simp))
  · exact of_stands (.of (by simp))
  · exact of_stands (.of (by simp))
  · have hm : HouseMoves s (s.manage x (byteAt p 1) (p.drop 2)).state := by
      rcases HouseStands.manages (s.manage_manages x (byteAt p 1) (p.drop 2)) with h | h
      · exact of_stands h
      · rw [h]
        exact of_kept (.clearLatch hrun)
    exact hm.after (.frame (by simp [State.takeRequest, State.sendAnswer]))
  · exact of_stands (.refl s)

end HouseMoves

theorem Manages.room_wait {s t : State} (m : Manages s t) : t.room.wait = s.room.wait := by
  cases m with
  | nothing => rfl
  | saves _ _ => rfl
  | clearsEvents es =>
    induction es generalizing s with
    | nil => rfl
    | cons e es ih => exact (ih (s := s.clearEvent e)).trans (by simp)
  | clearsCounters => rfl
  | _ => simp [State.clearLatch]

theorem State.takeReply_wait (s : State) (x : Sender) (cls : Byte) (p : List Byte) :
    (s.takeReply x cls p).room.wait = s.room.wait := by
  simp only [State.takeReply]
  split_ifs
  · simp
  · simp
  · simp
  · simp [State.takeRequest, State.sendAnswer, (s.manage_manages x (byteAt p 1) (p.drop 2)).room_wait]
  · rfl

/-- A burst that no wait hears is counted at most. -/
theorem State.judgeRoom_unawaited {s : State} (h : s.room.wait = none) (b : Burst) :
    s.judgeRoom b = s.countRoom (s.roomVerdict b) := by
  cases hr : s.isRunning <;> simp [State.judgeRoom, State.roomVerdict, h, hr]

theorem State.foldl_judgeRoom_unawaited {s : State} (h : s.room.wait = none) (l : List Burst) :
    HouseKept s (l.foldl State.judgeRoom s) := by
  induction l generalizing s with
  | nil => exact .refl s
  | cons b l ih =>
    rw [List.foldl_cons, State.judgeRoom_unawaited h]
    have hc : HouseKept s (s.countRoom (s.roomVerdict b)) := .frame (by simp)
    exact hc.trans (ih h)

namespace HouseMoves

variable {s t : State}

/-- A burst leaves the house to itself, or ends the wait. -/
theorem judgeRoom (hrun : s.phase = .running) (b : Burst) :
    HouseStands s (s.judgeRoom b) ∨ HouseMoves s (s.judgeRoom b) ∧ (s.judgeRoom b).room.wait = none := by
  have hc : HouseStands s (s.countRoom (s.roomVerdict b)) := .of (by simp)
  have hm : HouseStands s (s.countRoom (s.roomVerdict b)).roomMissed := hc.trans (.of (by simp))
  cases hw : s.room.wait with
  | none =>
    rw [State.judgeRoom_unawaited hw]
    exact .inl hc
  | some w =>
    simp only [State.judgeRoom]
    split
    · exact .inl hc
    · exact .inl hc
    · exact .inl hm
    · exact .inl hm
    · exact .inl hm
    · next cls p _ =>
      refine .inr ⟨before hc ?_, ?_⟩
      · unfold State.roomAnswered
        split
        · exact before (.of (by simp)) (takeReply (by simpa using hrun) _ cls p)
        · exact of_stands (.refl _)
      · have hu : (s.countRoom (s.roomVerdict b)).room.wait = some w := hw
        simp only [State.roomAnswered, hu, State.takeReply_wait]
        simp [State.closeRoomWait]

theorem receiveRoom (hrun : s.phase = .running) (b : Burst) : HouseMoves s (s.receiveRoom b) := by
  unfold State.receiveRoom
  generalize heard b s.now s.room.frames = l
  induction l generalizing s with
  | nil => exact of_stands (.refl s)
  | cons a l ih =>
    rcases judgeRoom hrun a with h | ⟨h, hw⟩
    · exact before h (ih (h.phase.trans hrun))
    · exact h.after (State.foldl_judgeRoom_unawaited hw l)

end HouseMoves

/-! ### The moves -/

/-- What a move does to the house: what `HouseMoves` says, or it is one of the three moves that start the part anew. -/
inductive ActsOnHouse (u : State) : State → Prop
  | moves {t : State} (h : HouseMoves u t) : ActsOnHouse u t
  | resets (cause : ResetCause) : ActsOnHouse u (u.takeReset cause)
  | starts (held : u.phase = .held) (good : Bool) : ActsOnHouse u (u.beginStart good)
  | completes (loading : u.phase = .loading) : ActsOnHouse u u.completeStart

theorem ActsOnHouse.kept {u t : State} (h : HouseKept u t) : ActsOnHouse u t := .moves (.of_kept h)

theorem Acts.house {u t : State} (a : Acts u t) : ActsOnHouse u t := by
  cases a with
  | hearsRoom running b => exact .moves (.receiveRoom running b)
  | roomTimesOut _ _ => exact .moves (.of_stands (.of (by simp)))
  | polls _ _ => exact .moves (.of_stands (.of (by simp)))
  | hearsPlant _ b => exact .kept (.receivePlant u b)
  | bindingFails _ n _ => exact .kept ((HouseKept.enterDown u n _).trans (.raise _ _))
  | losesLink _ n _ => exact .kept ((HouseKept.enterDown u n _).trans (.raise _ _))
  | answerTimesOut _ tag => exact .kept (.answerTimerExpired u tag)
  | cycles _ _ => exact .kept (.cycle u)
  | defrostsLong _ _ =>
    have ha : HouseKept u (u.setArbiter { u.arbiter with defrostDue := none }) := .setArbiter rfl rfl rfl rfl rfl
    exact .kept (ha.trans (.raise _ _))
  | losesZone _ z _ => exact .kept (.loseZone u z)
  | silenceExpires _ c _ => exact .kept (.silenceExpired u c)
  | seekExpires _ c _ => exact .kept ((HouseKept.enterFault u c false).trans (.serveQueue _))
  | curtailAtRest => exact .kept (.curtailAtRest u)
  | trainEnds _ _ _ => exact .kept (.endTrain u)
  | holdExpires _ _ => exact .kept (.holdExpired u)
  | sags => exact .kept (.enterSag u)
  | leavesSag =>
    refine .kept (.same (.of_events (by simp)) (by simp) (by simp) (by simp) ?_)
    unfold State.leaveSag
    split_ifs <;> simp
  | inputAsserted => exact .kept (.inputAsserted u)
  | inputReleased => exact .kept (.same (.of_events rfl) rfl rfl rfl rfl)
  | saveEnds running agrees _ => exact .kept (.endSave running agrees)
  | resets cause => exact .resets cause
  | starts _ good ended =>
    simp only [State.holdOver, Bool.and_eq_true, decide_eq_true_eq] at ended
    exact .starts ended.1.1.1 good
  | completes loading => exact .completes loading
  | _ => exact .kept (.frame (by simp))

/-! ### The moves that start the part anew -/

theorem HouseHolds.takeReset (s : State) (cause : ResetCause) : HouseHolds (s.takeReset cause) where
  outMode := rfl
  airMode := .inl rfl
  outOff _ := rfl
  airOff _ := ⟨rfl, rfl, rfl⟩
  latched hl := absurd hl Bool.false_ne_true
  runTimer := rfl
  restTimer hp := absurd hp (by simp [State.takeReset, State.blank])
  dwellTimer := rfl
  defrostFlow := rfl
  silentBefore _ := ⟨rfl, rfl⟩

theorem HouseHolds.beginStart {s : State} (h : HouseHolds s) (held : s.phase = .held) (good : Bool) :
    HouseHolds (s.beginStart good) := by
  have hloading : (s.beginStart good).phase = .loading := by simp [State.beginStart]
  have hhouse : (s.beginStart good).house = s.house := State.house_congr (by simp)
  have hsilent := h.silentBefore (by rw [held]; decide)
  constructor
  case restTimer => exact fun hp => absurd (hloading.symm.trans hp) (by decide)
  case silentBefore => exact fun _ => by simpa [hhouse] using hsilent
  all_goals simp only [hhouse, State.beginStart_frame, Command.outOn]
  · exact h.outMode
  · exact h.airMode
  · exact h.outOff
  · exact h.airOff
  · exact h.latched
  · exact h.runTimer
  · exact h.dwellTimer
  · exact h.defrostFlow

/-- At start-up completion the house is in HALT, IDLE or UNCOMMISSIONED with both nodes OFF, and the rest timer runs (R28). -/
theorem HouseHolds.completeStart {s : State} (h : HouseHolds s) (loading : s.phase = .loading) :
    HouseHolds s.completeStart := by
  obtain ⟨hu, -⟩ := h.silentBefore (by rw [loading]; decide)
  have hoff : s.completeStart.command = commandOff := by
    have hfits := h.fits
    rw [hu] at hfits
    simpa [State.completeStart] using hfits.eq_off rfl rfl
  have harb : s.completeStart.arbiter = s.blocksSet.arbiter := by
    simp [State.completeStart, State.startBlocks_arbiter]
  have hlatch : s.completeStart.supply.latch = decide (s.supply.input = .asserted) := by
    simp [State.completeStart, State.startBlocks_supply]
  have hrun : s.completeStart.phase = .running := by simp [State.completeStart, State.startBlocks_eq, State.blocksSet]
  have hhouse : s.completeStart.house =
      if s.storeState = .valid then (if s.supply.input = .asserted then .halt else .idle) else .uncommissioned := by
    rw [State.house, harb]
    rfl
  have hcases : s.completeStart.house = .halt ∨ s.completeStart.house = .idle ∧ s.supply.input ≠ .asserted ∨
      s.completeStart.house = .uncommissioned := by
    rw [hhouse]
    split_ifs with hv hi
    · exact .inl rfl
    · exact .inr (.inl ⟨rfl, hi⟩)
    · exact .inr (.inr rfl)
  have hout : s.completeStart.house.outMode = .off ∧ s.completeStart.house ≠ .changeover ∧ s.completeStart.house ≠ .defrost := by
    rcases hcases with hh | ⟨hh, -⟩ | hh <;> rw [hh] <;> decide
  constructor
  case outMode => rw [hoff]; exact hout.1.symm
  case airMode =>
    rw [hoff]
    rcases hcases with hh | ⟨hh, -⟩ | hh <;> rw [hh] <;> exact .inl rfl
  case outOff => exact fun _ => by rw [hoff]; rfl
  case airOff => exact fun _ => by rw [hoff]; exact ⟨rfl, rfl, rfl⟩
  case latched =>
    intro hl
    have hin : s.supply.input = .asserted := by simpa [hlatch] using hl
    rcases hcases with hh | ⟨-, hne⟩ | hh
    · exact .inl hh
    · exact absurd hin hne
    · exact .inr hh
  case runTimer => rw [harb, hoff]; rfl
  case restTimer => exact fun _ => by rw [harb, hoff]; rfl
  case dwellTimer => rw [harb, decide_eq_false hout.2.1]; rfl
  case defrostFlow => rw [harb, decide_eq_false hout.2.2]; rfl
  case silentBefore => exact fun hp => absurd hrun hp

theorem HouseHolds.acts {u t : State} (h : HouseHolds u) (a : Acts u t) : HouseHolds t := by
  cases a.house with
  | moves m => exact m.holds h
  | resets cause => exact .takeReset u cause
  | starts held good => exact h.beginStart held good
  | completes loading => exact h.completeStart loading

/-- Settles O7, move by move: each one keeps the record in agreement with the house state, whichever turn it makes. -/
theorem stepKeepsHouse : Obligations.StepKeepsHouse := fun _ _ h hstep =>
  step_keeps (I := HouseHolds) (fun _ _ h => h.same rfl rfl rfl rfl) (fun _ _ h => h.same rfl rfl rfl rfl)
    (fun _ _ a h => h.acts a) h hstep

/-! ### MODE CHANGE (R53) -/

/-- No move changes the outdoor mode and leaves a running part without MODE CHANGE raised. -/
theorem Acts.modeChange {u t : State} (a : Acts u t) (hrun : t.phase = .running)
    (hne : u.command.outMode ≠ t.command.outMode) : marked t.events.raised .modeChange = true := by
  cases a.house with
  | moves m => exact m.change hne
  | resets cause => exact absurd hrun (by simp [State.takeReset, State.blank])
  | starts held good => exact absurd hrun (by simp [State.beginStart])
  | completes loading => exact absurd (by simp [State.completeStart]) hne

/-- A step leaves the state as it is when no command waits; else it takes the first one, lets its time pass and makes one move. -/
theorem step_acts {s t : State} (h : step s = .next t) :
    t = s ∨ ∃ rest dt, Acts (({ s with pending := rest } : State).elapse dt) t := by
  unfold step at h
  cases hq : s.pending with
  | nil =>
    rw [hq] at h
    obtain rfl : s = t := by simpa using h
    exact .inl rfl
  | cons c rest =>
    rw [hq] at h
    obtain ⟨t', ht, hact⟩ := exec_acts c { s with pending := rest }
    obtain rfl : t' = t := by simpa [ht] using h
    exact .inr ⟨rest, c.dt, hact⟩

/-- Settles O11: only a write of the record changes the mode, and every write raises the event when it does. -/
theorem modeChangeIsRaised : Obligations.ModeChangeIsRaised := by
  intro s t hstep hrun hne
  rcases step_acts hstep with rfl | ⟨rest, dt, hact⟩
  · exact absurd rfl hne
  · exact hact.modeChange hrun hne

end Sys2Proof.Machine
end

section
/-! PROOF. While the shutdown input stands asserted and the latch is set, no drive comes on (R84, R99, R181, R183): a drive is turned on by
a grant alone, a grant needs the latch clear, and the latch is cleared by a request that the asserted input refuses, or by a reset. -/

namespace Sys2Proof.Machine

/-- The latch is set, the input asserted, and no drive is on. -/
structure State.ShutDown (s : State) : Prop where
  latch : s.supply.latch = true
  input : s.supply.input = .asserted
  off : ∀ c : ChannelId, (s.channel c).dir = none

namespace State.ShutDown

variable {s t : State}

theorem same (h : s.ShutDown) (latch : t.supply.latch = s.supply.latch) (input : t.supply.input = s.supply.input)
    (channels : t.channels = s.channels) : t.ShutDown :=
  ⟨latch.trans h.latch, input.trans h.input, fun c => by rw [State.channel_congr channels]; exact h.off c⟩

theorem frame (h : s.ShutDown) (hst : t.supply = s.supply ∧ t.channels = s.channels) : t.ShutDown :=
  h.same (by rw [hst.1]) (by rw [hst.1]) hst.2

theorem setChannel (h : s.ShutDown) (c : ChannelId) {r : Channel} (off : r.dir = none) : (s.setChannel c r).ShutDown := by
  refine ⟨h.latch, h.input, fun k => ?_⟩
  rw [State.channel_setChannel]
  split
  · exact off
  · exact h.off k

theorem setChannel_same (h : s.ShutDown) (c : ChannelId) {r : Channel} (dir : r.dir = (s.channel c).dir) :
    (s.setChannel c r).ShutDown := h.setChannel c (dir.trans (h.off c))

/-- Under the latch nothing is granted (R84). -/
theorem grantLoop (h : s.ShutDown) (n : Nat) : (s.grantLoop n).ShutDown := by
  cases n with
  | zero => exact h
  | succ n => simpa [State.grantLoop, State.mayGrant, h.latch] using h

theorem serveQueue (h : s.ShutDown) : s.serveQueue.ShutDown := (h.frame (t := s.settleLimit) (by simp)).grantLoop _

/-! ### Joining (R78, R82, R92) -/

theorem joinQueue (h : s.ShutDown) (c : ChannelId) (g : Goal) : (s.joinQueue c g).ShutDown :=
  (h.setChannel c (r := { s.channel c with state := .queued, goal := some g, joined := s.now }) (h.off c)).frame ⟨rfl, rfl⟩

theorem leaveQueue (h : s.ShutDown) (c : ChannelId) : (s.leaveQueue c).ShutDown :=
  (h.setChannel c (r := { s.channel c with state := .idle, goal := none, retry := false }) (h.off c)).frame ⟨rfl, rfl⟩

theorem joinHome (h : s.ShutDown) (c : ChannelId) : (s.joinHome c).ShutDown := by
  unfold State.joinHome
  split
  · exact h.joinQueue c _
  · exact h

theorem adopt (h : s.ShutDown) (c : ChannelId) : (s.adopt c).ShutDown := by
  simp only [State.adopt]
  split
  · exact h
  · split_ifs
    · exact (h.setChannel c (r := { s.channel c with taken := true }) (h.off c)).joinQueue c _
    · exact h.setChannel c (h.off c)
    · exact h.setChannel c (h.off c)
    · exact h.setChannel c (h.off c)

theorem tryJoin (h : s.ShutDown) (c : ChannelId) : (s.tryJoin c).ShutDown := by
  unfold State.tryJoin
  split
  · exact h.adopt c
  · exact h.joinHome c

theorem endSettling (h : s.ShutDown) (c : ChannelId) : (s.endSettling c).ShutDown := by
  simp only [State.endSettling]
  split_ifs
  · exact adopt (h.setChannel_same c (by rfl)) c
  · exact h.setChannel_same c (by rfl)
  · exact joinHome (h.setChannel_same c (by rfl)) c

theorem comeToJoin (h : s.ShutDown) (c : ChannelId) : (s.comeToJoin c).ShutDown := by
  unfold State.comeToJoin
  split_ifs
  · exact h.endSettling c
  · exact h.tryJoin c
  · exact h

theorem forIx {n : Nat} {f : Fin n → State → State} (h : s.ShutDown) (hf : ∀ i {t : State}, t.ShutDown → (f i t).ShutDown) :
    (s.forIx f).ShutDown :=
  State.forIx_induct State.ShutDown f s h fun i _ => hf i

theorem joinBelow (h : s.ShutDown) (c : ChannelId) : (s.joinBelow c).ShutDown :=
  h.forIx fun k _ ht => by
    split
    · exact ht.comeToJoin k
    · exact ht

theorem joinHomeInOrder (h : s.ShutDown) (c : ChannelId) : (s.joinHomeInOrder c).ShutDown := (h.joinBelow c).joinHome c

theorem joinInOrder (h : s.ShutDown) (c : ChannelId) : (s.joinInOrder c).ShutDown :=
  ((h.joinBelow c).comeToJoin c).serveQueue

theorem startHoming (h : s.ShutDown) : s.startHoming.ShutDown :=
  (forIx (s := { s with homingDue := none }) (h.frame ⟨rfl, rfl⟩) fun c _ ht => ht.comeToJoin c).serveQueue

/-! ### Publications (R77 to R81) -/

theorem retargetQueued (h : s.ShutDown) (c : ChannelId) (g : Goal) : (s.retargetQueued c g).ShutDown := by
  have hq : (s.setChannel c { s.channel c with goal := some g, taken := true }).ShutDown := h.setChannel c (h.off c)
  simp only [State.retargetQueued]
  split
  · exact hq
  · exact hq.leaveQueue c

theorem retargetDriving (h : s.ShutDown) (c : ChannelId) (g : Goal) : (s.retargetDriving c g).ShutDown := by
  simpa [State.retargetDriving, h.off c] using h

theorem takeTarget (h : s.ShutDown) (c : ChannelId) (p : Nat) : (s.takeTarget c p).ShutDown := by
  have ht : (s.setChannel c { s.channel c with target := some p, taken := false }).ShutDown := h.setChannel c (h.off c)
  simp only [State.takeTarget]
  split
  · split
    · exact ht.adopt c
    · exact ht.retargetQueued c _
    · exact ht.retargetDriving c _
    · exact ht.retargetDriving c _
    all_goals exact ht
  · exact ht

theorem publish (h : s.ShutDown) (p : Vector Nat 8) : (s.publish p).ShutDown :=
  (h.forIx fun c _ ht => (ht.takeTarget c _).comeToJoin c).serveQueue

theorem computeAndPublish (h : s.ShutDown) : s.computeAndPublish.ShutDown := by
  unfold State.computeAndPublish
  split
  · simp only [State.publishFigures]
    split
    · exact publish (h.frame (by simp)) _
    · exact h.frame (by simp)
  · exact h.frame (by simp)

theorem cycle (h : s.ShutDown) : s.cycle.ShutDown := by
  have hdecided : s.decided.ShutDown := by
    have hd : s.evaluateZones.decision.1.ShutDown := h.frame (by simp)
    unfold State.decided
    split
    · exact hd.computeAndPublish
    · exact hd.frame (by simp)
  rw [State.cycle_eq]
  exact hdecided.frame (by simp [State.updated])

/-! ### Feedback and timers of a channel (R88 to R98) -/

theorem recheckQueued (h : s.ShutDown) (c : ChannelId) : (s.recheckQueued c).ShutDown := by
  simp only [State.recheckQueued]
  split
  · split
    · exact h.leaveQueue c
    · exact h
  · exact h

theorem coastPulse (h : s.ShutDown) (c : ChannelId) (d : Dir) : (s.coastPulse c d).ShutDown :=
  recheckQueued (h.setChannel_same c (by rfl)) c

theorem loseHoming (h : s.ShutDown) (c : ChannelId) : (s.loseHoming c).ShutDown := by
  simp only [State.loseHoming]
  split
  · exact joinHomeInOrder (h.setChannel_same c (by rfl)) c
  all_goals exact h.setChannel_same c (by rfl)

theorem strayPulse (h : s.ShutDown) (c : ChannelId) : (s.strayPulse c).ShutDown := by
  have hs : (s.setChannel c { s.channel c with stray := satInc 16 (s.channel c).stray }).ShutDown := h.setChannel c (h.off c)
  simp only [State.strayPulse]
  split
  · exact hs.loseHoming c
  · exact hs

theorem pulse (h : s.ShutDown) (c : ChannelId) : (s.pulse c).ShutDown := by
  simp only [State.pulse, h.off c]
  split
  · split
    · exact (h.coastPulse c _).serveQueue
    · exact (h.strayPulse c).serveQueue
  · exact (h.strayPulse c).serveQueue

theorem enterFault (h : s.ShutDown) (c : ChannelId) (homed : Bool) : (s.enterFault c homed).ShutDown :=
  (h.setChannel c (r := { (s.channel c).driveOff (s.damperCfg c) s.now with state := .fault, homed := homed, taken := false })
    rfl).frame (by simp [State.enterFault])

theorem silenceExpired (h : s.ShutDown) (c : ChannelId) : (s.silenceExpired c).ShutDown := by
  simp only [State.silenceExpired]
  split
  case h_1 => exact serveQueue (h.setChannel c rfl)
  case h_2 =>
    split
    · exact (h.enterFault c _).serveQueue
    · exact serveQueue (h.setChannel c rfl)
  all_goals exact h

theorem seekExpired (h : s.ShutDown) (c : ChannelId) : (s.seekExpired c).ShutDown := (h.enterFault c false).serveQueue

theorem releaseChannel (h : s.ShutDown) (c : ChannelId) : (s.releaseChannel c).ShutDown := by
  have hr : (s.setChannel c { s.channel c with state := .unhomed, homed := false, retry := false, taken := false }).ShutDown :=
    h.setChannel c (h.off c)
  exact (joinHomeInOrder (hr.frame (by simp)) c).serveQueue

theorem damperWritten (h : s.ShutDown) (c : ChannelId) (old : DamperCfg) : (s.damperWritten c old).ShutDown := by
  simp only [State.damperWritten]
  split
  · exact h
  · exact joinHomeInOrder (h.setChannel_same c (by rfl)) c

theorem dampersWritten (h : s.ShutDown) (start : Nat) (xs : List DamperCfg) : (s.dampersWritten start xs).ShutDown := by
  refine serveQueue (forIx (h.frame ⟨rfl, rfl⟩) fun c t ht => ?_)
  split
  · exact ht.damperWritten c _
  · exact ht

/-! ### The requests and the latch (R99, R181, R183) -/

theorem manages (h : s.ShutDown) (m : Manages s t) : t.ShutDown := by
  cases m with
  | clearsLatch released _ => exact absurd h.input released
  | writesDampers start xs _ _ _ => exact h.dampersWritten start xs
  | writesProfile p _ => exact serveQueue (h.frame ⟨rfl, rfl⟩)
  | releases c _ => exact h.releaseChannel c
  | nothing => exact h
  | saves _ _ => exact h.frame ⟨rfl, rfl⟩
  | clearsEvents es => exact h.frame (by simp)
  | clearsCounters => exact h.frame ⟨rfl, rfl⟩
  | _ => exact h.frame (by simp)

theorem keptByReplies : KeptByReplies State.ShutDown where
  port _ _ h := h.frame (by simp)
  miss _ _ h := h.frame (by simp)
  credit _ _ h := h.frame (by simp)
  notice _ _ _ h := h.frame (by simp)
  report _ _ _ h := h.frame (by simp)
  change _ _ _ _ _ h := h.frame (by simp)
  query _ _ _ _ _ h := h.frame (by simp)
  manage _ _ _ m h := h.manages m

/-- An input that stays asserted leaves the latch as it stands (R181). -/
theorem inputAsserted (h : s.ShutDown) : s.inputAsserted.ShutDown := by
  have hi : (s.setInput .asserted).ShutDown := h.same rfl h.input.symm rfl
  have heq : s.inputAsserted = s.setInput .asserted := if_neg (by simp [h.latch])
  exact heq ▸ hi

theorem enterSag (h : s.ShutDown) : s.enterSag.ShutDown := by
  have hs : (s.setSupply .sag s.now).ShutDown := h.same (by simp) (by simp) (by simp)
  simp only [State.enterSag]
  split_ifs
  · exact h
  · exact hs.frame (by simp)
  · exact hs

theorem leaveSag (h : s.ShutDown) : s.leaveSag.ShutDown := by
  have hs : (s.setSupply .normal (s.now - 9)).ShutDown := h.same (by simp) (by simp) (by simp)
  simp only [State.leaveSag]
  split_ifs
  · exact h
  · exact hs.serveQueue
  · exact hs

theorem endSave (h : s.ShutDown) (agrees : Bool) : (s.endSave agrees).ShutDown := h.frame (by simp)

end State.ShutDown

/-- A move from a running part under the asserted input leaves the latch set and every drive off, unless it is a reset. -/
theorem State.ShutDown.acts {u t : State} (h : u.ShutDown) (hrun : u.phase = .running) (a : Acts u t)
    (htrun : t.phase = .running) : t.supply.latch = true ∧ ∀ c : ChannelId, (t.channel c).dir = none := by
  have of : t.ShutDown → t.supply.latch = true ∧ ∀ c : ChannelId, (t.channel c).dir = none := fun ht => ⟨ht.latch, ht.off⟩
  cases a with
  | hearsRoom running b => exact of (State.ShutDown.keptByReplies.receive running h b)
  | roomTimesOut _ _ => exact of (State.ShutDown.keptByReplies.timeout h)
  | cycles _ _ => exact of h.cycle
  | pulses _ c => exact of (h.pulse c)
  | silenceExpires _ c _ => exact of (h.silenceExpired c)
  | seekExpires _ c _ => exact of (h.seekExpired c)
  | joins _ c _ => exact of (h.joinInOrder c)
  | homes _ _ => exact of h.startHoming
  | sags => exact of h.enterSag
  | leavesSag => exact of h.leaveSag
  | inputAsserted => exact of h.inputAsserted
  | inputReleased => exact ⟨h.latch, h.off⟩
  | saveEnds _ agrees _ => exact of (h.endSave agrees)
  | resets cause => exact absurd htrun (by simp [State.takeReset, State.blank])
  | starts _ good _ => exact absurd htrun (by simp [State.beginStart])
  | completes loading => exact absurd (hrun.symm.trans loading) (by decide)
  | _ => exact of (h.frame (by simp))

/-- Under the latch no channel drives (R99). -/
theorem DrivesHold.undriven {s : State} (h : DrivesHold s) (hl : s.supply.latch = true) (c : ChannelId) :
    (s.channel c).dir = none := by
  obtain ⟨hcount, -⟩ := h.latched hl
  have hidle : (s.channel c).driving = false := by
    have hnil : (List.finRange 8).filter (fun k : ChannelId => (s.channel k).driving) = [] := List.length_eq_zero_iff.1 hcount
    simpa using List.filter_eq_nil_iff.1 hnil c (List.mem_finRange c)
  have hdir := (h.channels c).drives
  rw [hidle] at hdir
  simpa using hdir

/-- Settles O12: the drives are off because nothing is granted under the latch, and both nodes because the latch holds the house in
HALT or UNCOMMISSIONED. -/
theorem latchStandsWhileAsserted : Obligations.LatchStandsWhileAsserted := by
  intro s t hh hd hstep hrun htrun hl hin
  have hs : s.ShutDown := ⟨hl, hin, hd.undriven hl⟩
  obtain ⟨hlt, hoff⟩ : t.supply.latch = true ∧ ∀ c : ChannelId, (t.channel c).dir = none := by
    rcases step_acts hstep with rfl | ⟨rest, dt, hact⟩
    · exact ⟨hs.latch, hs.off⟩
    · have hu : (({ s with pending := rest } : State).elapse dt).ShutDown := hs.frame ⟨rfl, rfl⟩
      exact hu.acts hrun hact htrun
  have ht : HouseHolds t := stepKeepsHouse s t hh hstep
  have hcommand : t.command = commandOff := by
    rcases ht.latched hlt with h | h <;> have hfits := h ▸ ht.fits <;> exact hfits.eq_off rfl rfl
  refine ⟨hlt, by rw [hcommand]; rfl, by rw [hcommand]; rfl, fun c => ?_⟩
  simp [State.openOutput, State.closeOutput, hoff c]

end Sys2Proof.Machine
end

section
/-! PROOF. The shutdown input and the end of a SAVE (R48, R49, R99, R181, R187, R188): what the setting of the latch makes of the house and
of each channel, and what a read-back makes of the image, the store state and the house. -/

namespace Sys2Proof.Machine

/-! ### What the setting of the latch makes of a channel (R99) -/

theorem Channel.cutOff_driving (r : Channel) (cfg : DamperCfg) (now : Time) :
    (r.cutOff cfg now).driving = false ∧ (r.cutOff cfg now).state ≠ .queued := by
  cases hs : r.state <;> cases hh : r.homed <;>
    simp [Channel.cutOff, hs, hh, Channel.driving, Channel.settleFor, Channel.driveOff]

theorem Channel.cutOff_of_driving {r : Channel} (h : r.driving = true) (cfg : DamperCfg) (now : Time) :
    r.cutOff cfg now = { r.settleFor cfg now with taken := false } := by
  have hs : r.state = .moving ∨ r.state = .seeking := by simpa [Channel.driving] using h
  rcases hs with hs | hs <;> simp only [Channel.cutOff, hs]

theorem State.cutDrives_channel (s : State) (c : ChannelId) :
    s.cutDrives.channel c = (s.channel c).cutOff (s.damperCfg c) s.now :=
  (congrArg (look · c) (by simp [State.cutDrives])).trans (look_tab (fun c => (s.channel c).cutOff (s.damperCfg c) s.now) c)

theorem State.cutDrives_queue (s : State) : s.cutDrives.queue = [] := by simp [State.cutDrives]

/-! ### The setting of the latch as a whole (R48, R99, R181) -/

section
variable (s : State)

/-- What the setting of the latch leaves as it was. -/
theorem State.setLatch_rest :
    s.setLatch = { s with
      supply := { s.supply with latch := true }, arbiter := s.setLatch.arbiter, command := s.setLatch.command
      channels := s.setLatch.channels, queue := s.setLatch.queue, slotLimit := s.setLatch.slotLimit
      links := s.setLatch.links, relay := s.setLatch.relay, events := s.setLatch.events } := by
  ext1 <;> simp [State.setLatch]

theorem State.setLatch_channel (c : ChannelId) :
    s.setLatch.channel c = (s.channel c).cutOff (s.damperCfg c) s.now := by
  rw [State.setLatch_eq, State.cutDrives_channel, State.channel_congr (s := s) (by simp),
    State.damperCfg_congr (s := s) (by simp)]
  simp

theorem State.setLatch_shutdown : marked s.setLatch.events.raised .shutdown = true := by
  have hraised : marked ((s.withLatch true).raise .shutdown).events.raised .shutdown = true := State.marked_raise _ _
  have hhalt : MarksKept ((s.withLatch true).raise .shutdown) ((s.withLatch true).raise .shutdown).haltHouse := by
    unfold State.haltHouse
    split
    · exact .of_events rfl
    · exact (MarksKept.writeCommand _ commandOff).trans (.of_events (by simp))
  have hcut : MarksKept ((s.withLatch true).raise .shutdown).haltHouse s.setLatch := .of_events (by simp [State.setLatch_eq])
  exact (hhalt.trans hcut) _ hraised

theorem State.setLatch_halts (h : s.house ≠ .uncommissioned) :
    s.setLatch.house = .halt ∧ s.setLatch.command = commandOff ∧ s.setLatch.arbiter.pendingTarget = none := by
  rw [State.setLatch_eq, State.haltHouse_commissioned (by simpa [State.house] using h)]
  simp [State.house]

theorem State.setLatch_uncommissioned (h : s.house = .uncommissioned) :
    s.setLatch.arbiter = s.arbiter ∧ s.setLatch.command = s.command := by
  rw [State.setLatch_eq, State.haltHouse_uncommissioned (by simpa [State.house] using h)]
  simp

end

/-- Settles O60: the latch sets at the assertion, halts a commissioned house and cuts every drive; set already, it hears nothing. -/
theorem shutdownInputSetsTheLatch : Obligations.ShutdownInputSetsTheLatch := by
  intro s dt hrun
  refine ⟨fun hl => ?_, fun hl => ?_, rfl⟩
  · let u := (s.elapse dt).setInput .asserted
    have hu : u.setLatch = (s.elapse dt).inputAsserted := (if_pos (by simp [hrun, hl])).symm
    refine ⟨u.setLatch, by rw [hu]; rfl, by rw [u.setLatch_rest]; rfl, u.setLatch_shutdown, u.setLatch_halts,
      u.setLatch_uncommissioned, ?_, fun c => ?_, ?_⟩
    · rw [State.setLatch_eq, State.cutDrives_queue]
    · rw [u.setLatch_channel c]
      obtain ⟨hdrives, hqueued⟩ := Channel.cutOff_driving (u.channel c) (u.damperCfg c) u.now
      refine ⟨hdrives, hqueued, fun hd => ?_⟩
      rw [Channel.cutOff_of_driving (r := u.channel c) hd]
      exact ⟨rfl, rfl, rfl, rfl, rfl, rfl⟩
    · rw [u.setLatch_rest]
      rfl
  · exact congrArg Host.Outcome.next (if_neg (by simp [hl]))

/-! ### The end of a SAVE (R48, R49, R188) -/

section
variable (s : State)

theorem State.commission_commissioned (h : s.house ≠ .uncommissioned) : s.commission = s := if_neg h

/-- An UNCOMMISSIONED house is commissioned: HALT under the latch, else SHED or IDLE (R48, R49). -/
theorem State.commission_house (h : s.house = .uncommissioned) :
    s.commission.house = if s.supply.latch then .halt else if s.shedCondition then .shed else .idle := by
  rw [State.commission, if_pos h]
  cases hl : s.supply.latch with
  | true => rfl
  | false => simp [State.resumeHouse, State.house]

end

/-- The part once a read-back has agreed, before the house is told (R188). -/
def State.saved (s : State) (x : Tables) : State :=
  { s with store := savedImage x, storeState := .valid, saving := none }.raise .saveDone

theorem State.saved_eq (s : State) (x : Tables) :
    s.saved x = { s with
      store := ⟨true, true, x⟩, storeState := .valid, saving := none, events := afterRaise s.events .saveDone } := by
  ext1 <;> simp [State.saved, savedImage, State.raise_events]

theorem State.saveFailed_eq (s : State) :
    s.saveFailed = { s with
      store := { s.store with checkGood := false }, storeState := .invalid, saving := none
      events := afterRaise s.events .storeFail } := by
  ext1 <;> simp [State.saveFailed, StoreImage.spoiled, State.raise_events]

/-! ### SAVE and what it refuses (R175, R186 to R189) -/

section
variable {s : State} {dt : Nat} {b : Burst} {w : RoomWait} {q p : List Byte}

/-- A refused request changes nothing but the answer sent, a refused RESTART as any other. -/
theorem Requests.refused {code : Byte} {r : Request} {x : Result} (h : Requests s dt b w code q p)
    (hr : requestOf code = some r) (hx : x ≠ .ok) (ha : (afterReply s dt w p).perform r q = (afterReply s dt w p).refuse x) :
    (s.elapse dt).receiveRoom b = answeredWith (afterReply s dt w p) w.address code x [] := by
  have hmay : (afterReply s dt w p).mayManage (s.senderAt w.address) = true :=
    decide_eq_true ((State.roleOf_congr afterReply_tables _).trans h.tool)
  have hmanage : (afterReply s dt w p).manage (s.senderAt w.address) code q = (afterReply s dt w p).refuse x := by
    simp [State.manage, hmay, hr, ha]
  rw [h.hears.receive, clsManageRequest_reply, h.hasCode, h.hasParams]
  simp only [State.takeRequest, hmanage]
  simp [State.sendAnswer, answeredWith, answerEnd, State.setRoom, State.refuse, hx, frameGap, State.senderAt]

theorem State.writeTable_busy {u : State} (hsave : u.isSaving = true) (hlen : 3 ≤ q.length)
    (hk : (tableOf (byteAt q 0)).isSome = true) : u.writeTable q = u.refuse .busy := by
  obtain ⟨k, hk⟩ := Option.isSome_iff_exists.1 hk
  simp [State.writeTable, hk, hsave, Nat.not_lt.2 hlen]

end

/-- Settles O30: SAVE takes the tables as they stand, its end by the read-back writes the image and tells the house. -/
theorem saveBeginsOnceAndEnds : Obligations.SaveBeginsOnceAndEnds := by
  refine ⟨fun s dt b w q p h hfree => ?_, fun s dt b w q p hsave => ?_, fun s dt x hrun hstate hsaving => ?_⟩
  · have hidle : ¬(afterReply s dt w p).isSaving = true :=
      mt of_decide_eq_true hfree
    refine ⟨fun hnormal => ?_, fun hsag => ?_⟩
    · have hperform : (afterReply s dt w p).perform .save q =
          ({ afterReply s dt w p with storeState := .saving, saving := some s.tables } : State).grant [] := by
        have hsupply : ¬(afterReply s dt w p).supply.supply = .sag := by simp [afterReply, hnormal]
        simp only [State.perform, State.saveTables, if_neg hidle, if_neg hsupply, afterReply_tables]
      refine congrArg Host.Outcome.next ((h.receive (r := .save) (by decide) (by decide)).trans ?_)
      rw [hperform]
      rfl
    · refine congrArg Host.Outcome.next (h.refused (r := .save) (by decide) (by decide) ?_)
      simp only [State.perform, State.saveTables, if_neg hidle]
      exact if_pos hsag
  · have hbusy : (afterReply s dt w p).isSaving = true := decide_eq_true hsave
    refine ⟨fun h hlen hk => ?_, fun h => ?_, fun h => ?_⟩
    · exact congrArg Host.Outcome.next (h.refused (r := .writeTable) (by decide) (by decide) (State.writeTable_busy hbusy hlen hk))
    · exact congrArg Host.Outcome.next (h.refused (r := .save) (by decide) (by decide) (if_pos hbusy))
    · exact congrArg Host.Outcome.next (h.refused (r := .restart) (by decide) (by decide) (if_pos hbusy))
  · have hguard : ∀ agrees, exec (.saveEnd dt agrees) s = .next ((s.elapse dt).endSave agrees) := fun agrees =>
      congrArg Host.Outcome.next (if_pos (by simp [hrun, State.isSaving, hstate]))
    have hend : ∀ agrees, (s.elapse dt).endSave agrees =
        if agrees then ((s.elapse dt).saved x).commission else (s.elapse dt).saveFailed := fun agrees => by
      have hx : (s.elapse dt).saving = some x := hsaving
      rw [State.endSave, hx]
      rfl
    have hsaved := (s.elapse dt).saved_eq x
    refine ⟨⟨_, (hguard true).trans (congrArg _ (hend true)), ?_, ?_, ?_, ?_, fun hc => ?_, fun hu => ?_, ?_⟩, ?_⟩
    · simp [hsaved]
    · simp [hsaved]
    · simp [hsaved]
    · exact (HouseKept.commission (by simpa [hsaved] using hrun)).marks _ (State.marked_raise _ _)
    · rw [if_pos rfl, State.commission_commissioned _ (by simpa [hsaved, State.house] using hc), hsaved]
      rfl
    · rw [if_pos rfl, State.commission_house _ (by simpa [hsaved, State.house] using hu), hsaved]
      rfl
    · rw [if_pos rfl]
      ext1 <;> simp [hsaved]
    · rw [hguard false, hend false, State.saveFailed_eq]
      rfl

end Sys2Proof.Machine
end

section
/-! PROOF. CLEAR SHUTDOWN (R48, R78, R82, R92, R100, R102, R183): what the clearing of the latch makes of the house and of each channel
that waited for it. -/

namespace Sys2Proof.Machine

/-! ### A write of the record as it stands (R27) -/

theorem State.watchMode_same (s : State) (n : Node) (b : Bool) : s.watchMode n b b = s := by
  cases b <;> rfl

theorem State.writeCommand_self (s : State) : s.writeCommand s.command = s := by
  simp only [State.writeCommand, State.watchMode_same, Arbiter.atOutMode_same, ne_eq, not_true, if_false]
  rfl

/-! ### A target adopted (R76, R78, R82) -/

section
variable {s : State} {c : ChannelId}

theorem goalFor_ne_home (cfg : DamperCfg) (p : Nat) : goalFor cfg p ≠ .home := by
  unfold goalFor
  split_ifs <;> simp

/-- The goal of a target needs motion when it is an end of the stroke, or lies outside the settle band (R76). -/
theorem needsMotion_iff (cfg : DamperCfg) (p count : Nat) :
    cfg.needsMotion (cfg.goalOf p) count = true ↔ TargetMoves cfg p count := by
  unfold DamperCfg.goalOf TargetMoves
  split_ifs with h0 h100
  · simp [DamperCfg.needsMotion, h0]
  · simp [DamperCfg.needsMotion, h100]
  · generalize (p * cfg.stroke + 50) / 100 = n
    rw [DamperCfg.needsMotion, decide_eq_true_iff, or_iff_right h0, or_iff_right h100, lt_abs, dist]
    split <;> omega

/-- A target that is not an end of the stroke is a move (R76). -/
theorem isMove_of_rests {cfg : DamperCfg} {p count : Nat} (h : ¬TargetMoves cfg p count) : (cfg.goalOf p).isMove = true := by
  unfold TargetMoves at h
  push Not at h
  obtain ⟨h0, h100, -⟩ := h
  simp [DamperCfg.goalOf, h0, h100, Goal.isMove]

/-- A channel `r` that has joined for a target `p`, waiting or with its stroke begun (R78, R82, R86). -/
def Channel.JoinedForTarget (cfg : DamperCfg) (p : Nat) (r u : Channel) : Prop :=
  JoinedFor u (goalFor cfg p) ∧ u.target = some p ∧ u.taken = true ∧ u.homed = r.homed ∧ u.count = r.count ∧ u.retry = r.retry

theorem Channel.JoinedForTarget.granted (cfg : DamperCfg) (p : Nat) (r : Channel) :
    KeptByGrants (Channel.JoinedForTarget cfg p r) := by
  rintro u cfg' now g hg ⟨⟨hgoal, -⟩, htarget, htaken, hhomed, hcount, hretry⟩
  obtain rfl : g = goalFor cfg p := Option.some.inj (hg.symm.trans hgoal)
  exact ⟨⟨hg, .inr rfl⟩, htarget, htaken, hhomed, (if_neg (goalFor_ne_home cfg p)).trans hcount, hretry⟩

theorem State.adopt_rests {p : Nat} (ht : (s.channel c).target = some p) (h : ¬TargetMoves (s.damperCfg c) p (s.channel c).count) :
    s.adopt c = s.setChannel c { s.channel c with goal := none, taken := true, retry := false } := by
  have hmotion : (s.damperCfg c).needsMotion ((s.damperCfg c).goalOf p) (s.channel c).count = false := by
    rw [← Bool.not_eq_true, needsMotion_iff]
    exact h
  simp [State.adopt, ht, hmotion, isMove_of_rests h]

theorem State.adopt_waits {p : Nat} (ht : (s.channel c).target = some p) (h : TargetMoves (s.damperCfg c) p (s.channel c).count)
    (hj : s.canJoin c = false) : s.adopt c = s.setChannel c { s.channel c with goal := none, taken := false } := by
  simp [State.adopt, ht, (needsMotion_iff _ _ _).2 h, hj]

theorem State.adopt_joins {p : Nat} (ht : (s.channel c).target = some p) (h : TargetMoves (s.damperCfg c) p (s.channel c).count)
    (hj : s.canJoin c = true) : Channel.JoinedForTarget (s.damperCfg c) p (s.channel c) ((s.adopt c).channel c) := by
  have heq : s.adopt c = (s.setChannel c { s.channel c with taken := true }).joinQueue c (goalFor (s.damperCfg c) p) := by
    simp only [State.adopt, ht, if_pos ((needsMotion_iff _ _ _).2 h), if_pos hj]
    rfl
  have hchannel : (s.adopt c).channel c =
      { s.channel c with state := .queued, goal := some (goalFor (s.damperCfg c) p), joined := s.now, taken := true } := by
    rw [heq]
    exact (State.channel_setChannel_same _ c _).trans (by rw [State.channel_setChannel_same]; rfl)
  rw [hchannel]
  exact ⟨⟨rfl, .inl rfl⟩, ht, rfl, rfl, rfl, rfl⟩

end

/-! ### The channels at the clearing of the latch (R100) -/

/-- What the clearing of the latch makes of one channel: the end of its SETTLING, or a join that waited. -/
def State.rejoin (s : State) (c : ChannelId) : State :=
  if (s.channel c).settleOver s.now then s.endSettling c else s.tryJoin c

theorem State.resumeDrives_eq (s : State) : s.resumeDrives = (s.forIx fun c t => t.rejoin c).serveQueue := rfl

@[simp] theorem State.rejoin_frame (s : State) (c : ChannelId) :
    (s.rejoin c).now = s.now ∧ (s.rejoin c).supply = s.supply ∧ (s.rejoin c).tables = s.tables
      ∧ (s.rejoin c).homingDue = s.homingDue := by
  unfold State.rejoin
  split_ifs <;> simp

section
variable {s : State} {c k : ChannelId}

theorem State.adopt_other (h : k ≠ c) : (s.adopt c).channel k = s.channel k := by
  have hset : ∀ r, (s.setChannel c r).channel k = s.channel k := fun r => State.channel_setChannel_other s c k r h
  simp only [State.adopt]
  split
  · rfl
  · split_ifs
    · exact (State.joinQueue_other _ h).1.trans (hset _)
    · exact hset _
    · exact hset _
    · exact hset _

theorem State.rejoin_other (h : k ≠ c) :
    (s.rejoin c).channel k = s.channel k ∧ (k ∈ (s.rejoin c).queue ↔ k ∈ s.queue) := by
  simp only [State.rejoin, State.endSettling, State.tryJoin]
  have hset : ∀ r, (s.setChannel c r).channel k = s.channel k := fun r => State.channel_setChannel_other s c k r h
  split_ifs
  · exact ⟨(State.adopt_other h).trans (hset _), State.adopt_queue_other h⟩
  · exact ⟨hset _, .rfl⟩
  · exact ⟨(State.joinHome_other h).1.trans (hset _), (State.joinHome_other h).2⟩
  · exact ⟨State.adopt_other h, State.adopt_queue_other h⟩
  · exact State.joinHome_other h

/-- A channel that did not wait in the queue: what it becomes is settled where its turn comes, and the grants follow. -/
theorem State.resumeDrives_at (hq : c ∉ s.queue) :
    ∃ u : State, (u.now = s.now ∧ u.supply = s.supply ∧ u.tables = s.tables ∧ u.homingDue = s.homingDue)
      ∧ u.channel c = s.channel c ∧ c ∉ u.queue
      ∧ (c ∉ (u.rejoin c).queue → s.resumeDrives.channel c = (u.rejoin c).channel c)
      ∧ ∀ p : Channel → Prop, KeptByGrants p → p ((u.rejoin c).channel c) → p (s.resumeDrives.channel c) := by
  obtain ⟨u, hu, hsame, hat⟩ := State.forIx_at (fun t => (t.channel c, c ∈ t.queue))
    (fun t => t.now = s.now ∧ t.supply = s.supply ∧ t.tables = s.tables ∧ t.homingDue = s.homingDue)
    (fun c t => t.rejoin c) c s ⟨rfl, rfl, rfl, rfl⟩ (fun j t ht => by simpa using ht)
    (fun j t hj _ => Prod.ext (State.rejoin_other (Ne.symm hj)).1 (propext (State.rejoin_other (Ne.symm hj)).2))
  obtain ⟨hchannel, hqueue⟩ := Prod.mk.inj hsame
  obtain ⟨hchannel', hqueue'⟩ := Prod.mk.inj hat
  rw [State.resumeDrives_eq]
  refine ⟨u, hu, hchannel, fun hm => hq (hqueue.mp hm), fun hout => ?_, fun p hp hpu => ?_⟩
  · exact (State.serveQueue_channel fun hm => hout (hqueue'.mp hm)).trans hchannel'
  · exact State.serveQueue_keeps hp (by rw [hchannel']; exact hpu)

end

section
variable {s : State} {c : ChannelId}

/-- The channels that wait for nothing: in FAULT, IDLE with nothing to adopt, or SETTLING for some time yet. -/
def Channel.Rests (r : Channel) (now : Time) : Prop :=
  r.state = .fault ∨ (r.state = .idle ∧ (r.target = none ∨ r.taken = true))
    ∨ (r.state = .settling ∧ ∀ d, r.deadDue = some d → now < d)

theorem State.rejoin_rests (h : (s.channel c).Rests s.now) : s.rejoin c = s := by
  have hsettle : (s.channel c).settleOver s.now = false := by
    rcases h with h | ⟨h, -⟩ | ⟨h, hd⟩
    · simp [Channel.settleOver, h]
    · simp [Channel.settleOver, h]
    · cases hdue : (s.channel c).deadDue with
      | none => simp [Channel.settleOver, hdue, due]
      | some d => simpa [Channel.settleOver, hdue, due, h] using hd d hdue
  have hidle : (s.channel c).idleWaiting = false := by
    rcases h with h | ⟨h, ht⟩ | ⟨h, -⟩
    · simp [Channel.idleWaiting, h]
    · rcases ht with ht | ht <;> simp [Channel.idleWaiting, ht]
    · simp [Channel.idleWaiting, h]
  have hhomed : (s.channel c).state ≠ .unhomed := by
    rcases h with h | ⟨h, -⟩ | ⟨h, -⟩ <;> simp [h]
  simp [State.rejoin, hsettle, State.tryJoin, hidle, State.joinHome, hhomed]

/-- The channels that are to be homed: UNHOMED, or not homed with a settle end that falls now. -/
def Channel.ToHome (r : Channel) (now : Time) : Prop :=
  r.state = .unhomed ∨ (r.state = .settling ∧ r.homed = false ∧ ∃ d, r.deadDue = some d ∧ d ≤ now)

/-- Such a channel is UNHOMED when its turn comes, and joins for HOME if it can. -/
theorem State.rejoin_toHome (h : (s.channel c).ToHome s.now) :
    ∃ v : State, (v.now = s.now ∧ v.supply = s.supply ∧ v.homingDue = s.homingDue ∧ v.queue = s.queue)
      ∧ ((v.channel c).state = .unhomed ∧ (v.channel c).target = (s.channel c).target
        ∧ (v.channel c).lastOff = (s.channel c).lastOff ∧ (v.channel c).restMs = (s.channel c).restMs)
      ∧ s.rejoin c = v.joinHome c := by
  rcases h with h | ⟨hstate, hhomed, d, hd, hle⟩
  · refine ⟨s, ⟨rfl, rfl, rfl, rfl⟩, ⟨h, rfl, rfl, rfl⟩, ?_⟩
    simp [State.rejoin, Channel.settleOver, h, State.tryJoin, Channel.idleWaiting]
  · refine ⟨s.setChannel c { s.channel c with deadDue := none, state := .unhomed, taken := false }, ⟨rfl, rfl, rfl, rfl⟩, ?_, ?_⟩
    · rw [State.channel_setChannel_same]
      exact ⟨rfl, rfl, rfl, rfl⟩
    · have hover : (s.channel c).settleOver s.now = true := by simp [Channel.settleOver, hstate, hd, due, hle]
      simp [State.rejoin, hover, State.endSettling, hhomed]

theorem JoinedFor.granted_home : KeptByGrants fun r => JoinedFor r .home := by
  rintro r cfg now g hg ⟨hgoal, -⟩
  obtain rfl : g = .home := Option.some.inj (hg.symm.trans hgoal)
  exact ⟨hg, .inr rfl⟩

theorem State.resumeDrives_toHome (hq : c ∉ s.queue) (h : (s.channel c).ToHome s.now) :
    (s.MayHome c → JoinedFor (s.resumeDrives.channel c) .home)
      ∧ (¬s.MayHome c → (s.resumeDrives.channel c).state = .unhomed ∧ (s.resumeDrives.channel c).target = (s.channel c).target
        ∧ (s.resumeDrives.channel c).lastOff = (s.channel c).lastOff) := by
  obtain ⟨u, ⟨hnow, hsupply, -, hhoming⟩, hchannel, hqueue, hout, hkeep⟩ := State.resumeDrives_at hq
  obtain ⟨v, ⟨hvnow, hvsupply, hvhoming, hvqueue⟩, ⟨hstate, htarget, hoff, hrest⟩, heq⟩ :=
    State.rejoin_toHome (s := u) (c := c) (by rw [hchannel, hnow]; exact h)
  have hmay : v.MayHome c ↔ s.MayHome c := by
    unfold State.MayHome
    rw [hvnow, hvsupply, hvhoming, hoff, hrest, hnow, hsupply, hhoming, hchannel]
  refine ⟨fun hm => hkeep (fun r => JoinedFor r .home) JoinedFor.granted_home ?_, fun hm => ?_⟩
  · rw [heq, State.joinHome_joins hstate (hmay.2 hm)]
    have hjoined : (v.joinQueue c .home).channel c = { v.channel c with state := .queued, goal := some .home, joined := v.now } :=
      State.channel_setChannel_same _ c _
    rw [hjoined]
    exact ⟨rfl, .inl rfl⟩
  · rw [State.joinHome_stays (mt hmay.1 hm)] at heq
    rw [hout (by rw [heq, hvqueue]; exact hqueue), heq]
    rw [hchannel] at htarget hoff
    exact ⟨hstate, htarget, hoff⟩

theorem State.resumeDrives_rests (hq : c ∉ s.queue) (h : (s.channel c).Rests s.now) :
    s.resumeDrives.channel c = s.channel c := by
  obtain ⟨u, ⟨hnow, -⟩, hchannel, hqueue, hout, -⟩ := State.resumeDrives_at hq
  have heq : u.rejoin c = u := State.rejoin_rests (by rw [hchannel, hnow]; exact h)
  rw [hout (by rwa [heq]), heq, hchannel]

/-- An IDLE channel with a target not taken adopts it at the clearing of the latch (R78, R100). -/
theorem State.resumeDrives_adopts {p : Nat} (hq : c ∉ s.queue) (hidle : (s.channel c).state = .idle)
    (ht : (s.channel c).target = some p) (htaken : (s.channel c).taken = false) :
    AdoptsTarget s.supply.latch s.now (s.damperCfg c) p (s.channel c) (s.resumeDrives.channel c) := by
  obtain ⟨u, ⟨hnow, hsupply, htables, -⟩, hchannel, hqueue, hout, hkeep⟩ := State.resumeDrives_at hq
  have heq : u.rejoin c = u.adopt c := by
    simp [State.rejoin, State.tryJoin, Channel.settleOver, Channel.idleWaiting, hchannel, hidle, ht, htaken]
  have hcfg : u.damperCfg c = s.damperCfg c := State.damperCfg_congr htables c
  have htarget : (u.channel c).target = some p := by rw [hchannel, ht]
  have hjoin : u.canJoin c = true ↔ s.supply.latch = false ∧ (s.channel c).lastOff + ms (s.channel c).restMs ≤ s.now := by
    rw [State.canJoin_iff, hsupply, hnow, hchannel]
  refine ⟨fun hm => ?_, fun hm hno => ?_, fun hm hl hrun => ?_⟩
  · have hadopt := State.adopt_rests (s := u) htarget (by rw [hcfg, hchannel]; exact hm)
    have hrest := hout (by rw [heq, hadopt]; exact hqueue)
    rw [heq, hadopt, State.channel_setChannel_same, hchannel] at hrest
    rw [hrest, ← hidle, ← ht]
  · have hwait : u.canJoin c = false := by
      rw [← Bool.not_eq_true, hjoin]
      rintro ⟨hl, hrun⟩
      rcases hno with hno | hno
      · exact Bool.false_ne_true (hl.symm.trans hno)
      · exact absurd hrun (Nat.not_le.2 hno)
    have hadopt := State.adopt_waits (s := u) htarget (by rw [hcfg, hchannel]; exact hm) hwait
    have hrest := hout (by rw [heq, hadopt]; exact hqueue)
    rw [heq, hadopt, State.channel_setChannel_same, hchannel] at hrest
    rw [hrest, ← hidle, ← ht]
  · have hadopt := State.adopt_joins (s := u) htarget (by rw [hcfg, hchannel]; exact hm) (hjoin.2 ⟨hl, hrun⟩)
    rw [hcfg, hchannel, ← heq] at hadopt
    exact hkeep (Channel.JoinedForTarget (s.damperCfg c) p (s.channel c)) (Channel.JoinedForTarget.granted _ p _) hadopt

end

/-! ### The clearing of the latch as a whole (R48, R183) -/

/-- The arbiter at the clearing of the latch. -/
def State.unhalted (s : State) : Arbiter :=
  if s.house = .halt then { s.arbiter with house := if s.shedCondition = true then .shed else .idle, hold := false } else s.arbiter

/-- With the house invariant the record of a house in HALT is OFF already, so its write moves no link (R27, R48). -/
theorem State.unhaltHouse_eq {s : State} (h : HouseHolds s) : s.unhaltHouse = s.setArbiter s.unhalted := by
  by_cases hh : s.house = .halt
  · have hoff : s.command = commandOff := by
      have hfits := h.fits
      rw [hh] at hfits
      exact hfits.eq_off rfl rfl
    have hne : s.arbiter.house ≠ if s.shedCondition then .shed else .idle := by
      intro he
      have hhalt := he.symm.trans hh
      split at hhalt <;> cases hhalt
    have hresume : s.resumeHouse = s.setArbiter
        { s.arbiter with house := if s.shedCondition = true then .shed else .idle, hold := false } := by
      rw [State.resumeHouse, ← hoff, State.writeCommand_self, State.enterHouse, if_neg hne]
    rw [State.unhaltHouse, State.unhalted, if_pos hh, if_pos hh, hresume]
  · rw [State.unhaltHouse, State.unhalted, if_neg hh, if_neg hh]
    rfl

theorem State.clearLatch_rest {s : State} (h : HouseHolds s) :
    s.clearLatch = { s with
      supply := { s.supply with latch := false }, arbiter := s.unhalted, channels := s.clearLatch.channels
      queue := s.clearLatch.queue, slotLimit := s.clearLatch.slotLimit } := by
  have hunhalt : (s.withLatch false).unhaltHouse = (s.withLatch false).setArbiter s.unhalted :=
    State.unhaltHouse_eq h.withoutLatch
  ext1 <;> simp [State.clearLatch_eq, hunhalt]

/-- The drives see the clearing of the latch, and nothing else of it. -/
theorem State.clearLatch_drives {s : State} (h : HouseHolds s) :
    ∃ v : State, s.clearLatch = v.resumeDrives ∧ v.supply = { s.supply with latch := false } ∧ v.now = s.now
      ∧ v.homingDue = s.homingDue ∧ v.tables = s.tables ∧ v.queue = s.queue ∧ v.channels = s.channels :=
  ⟨(s.withLatch false).setArbiter s.unhalted, by rw [State.clearLatch_eq, State.unhaltHouse_eq h.withoutLatch]; rfl,
    rfl, rfl, rfl, rfl, rfl, rfl⟩

/-- Settles O33: by the input and the latch; the clearing turns the house and goes through the channels that waited. -/
theorem clearShutdownIsDecided : Obligations.ClearShutdownIsDecided := by
  intro s dt b w q p hreq u
  have hexec : exec (.clearShutdown dt b) s = .next (answeredWith u.clearShutdown.state w.address 0x08
      u.clearShutdown.result u.clearShutdown.data) :=
    congrArg Host.Outcome.next (hreq.receive (r := .clearShutdown) (by decide) (by decide))
  refine ⟨fun hin => ?_, fun hin hl => ?_, fun hin hl hh => ?_⟩
  · have hrefused : u.clearShutdown = u.refuse .state := if_pos hin
    rw [hexec, hrefused]
    rfl
  · have hgranted : u.clearShutdown = u.grant [] := by
      have hne : ¬u.supply.input = .asserted := by simp [u, afterReply, hin]
      rw [State.clearShutdown, if_neg hne, if_neg (by simp [u, afterReply, hl])]
    rw [hexec, hgranted]
    rfl
  · have hgranted : u.clearShutdown = u.clearLatch.grant [] := by
      have hne : ¬u.supply.input = .asserted := by simp [u, afterReply, hin]
      rw [State.clearShutdown, if_neg hne, if_pos (by simpa [u, afterReply] using hl)]
    have hu : HouseHolds u := hh.same rfl rfl rfl rfl
    obtain ⟨v, hv, hsupply, hnow, hhoming, htables, hqueue, hchannels⟩ := State.clearLatch_drives hu
    refine ⟨u.clearLatch, by rw [hexec, hgranted]; simp only [State.grant], State.clearLatch_rest hu, ?_⟩
    intro c hq r runs
    have hvq : c ∉ v.queue := hqueue ▸ hq
    have hvc : v.channel c = r := State.channel_congr hchannels c
    have hmay : v.MayHome c ↔ s.homingDue = none ∧ runs := by
      unfold State.MayHome
      rw [hsupply, hhoming, hnow, hvc]
      exact and_iff_right rfl
    refine ⟨fun hrest => ?_, fun hhome => ⟨fun hjoin hruns => ?_, fun hno => ?_⟩, fun x hidle _ htarget htaken => ?_⟩
    · rw [hv, State.resumeDrives_rests hvq (by rw [hvc, hnow]; exact hrest), hvc]
    · rw [hv]
      exact (State.resumeDrives_toHome hvq (by rw [hvc, hnow]; exact hhome)).1 (hmay.2 ⟨hjoin, hruns⟩)
    · rw [hv, ← hvc]
      refine (State.resumeDrives_toHome hvq (by rw [hvc, hnow]; exact hhome)).2 fun hm => ?_
      obtain ⟨hjoin, hruns⟩ := hmay.1 hm
      exact hno.elim (fun h => h hjoin) fun h => h hruns
    · have hadopts := State.resumeDrives_adopts (s := v) (c := c) (p := x) hvq (by rw [hvc]; exact hidle)
        (by rw [hvc]; exact htarget) (by rw [hvc]; exact htaken)
      rw [← hv, hsupply, hnow, hvc, State.damperCfg_congr htables] at hadopts
      exact hadopts

end Sys2Proof.Machine
end

section
/-! PROOF. The plant links as the house writes its record (R138, R143), and their loss (R33, R50, R51, R116, R141, R145, R146). -/

namespace Sys2Proof.Machine

/-! ### The link of a node after each operation -/

theorem State.link_setLink_other (s : State) {n m : Node} (l : Link) (h : m ≠ n) : (s.setLink n l).link m = s.link m :=
  PerNode.get_set_other _ _ _ _ h

theorem State.link_congr {s t : State} (h : t.links = s.links) (n : Node) : t.link n = s.link n := by
  simp only [State.link, h]

theorem State.setLinkState_link_same (s : State) (n : Node) (st : LinkState) :
    (s.setLinkState n st).link n = { s.link n with state := st } := by
  simp only [State.setLinkState]
  split
  · exact (State.link_congr rfl n).trans (State.link_setLink_same s n _)
  · exact State.link_setLink_same s n _

theorem State.setLinkState_link_other (s : State) {n m : Node} (st : LinkState) (h : m ≠ n) :
    (s.setLinkState n st).link m = s.link m := by
  simp only [State.setLinkState]
  split
  · exact (State.link_congr rfl m).trans (State.link_setLink_other s _ h)
  · exact State.link_setLink_other s _ h

/-- A link that is in no reachable state is set to another without a word to the relay (R157, R165). -/
theorem State.setLinkState_relay (s : State) (n : Node) (st : LinkState) (h : (s.link n).state.reachable = false ∨ st.reachable = true) :
    (s.setLinkState n st).relay = s.relay := by
  have hno : ¬((s.link n).state.reachable && !st.reachable) = true := by rcases h with h | h <;> simp [h]
  simp only [State.setLinkState, if_neg hno]
  rfl

theorem State.watchMode_link_other (s : State) {n m : Node} (was is : Bool) (h : m ≠ n) :
    (s.watchMode n was is).link m = s.link m := by
  have hopen : (s.openStop n).link m = s.link m := State.link_setLink_other s _ h
  have hclose : (s.closeStop n).link m = s.link m := State.link_setLink_other s _ h
  simp only [State.watchMode, State.modeTurnedOff, State.modeTurnedOn]
  split
  · split
    · rw [State.setLinkState_link_other _ _ h, hopen]
    · rw [State.setLinkState_link_other _ _ h, hopen]
    · rw [State.setLinkState_link_other _ _ h, hopen]
    · exact hopen
    · rfl
    · rfl
  · split
    · split
      · split
        · rw [State.setLinkState_link_other _ _ h, hclose]
        · exact hclose
      · rfl
    · rfl

/-- A link that is down hears nothing of the record (R138). -/
theorem State.watchMode_link_down (s : State) {n : Node} (m : Node) (was is : Bool) (hd : (s.link n).state = .down)
    (ho : (s.link n).stopOpen = false) : (s.watchMode m was is).link n = s.link n := by
  by_cases h : n = m
  · subst h
    cases was <;> cases is <;> simp [State.watchMode, State.modeTurnedOff, State.modeTurnedOn, hd, ho]
  · exact State.watchMode_link_other s was is h

/-- The state at which a write of the record is watched by the links. -/
def State.recorded (s : State) (c : Command) : State :=
  let t := ({ s with command := c }).setArbiter (s.arbiter.atOutMode s.now s.command.outMode c.outMode)
  if s.command.outMode ≠ c.outMode then t.raise .modeChange else t

theorem State.writeCommand_eq (s : State) (c : Command) :
    s.writeCommand c = ((s.recorded c).watchMode .airHandler s.command.airOn c.airOn).watchMode .outdoorUnit
      s.command.outOn c.outOn := rfl

theorem State.recorded_links (s : State) (c : Command) : (s.recorded c).links = s.links := by
  simp only [State.recorded]
  split <;> simp

theorem State.writeCommand_link_down (s : State) {n : Node} (c : Command) (hd : (s.link n).state = .down)
    (ho : (s.link n).stopOpen = false) : (s.writeCommand c).link n = s.link n := by
  have h0 : (s.recorded c).link n = s.link n := State.link_congr (s.recorded_links c) n
  rw [← h0] at hd ho
  have h1 := State.watchMode_link_down (s.recorded c) .airHandler s.command.airOn c.airOn hd ho
  rw [← h1] at hd ho
  rw [State.writeCommand_eq, State.watchMode_link_down _ _ _ _ hd ho, h1, h0]

/-! ### The loss of a link (R50, R51, R141, R145, R146) -/

section
variable {s : State} {n : Node} {lost : Bool}

theorem State.linkDown_link : (s.linkDown n lost).link n = { resetLink with lost := lost, breaks := (s.link n).breaks } := by
  have hd : ((s.setLink n { (s.link n).downed with lost := lost }).setLinkState n .down).link n =
      { { (s.link n).downed with lost := lost } with state := .down } := by
    rw [State.setLinkState_link_same, State.link_setLink_same]
  exact (State.link_congr rfl n).trans hd

/-- A node whose link is down is told nothing by the house that stops for it. -/
theorem State.nodeUnavailable_link_down (hd : (s.link n).state = .down) (ho : (s.link n).stopOpen = false) (m : Node) :
    (s.nodeUnavailable m).link n = s.link n := by
  have hw : (s.writeCommand commandOff).link n = s.link n := State.writeCommand_link_down s _ hd ho
  have hgo : s.goIdle.link n = s.link n := (State.link_congr (by simp [State.goIdle]) n).trans hw
  have hfall : ((s.writeCommand commandOff).enterHouse .idle).link n = s.link n := (State.link_congr (by simp) n).trans hw
  unfold State.nodeUnavailable
  split
  · exact hgo
  · cases m with
    | outdoorUnit => rfl
    | airHandler =>
      split_ifs
      · exact hfall
      · exact hw
      · rfl

theorem State.nodeGone_link : (s.nodeGone n lost).link n = { resetLink with lost := lost, breaks := (s.link n).breaks } := by
  have hl := State.linkDown_link (s := s) (n := n) (lost := lost)
  unfold State.nodeGone
  split
  · rw [State.nodeUnavailable_link_down (by rw [hl]; rfl) (by rw [hl]; rfl), hl]
  · exact hl

/-- Without an outdoor capability there is no shed condition (R33). -/
theorem State.reviewShed_unbound (hcap : (s.link .outdoorUnit).cap = none) :
    s.reviewShed = if s.house = .shed then (s.writeCommand commandOff).enterHouse .idle else s := by
  have hno : s.shedCondition = false := by simp [State.shedCondition, State.cmin, hcap]
  rw [State.reviewShed, hno]
  rfl

theorem State.enterDown_link : (s.enterDown n lost).link n = { resetLink with lost := lost, breaks := (s.link n).breaks } := by
  have hg := State.nodeGone_link (s := s) (n := n) (lost := lost)
  cases n with
  | airHandler => exact hg
  | outdoorUnit =>
    rw [State.enterDown_outdoorUnit, State.reviewShed_unbound (by rw [hg]; rfl)]
    split
    · have hw := State.writeCommand_link_down (s.nodeGone .outdoorUnit lost) commandOff (by rw [hg]; rfl) (by rw [hg]; rfl)
      exact ((State.link_congr (by simp) _).trans hw).trans hg
    · exact hg

theorem State.enterDown_plant : (s.enterDown n lost).plant = { s.plant with lastWake := s.plant.lastWake.set n none } := by
  have hl : (s.linkDown n lost).plant = { s.plant with lastWake := s.plant.lastWake.set n none } := by
    simp [State.linkDown, State.forgetWake]
  have hg : (s.nodeGone n lost).plant = { s.plant with lastWake := s.plant.lastWake.set n none } := by
    unfold State.nodeGone
    split
    · simpa using hl
    · exact hl
  cases n with
  | airHandler => exact hg
  | outdoorUnit => simpa [State.enterDown_outdoorUnit] using hg

/-- A node that was not available, in no reachable state, leaves the house as it was (R33, R51). -/
theorem State.enterDown_binding (hstate : (s.link n).state = .binding) (hshed : s.house ≠ .shed) :
    s.enterDown n lost = { s with links := (s.enterDown n lost).links, plant := (s.enterDown n lost).plant } := by
  have havail : s.available n = false := by simp [State.available, Link.available, hstate]
  have hgone : s.nodeGone n lost = s.linkDown n lost := if_neg (by simp [havail])
  have hdown : s.enterDown n lost = s.linkDown n lost := by
    cases n with
    | airHandler => exact hgone
    | outdoorUnit =>
      have hl := State.linkDown_link (s := s) (n := .outdoorUnit) (lost := lost)
      have hhouse : (s.linkDown .outdoorUnit lost).house = s.house := State.house_congr (by simp [State.linkDown])
      rw [State.enterDown_outdoorUnit, hgone, State.reviewShed_unbound (by rw [hl]; rfl), if_neg (by rwa [hhouse])]
  have hrelay : (s.linkDown n lost).relay = s.relay := by
    refine (State.setLinkState_relay _ n .down (.inl ?_)).trans rfl
    rw [State.link_setLink_same]
    simp [Link.downed, hstate, LinkState.reachable]
  rw [hdown]
  ext1
  case relay => exact hrelay
  all_goals simp [State.linkDown]

/-- A house in a compressor state stops when it loses a node that was available (R51). -/
theorem State.enterDown_stops (hc : s.house.compressor = true) (havail : s.available n = true) :
    (s.enterDown n lost).house = .idle ∧ (s.enterDown n lost).command = commandOff
      ∧ (s.enterDown n lost).arbiter.pendingTarget = none := by
  have hhouse : (s.linkDown n lost).house = s.house := State.house_congr (by simp [State.linkDown])
  have hgone : s.nodeGone n lost = (s.linkDown n lost).goIdle := by
    rw [State.nodeGone, if_pos havail]
    exact if_pos (by rw [hhouse, hc])
  have hidle : (s.nodeGone n lost).house = .idle ∧ (s.nodeGone n lost).command = commandOff
      ∧ (s.nodeGone n lost).arbiter.pendingTarget = none := by
    rw [hgone]
    simp [State.goIdle, State.house]
  cases n with
  | airHandler => exact hidle
  | outdoorUnit =>
    have hg := State.nodeGone_link (s := s) (n := .outdoorUnit) (lost := lost)
    rwa [State.enterDown_outdoorUnit, State.reviewShed_unbound (by rw [hg]; rfl), if_neg (by rw [hidle.1]; decide)]

end

theorem State.raise_link (s : State) (e : Event) (n : Node) : (s.raise e).link n = s.link n := State.link_congr (by simp) n

/-- Settles O42: either timer takes the link to DOWN; the house hears of a node that was available. -/
theorem linksGoDown : Obligations.LinksGoDown := by
  intro s dt n d hrun hle
  have hguard : ∀ x : Option Time, x = some d → ((s.elapse dt).isRunning && due x (s.elapse dt).now) = true :=
    fun x hx => running_and_elapse dt hrun (due_of_le hx hle)
  refine ⟨fun hstate hdue => ?_, fun hstate hdue => ?_⟩
  · refine ⟨((s.elapse dt).enterDown n (s.link n).lost).raise .bindFail,
      congrArg Host.Outcome.next (if_pos (hguard _ hdue)), ?_, ?_, State.marked_raise _ _, fun hshed => ?_, ?_⟩
    · rw [State.raise_link, State.enterDown_link]
      rfl
    · simp only [State.raise_frame]
      rw [State.enterDown_plant]
      rfl
    · have hdown := State.enterDown_binding (s := s.elapse dt) (n := n) (lost := (s.link n).lost) hstate hshed
      rw [hdown]
      ext1 <;> simp [State.raise_events]
    · ext1 <;> simp
  · refine ⟨((s.elapse dt).enterDown n true).raise .plantLost,
      congrArg Host.Outcome.next (if_pos (hguard _ hdue)), ?_, ?_, State.marked_raise _ _, fun hc hcap hlock => ?_, ?_⟩
    · rw [State.raise_link, State.enterDown_link]
      rfl
    · simp only [State.raise_frame]
      rw [State.enterDown_plant]
      rfl
    · have havail : (s.elapse dt).available n = true := by
        have hl : (s.link n).available = true := by simp [Link.available, Link.isLocked, hstate, hcap, hlock]
        exact hl
      obtain ⟨hhouse, hcommand, htarget⟩ := State.enterDown_stops (s := s.elapse dt) (lost := true) hc havail
      exact ⟨(State.house_congr (by simp)).trans hhouse, by simpa using hcommand, by simpa using htarget⟩
    · ext1 <;> simp

end Sys2Proof.Machine
end

section
/-! PROOF. The entry to SHED as a whole (R36, R46, R53), and the curtailment level and hold (R46, R47, R169 to R173). -/

namespace Sys2Proof.Machine

/-! ### The entry to SHED (R36, R46, R53) -/

theorem State.keepsFan_iff (s : State) : s.keepsFan = true ↔ FanKept s := by
  simp only [State.keepsFan, Bool.and_eq_true, State.anyFan, anyIx_iff, State.fanCounts, Command.airOn, decide_eq_true_eq, FanKept,
    and_assoc]

/-- What the entry to SHED reads of a state is the same in another one. -/
structure ShedsAlike (s u : State) : Prop where
  lastRun : u.arbiter.lastRun = s.arbiter.lastRun
  run : u.arbiter.runStart = s.arbiter.runStart
  rest : u.arbiter.restStart = s.arbiter.restStart
  command : u.command = s.command
  links : u.links = s.links
  fan : (∃ z : ZoneId, (u.zone z).fan = true ∧ u.inPlay z = true) ↔ ∃ z : ZoneId, (s.zone z).fan = true ∧ s.inPlay z = true

theorem State.inPlay_congr {s u : State} (tables : u.tables = s.tables) (zones : u.zones = s.zones) (z : ZoneId) :
    u.inPlay z = s.inPlay z := by
  simp only [State.inPlay, State.zoneCfg_congr tables, State.hasSource_congr tables, State.zone_congr zones]

theorem ShedsAlike.of {s u : State} (arbiter : u.arbiter = s.arbiter) (command : u.command = s.command) (links : u.links = s.links)
    (tables : u.tables = s.tables) (zones : u.zones = s.zones) : ShedsAlike s u :=
  ⟨by rw [arbiter], by rw [arbiter], by rw [arbiter], command, links, exists_congr fun z => by rw [State.zone_congr zones, State.inPlay_congr tables zones]⟩

theorem FanKept.congr {s u : State} (h : ShedsAlike s u) : FanKept u ↔ FanKept s := by
  unfold FanKept
  rw [State.available, State.available, State.link_congr h.links, h.command, h.fan]

theorem EntersShed.congr {s u t : State} {now : Time} (h : EntersShed u t now) (k : ShedsAlike s u) : EntersShed s t now where
  house := h.house
  cleared := h.cleared
  lastRun := h.lastRun.trans k.lastRun
  stopped := fun hr => h.stopped (by rwa [k.command])
  rested := fun hr => by rw [← k.run, ← k.rest]; exact h.rested (by rwa [k.command])
  fan := fun hf => by
    have hlimits : u.airLimits = s.airLimits := by simp only [State.airLimits, State.link_congr k.links]
    rw [← k.command, ← hlimits]
    exact h.fan ((FanKept.congr k).2 hf)
  off := fun hf => h.off (mt (FanKept.congr k).1 hf)

/-- What follows the entry at the same moment leaves the house and its record, but for the cycle timer (R31). -/
theorem EntersShed.after {s t u : State} {now : Time} (h : EntersShed s t now) (d : Option Time)
    (arbiter : u.arbiter = { t.arbiter with cycleDue := d }) (command : u.command = t.command) (marks : MarksKept t u) :
    EntersShed s u now where
  house := (congrArg Arbiter.house arbiter).trans h.house
  cleared := by rw [arbiter]; exact h.cleared
  lastRun := by rw [arbiter]; exact h.lastRun
  stopped := fun hr => by
    obtain ⟨hrun, hrest, hmark⟩ := h.stopped hr
    rw [arbiter]
    exact ⟨hrun, hrest, marks _ hmark⟩
  rested := fun hr => by rw [arbiter]; exact h.rested hr
  fan := fun hf => by rw [command]; exact h.fan hf
  off := fun hf => by rw [command]; exact h.off hf

theorem State.shedCommand_fan {s : State} (h : FanKept s) :
    s.shedCommand = { commandOff with airMode := .fan, airflow := s.clampAirflow s.command.airflow } :=
  if_pos (s.keepsFan_iff.2 h)

theorem State.shedCommand_off {s : State} (h : ¬FanKept s) : s.shedCommand = commandOff :=
  if_neg (mt s.keepsFan_iff.1 h)

theorem State.shedCommand_outMode (s : State) : s.shedCommand.outMode = .off := by
  unfold State.shedCommand
  split <;> rfl

/-- The arbiter at the entry to SHED (R36, R46). -/
theorem State.enterShed_arbiter {s : State} (hs : s.house ≠ .shed) :
    s.enterShed.arbiter = { s.arbiter with
      house := .shed, pendingTarget := none, hold := false, remembered := none, dwellStart := none, defrostDue := none
      runStart := if s.command.outMode = .off then s.arbiter.runStart else none
      restStart := if s.command.outMode = .off then s.arbiter.restStart else some s.now } := by
  have hne : ¬s.arbiter.house = .shed := hs
  by_cases hr : s.command.outMode = .off
  · simp [State.enterShed_eq, State.shedCommand_outMode, hr, hne]
  · simp [State.enterShed_eq, State.shedCommand_outMode, hr, hne, Arbiter.atOutMode_stop]

theorem State.enterShed_command (s : State) : s.enterShed.command = s.shedCommand := by simp [State.enterShed_eq]

theorem State.enterShed_modeChange {s : State} (hr : s.command.outMode ≠ .off) :
    marked s.enterShed.events.raised .modeChange = true := by
  have hevents : s.enterShed.events = (s.writeCommand s.shedCommand).events := by simp [State.enterShed_eq]
  rw [hevents]
  exact State.writeCommand_marked (by rw [State.shedCommand_outMode]; exact hr)

theorem State.enterShed_enters {s : State} (hs : s.house ≠ .shed) : EntersShed s s.enterShed s.now where
  house := congrArg Arbiter.house (State.enterShed_arbiter hs)
  cleared := by rw [State.enterShed_arbiter hs]; exact ⟨rfl, rfl, rfl, rfl, rfl⟩
  lastRun := by rw [State.enterShed_arbiter hs]
  stopped := fun hr => by
    rw [State.enterShed_arbiter hs, if_neg hr, if_neg hr]
    exact ⟨rfl, rfl, State.enterShed_modeChange hr⟩
  rested := fun hr => by
    rw [State.enterShed_arbiter hs, if_pos hr, if_pos hr]
    exact ⟨rfl, rfl⟩
  fan := fun hf => by
    rw [State.enterShed_command, State.shedCommand_fan hf]
    exact ⟨rfl, fun lo hi hl => by simp only [State.clampAirflow, hl, clampNat]⟩
  off := fun hf => by rw [State.enterShed_command, State.shedCommand_off hf]

/-! ### The level and its cap (R46, R47, R172) -/

/-- A change of the cap with the house as it must be: in SHED when the cap is below Cmin, and no capacity above it. -/
theorem State.capChanged_cap (s : State) (hc : s.capChanged.house.compressor = true) : s.capChanged.command.capacity ≤ s.cap := by
  have hcap : s.reviewShed.cap = s.cap := by simp [State.cap]
  by_cases h : (s.reviewShed.house.compressor && decide (s.reviewShed.cap < s.reviewShed.command.capacity)) = true
  · have heq : s.capChanged = s.reviewShed.writeCommand { s.reviewShed.command with capacity := s.reviewShed.cap } := if_pos h
    rw [heq, State.writeCommand_command, hcap]
  · have heq : s.capChanged = s.reviewShed := if_neg h
    rw [heq] at hc ⊢
    rw [hc, Bool.true_and, decide_eq_true_eq, hcap] at h
    exact Nat.not_lt.1 h

/-- A house that does not run a compressor after the review keeps its record at a change of the cap. -/
theorem State.capChanged_of_stopped {s : State} (h : s.reviewShed.house.compressor = false) : s.capChanged = s.reviewShed := by
  simp [State.capChanged, h]

theorem State.reviewShed_enters {s : State} (hcond : s.shedCondition = true) (hs : s.house.sheds = true) :
    s.reviewShed = s.enterShed := by simp [State.reviewShed, hcond, hs]

theorem State.reviewShed_leaves {s : State} (hcond : s.shedCondition = false) (hs : s.house = .shed) :
    s.reviewShed = (s.writeCommand commandOff).enterHouse .idle := by simp [State.reviewShed, hcond, hs]

theorem State.reviewShed_stays {s : State} (hcond : s.shedCondition = false) (hs : s.house ≠ .shed) : s.reviewShed = s := by
  simp [State.reviewShed, hcond, hs]

theorem State.shedCondition_iff {s : State} : s.shedCondition = true ↔ ∃ c, s.cmin = some c ∧ s.cap < c := by
  simp only [State.shedCondition]
  cases s.cmin <;> simp

/-- The part with another level, before the house is told (R172). -/
def State.levelled (s : State) (l : CurtailLevel) : State := (s.setDecoder { s.decoder with level := l }).raise .curtailChange

theorem State.setLevel_same {s : State} {l : CurtailLevel} (h : s.decoder.level = l) : s.setLevel l = s := if_pos h

theorem State.setLevel_other {s : State} {l : CurtailLevel} (h : s.decoder.level ≠ l) :
    s.setLevel l = (s.levelled l).capChanged := if_neg h

section
variable {s : State} {l : CurtailLevel}

theorem State.setLevel_decoder : (s.setLevel l).decoder = { s.decoder with level := l } := by
  by_cases h : s.decoder.level = l
  · rw [State.setLevel_same h, ← h]
  · rw [State.setLevel_other h]
    simp [State.levelled]

theorem State.levelled_cap : (s.levelled l).cap = l.cap := by simp [State.levelled, State.cap]

theorem State.levelled_cmin : (s.levelled l).cmin = s.cmin := by
  simp only [State.cmin, State.link_congr (s := s) (t := s.levelled l) (by simp [State.levelled])]

theorem State.levelled_house : (s.levelled l).house = s.house := State.house_congr (by simp [State.levelled])

theorem State.setLevel_marks (h : s.decoder.level ≠ l) : marked (s.setLevel l).events.raised .curtailChange = true := by
  rw [State.setLevel_other h]
  exact (HouseKept.capChanged _).marks _ (State.marked_raise _ _)

theorem State.setLevel_capacity (h : s.decoder.level ≠ l) (hc : (s.setLevel l).house.compressor = true) :
    (s.setLevel l).command.capacity ≤ l.cap := by
  rw [State.setLevel_other h] at hc ⊢
  exact (State.capChanged_cap _ hc).trans_eq State.levelled_cap

/-- A cap below Cmin brings SHED (R46). -/
theorem State.setLevel_enters (h : s.decoder.level ≠ l) {c : Nat} (hcmin : s.cmin = some c) (hcap : l.cap < c)
    (hs : s.house.sheds = true) : EntersShed s (s.setLevel l) s.now := by
  have hcond : (s.levelled l).shedCondition = true :=
    State.shedCondition_iff.2 ⟨c, State.levelled_cmin.trans hcmin, State.levelled_cap.trans_lt hcap⟩
  obtain ⟨-, -, hne⟩ := (HouseState.sheds_iff _).1 hs
  have hreview := State.reviewShed_enters hcond (by rw [State.levelled_house, hs])
  have hnow : (s.levelled l).now = s.now := by simp [State.levelled]
  have henter := State.enterShed_enters (s := s.levelled l) (by rwa [State.levelled_house])
  rw [hnow] at henter
  rw [State.setLevel_other h, State.capChanged_of_stopped (by rw [hreview, henter.house]; rfl), hreview]
  exact henter.congr (.of (by simp [State.levelled]) (by simp [State.levelled]) (by simp [State.levelled])
    (by simp [State.levelled]) (by simp [State.levelled]))

theorem State.levelled_noShed (hcap : ∀ c, s.cmin = some c → c ≤ l.cap) : (s.levelled l).shedCondition = false := by
  rw [← Bool.not_eq_true, State.shedCondition_iff, State.levelled_cmin, State.levelled_cap]
  rintro ⟨c, hc, hlt⟩
  exact absurd (hcap c hc) (Nat.not_le.2 hlt)

/-- A cap at Cmin or above ends SHED (R47). -/
theorem State.setLevel_leaves (h : s.decoder.level ≠ l) (hcap : ∀ c, s.cmin = some c → c ≤ l.cap) (hs : s.house = .shed) :
    (s.setLevel l).house = .idle ∧ (s.setLevel l).command = commandOff := by
  have hreview := State.reviewShed_leaves (State.levelled_noShed hcap) (State.levelled_house.trans hs)
  rw [State.setLevel_other h, State.capChanged_of_stopped (by rw [hreview]; rfl), hreview]
  simp [State.house]

/-- Elsewhere a capacity that the cap allows stays, and everything else with it. -/
theorem State.setLevel_stays (h : s.decoder.level ≠ l) (hcap : ∀ c, s.cmin = some c → c ≤ l.cap) (hs : s.house ≠ .shed)
    (hcapacity : s.command.capacity ≤ l.cap) : s.setLevel l = s.levelled l := by
  have hreview := State.reviewShed_stays (State.levelled_noShed hcap) (by rwa [State.levelled_house])
  have hcommand : (s.levelled l).command = s.command := by simp [State.levelled]
  rw [State.setLevel_other h, State.capChanged, hreview]
  refine if_neg ?_
  simp only [hcommand, State.levelled_cap, Bool.and_eq_true, decide_eq_true_eq]
  omega

end

/-! ### The retained level and time left (R171, R173) -/

/-- The time left of a hold that starts now. -/
theorem Decoder.holdLeft_started {d : Decoder} {now : Time} {n : Nat} (h : d.holdDue = some (now + sec n)) :
    d.holdLeft now = max 1 n := by
  rw [Decoder.holdLeft, h]
  simp only [sec]
  omega

theorem outcomeOf_valid {pulses : Nat} {l : CurtailLevel}
    (h : (pulses, l) ∈ [(3, CurtailLevel.level1), (5, .level2), (7, .level3), (9, .release)]) :
    outcomeOf false pulses = .valid l := by
  simp only [List.mem_cons, Prod.mk.injEq, List.not_mem_nil, or_false] at h
  rcases h with ⟨rfl, rfl⟩ | ⟨rfl, rfl⟩ | ⟨rfl, rfl⟩ | ⟨rfl, rfl⟩ <;> rfl

theorem outcomeOf_invalid {spoiled : Bool} {pulses : Nat} (h : spoiled = true ∨ pulses ∉ [3, 5, 7, 9]) :
    outcomeOf spoiled pulses = .invalid := by
  rcases h with rfl | h
  · rfl
  · simp only [List.mem_cons, List.not_mem_nil, or_false, not_or] at h
    obtain ⟨h3, h5, h7, h9⟩ := h
    cases spoiled <;> simp [outcomeOf, h3, h5, h7, h9]

/-- A level takes force with a hold timer, and the retained area follows (R171 to R173). -/
def State.heldAt (s : State) (hold : Option Time) (l : CurtailLevel) : State :=
  ((s.setDecoder { s.decoder with holdDue := hold }).setLevel l).retain

theorem State.orderLevel_eq (s : State) (l : CurtailLevel) : s.orderLevel l = s.heldAt (s.holdAfter l) l := rfl

section
variable {s : State} {hold : Option Time} {l : CurtailLevel}

theorem State.heldAt_rest :
    s.heldAt hold l = { s with
      decoder := (s.heldAt hold l).decoder, retained := (s.heldAt hold l).retained, arbiter := (s.heldAt hold l).arbiter
      command := (s.heldAt hold l).command, links := (s.heldAt hold l).links, relay := (s.heldAt hold l).relay
      events := (s.heldAt hold l).events } := by
  ext1 <;> simp [State.heldAt]

theorem State.heldAt_decoder : (s.heldAt hold l).decoder = { s.decoder with level := l, holdDue := hold } := by
  simp [State.heldAt, State.setLevel_decoder]

theorem State.heldAt_retained :
    (s.heldAt hold l).retained =
      { s.retained with level := l, holdLeft := { s.decoder with level := l, holdDue := hold }.holdLeft s.now } := by
  simp [State.heldAt, State.retain, State.keptArea, State.setLevel_decoder]

/-- The level that stands already changes the decoder and the retained area alone (R172). -/
theorem State.heldAt_same (h : s.decoder.level = l) :
    s.heldAt hold l = { s with decoder := (s.heldAt hold l).decoder, retained := (s.heldAt hold l).retained } := by
  have hsame : (s.setDecoder { s.decoder with holdDue := hold }).setLevel l = s.setDecoder { s.decoder with holdDue := hold } :=
    State.setLevel_same h
  simp only [State.heldAt, hsame]
  ext1 <;> simp

theorem State.heldAt_marks (h : s.decoder.level ≠ l) : marked (s.heldAt hold l).events.raised .curtailChange = true :=
  State.setLevel_marks (s := s.setDecoder { s.decoder with holdDue := hold }) h

theorem State.heldAt_capacity (h : s.decoder.level ≠ l) (hc : (s.heldAt hold l).house.compressor = true) :
    (s.heldAt hold l).command.capacity ≤ l.cap :=
  State.setLevel_capacity (s := s.setDecoder { s.decoder with holdDue := hold }) h hc

theorem State.heldAt_enters (h : s.decoder.level ≠ l) {c : Nat} (hcmin : s.cmin = some c) (hcap : l.cap < c)
    (hs : s.house.sheds = true) : EntersShed s (s.heldAt hold l) s.now := by
  have henter := State.setLevel_enters (s := s.setDecoder { s.decoder with holdDue := hold }) h hcmin hcap hs
  have hours : EntersShed s ((s.setDecoder { s.decoder with holdDue := hold }).setLevel l) s.now :=
    henter.congr (.of rfl rfl rfl rfl rfl)
  exact hours.after _ rfl rfl (.of_events rfl)

theorem State.heldAt_leaves (h : s.decoder.level ≠ l) (hcap : ∀ c, s.cmin = some c → c ≤ l.cap) (hs : s.house = .shed) :
    (s.heldAt hold l).house = .idle ∧ (s.heldAt hold l).command = commandOff :=
  State.setLevel_leaves (s := s.setDecoder { s.decoder with holdDue := hold }) h hcap hs

theorem State.heldAt_stays (h : s.decoder.level ≠ l) (hcap : ∀ c, s.cmin = some c → c ≤ l.cap) (hs : s.house ≠ .shed)
    (hcapacity : s.command.capacity ≤ l.cap) :
    s.heldAt hold l = { s with
      decoder := (s.heldAt hold l).decoder, retained := (s.heldAt hold l).retained
      events := afterRaise s.events .curtailChange } := by
  have hstays := State.setLevel_stays (s := s.setDecoder { s.decoder with holdDue := hold }) h hcap hs hcapacity
  simp only [State.heldAt, hstays]
  ext1 <;> simp [State.levelled, State.raise_events]

end

theorem State.elapse_retained_running {s : State} (dt : Nat) (hrun : s.phase = .running) :
    (s.elapse dt).retained = { s.retained with holdLeft := s.decoder.holdLeft (s.now + dt) } :=
  if_pos ((State.isRunning_iff s).2 hrun)

/-! ### The obligation -/

/-- A train ends when its gap has lasted 2 s (R169). -/
theorem exec_trainEnd {s : State} {dt : Nat} {g : Time} (hrun : s.phase = .running) (htrain : s.decoder.train = .gap)
    (hgap : s.decoder.gapStart = some g) (hle : g + sec 2 ≤ s.now + dt) :
    exec (.trainEnd dt) s = .next (s.elapse dt).endTrain := by
  refine congrArg Host.Outcome.next (if_pos ?_)
  simp [hrun, htrain, Decoder.quietOver, hgap, hasRun, hle]

theorem State.endTrain_valid {s : State} {l : CurtailLevel} (h : outcomeOf s.decoder.spoiled s.decoder.pulses = .valid l) :
    s.endTrain = (s.setDecoder s.decoder.trainEnded).orderLevel l := by
  simp only [State.endTrain, h]

theorem State.endTrain_invalid {s : State} (h : outcomeOf s.decoder.spoiled s.decoder.pulses = .invalid) :
    s.endTrain = s.setDecoder { s.decoder.trainEnded with invalidTrains := satInc 65535 s.decoder.invalidTrains } := by
  simp only [State.endTrain, h]
  rfl

/-- Settles O56: a train is decoded by its pulse count, and a new level, of a train or of the hold's end, goes to the house. -/
theorem trainsAndHoldSetTheLevel : Obligations.TrainsAndHoldSetTheLevel := by
  refine ⟨?_, ?_⟩
  · intro s dt g hrun htrain hgap hle d ended
    have hexec := exec_trainEnd hrun htrain hgap hle
    refine ⟨fun l hspoiled hpulses => ?_, fun hbad => ?_⟩
    · have hout : outcomeOf d.spoiled d.pulses = .valid l := by rw [hspoiled]; exact outcomeOf_valid hpulses
      have hdec : d.trainEnded = ended (.valid l) := by simp only [Decoder.trainEnded, hout, ended]
      obtain ⟨v, hv⟩ : ∃ v, v = (s.elapse dt).setDecoder (ended (.valid l)) := ⟨_, rfl⟩
      have hend : (s.elapse dt).endTrain = v.heldAt (v.holdAfter l) l := by
        rw [State.endTrain_valid (s := s.elapse dt) hout, hv, ← hdec, State.orderLevel_eq]
        rfl
      have hhold : v.holdAfter l = if l = .release then none else some (s.now + dt + sec (60 * s.profile.holdMin)) := by
        rw [hv]
        rfl
      have hvd : v.decoder = ended (.valid l) := by rw [hv]; rfl
      have hvl : v.decoder.level = d.level := by rw [hvd]
      refine ⟨v.heldAt (v.holdAfter l) l, hexec.trans (congrArg _ hend), ?_, ?_, fun hsame => ?_, fun hne => ?_, ?_⟩
      · rw [State.heldAt_decoder, hvd, hhold]
      · have hleft : { v.decoder with level := l, holdDue := v.holdAfter l }.holdLeft (s.now + dt) =
            if l = .release then 0 else max 1 (60 * s.profile.holdMin) := by
          split_ifs with hl
          · rw [hhold, if_pos hl]
            rfl
          · exact Decoder.holdLeft_started (hhold.trans (if_neg hl))
        have hvr : v.retained = { s.retained with holdLeft := s.decoder.holdLeft (s.now + dt) } := by
          rw [hv, ← State.elapse_retained_running dt hrun]
          rfl
        have hvn : v.now = s.now + dt := by rw [hv]; rfl
        rw [State.heldAt_retained, hvn, hleft, hvr]
      · rw [State.heldAt_same (hvl.trans hsame.symm), hv]
        rfl
      · have hother : v.decoder.level ≠ l := fun h => hne (h.symm.trans hvl)
        refine ⟨State.heldAt_marks hother, State.heldAt_capacity hother, fun c hc hcap hu hh hs => ?_, fun hcap hs => ?_⟩
        · have henter := State.heldAt_enters (s := v) (hold := v.holdAfter l) hother (by rw [hv]; exact hc) hcap
            (by rw [hv]; exact (HouseState.sheds_iff _).2 ⟨hu, hh, hs⟩)
          rw [hv] at henter ⊢
          exact henter.congr (.of rfl rfl rfl rfl rfl)
        · exact State.heldAt_leaves hother (by rw [hv]; exact hcap) (by rw [hv]; exact hs)
      · rw [State.heldAt_rest, hv]
        rfl
    · rw [hexec, State.endTrain_invalid (s := s.elapse dt) (outcomeOf_invalid hbad)]
      have hdec : d.trainEnded = ended .invalid := by simp only [Decoder.trainEnded, outcomeOf_invalid hbad, ended]
      exact congrArg (fun x : Decoder => Host.Outcome.next ((s.elapse dt).setDecoder
        { x with invalidTrains := satInc 65535 d.invalidTrains })) hdec
  · intro s dt h hrun hhold hle hlevel hcmin
    have hexec : exec (.holdTimerExpiry dt) s = .next ((s.elapse dt).heldAt none .release) :=
      congrArg Host.Outcome.next (if_pos (running_and_elapse dt hrun (due_of_le hhold hle)))
    have hcap : ∀ c, (s.elapse dt).cmin = some c → c ≤ CurtailLevel.release.cap := hcmin
    refine ⟨(s.elapse dt).heldAt none .release, hexec, State.heldAt_decoder, ?_, State.heldAt_marks hlevel,
      State.heldAt_leaves (s := s.elapse dt) hlevel hcap, State.heldAt_stays (s := s.elapse dt) hlevel hcap, State.heldAt_rest⟩
    rw [State.heldAt_retained, State.elapse_retained_running dt hrun]
    rfl

end Sys2Proof.Machine
end

section
/-! PROOF. The cycle expiry (R31 to R43, R46 to R49, R53, R56, R58, R59): what a decision without a computation, with one, and with one
that ends in SHED leaves of the house. -/

namespace Sys2Proof.Machine

/-! ### What the decisions ask (R32, R35, R40, R41) -/

theorem hasRun_iff {start : Option Time} {len now : Time} : hasRun start len now = true ↔ ∃ r, start = some r ∧ r + len ≤ now := by
  cases start <;> simp [hasRun]

section
variable {s : State}

theorem State.restMet_iff {m : RunMode} : s.restMet m = true ↔ Rested s s.now m := hasRun_iff

theorem State.ranMinimum_iff : s.ranMinimum = true ↔ ∃ r, s.arbiter.runStart = some r ∧ r + sec s.profile.minRun ≤ s.now := hasRun_iff

theorem State.dwellOver_iff : s.dwellOver = true ↔ ∃ x, s.arbiter.dwellStart = some x ∧ x + sec s.profile.dwell ≤ s.now := hasRun_iff

theorem State.starving_iff {calls : Call → Bool} :
    s.starving calls = true ↔ ∃ z : ZoneId, s.profile.starvation ≤ (s.zone z).unmet ∧ calls (s.zone z).call = true := by
  simp only [State.starving, anyIx_iff, Bool.and_eq_true, decide_eq_true_eq, and_comm]

theorem State.anySum_iff : s.anySum = true ↔ 0 < s.sumCool + s.sumDry + s.sumHeat := decide_eq_true_iff

/-- The evaluation of the zones leaves their fan requests and their part in play (R17). -/
theorem State.evaluateZones_fanCounts (z : ZoneId) :
    (s.evaluateZones.zone z).fan = (s.zone z).fan ∧ s.evaluateZones.inPlay z = s.inPlay z := by
  have hrun : (s.evaluateZones.zone z).fan = (s.zone z).fan ∧ (s.evaluateZones.zone z).loss = (s.zone z).loss
      ∧ (s.evaluateZones.zone z).switchOn = (s.zone z).switchOn := by
    rw [State.evaluateZones_zone]
    unfold ZoneRun.evaluate
    split <;> exact ⟨rfl, rfl, rfl⟩
  obtain ⟨hfan, hloss, hswitch⟩ := hrun
  refine ⟨hfan, ?_⟩
  simp only [State.inPlay, State.zoneCfg_congr (s := s) (t := s.evaluateZones) rfl,
    State.hasSource_congr (s := s) (t := s.evaluateZones) rfl, ZoneRun.expired, hloss, hswitch]

end

/-! ### What the cycle leaves of a decision (R34) -/

/-- What the end of an expiry leaves of the house that it has decided on: all but the cycle timer, which runs again (R31). -/
structure CycleLeaves (now : Time) (d t : State) : Prop where
  command : t.command = d.command
  arbiter : t.arbiter = { d.arbiter with cycleDue := some (now + sec d.profile.cycle) }
  channels : t.channels = d.channels
  queue : t.queue = d.queue
  computation : t.computation = d.computation
  marks : MarksKept d t

theorem State.cycle_leaves (s : State) : CycleLeaves s.now s.decided s.cycle := by
  have hnow : s.decided.now = s.now := by simp [State.decided]
  rw [State.cycle_eq]
  unfold State.updated
  generalize s.decided = d at *
  have hprofile : d.updateZones.profile = d.profile := congrArg Tables.profile (by simp)
  refine ⟨by simp, ?_, by simp, by simp, by simp, (MarksKept.updateZones d).trans (.of_events (by simp))⟩
  rw [hprofile]
  simp [State.after, hnow]

section
variable {s x : State}

theorem State.decided_rests (h : s.evaluateZones.decision = (x, false)) : s.decided = x.noComputation := by
  simp only [State.decided, h]
  rfl

theorem State.decided_computes (h : s.evaluateZones.decision = (x, true)) : s.decided = x.computeAndPublish := by
  simp only [State.decided, h]
  rfl

end

/-! ### A computation, and one that ends in SHED (R58, R59, R69) -/

section
variable {s : State} {h : HouseState} {a : Arbiter}

theorem State.spillWalk_setArbiter (qmin : Nat) (zs : List ZoneId) (w : Walk) :
    (s.setArbiter a).spillWalk qmin zs w = s.spillWalk qmin zs w := by
  induction zs generalizing w with
  | nil => rfl
  | cons z zs ih => simp only [State.spillWalk, ih]; rfl

/-- The computation does not read the arbiter (R54). -/
theorem State.compute_setArbiter : (s.setArbiter a).compute h = s.compute h := by
  have hfigures : ∀ raw c, (s.setArbiter a).figures h raw c = s.figures h raw c := fun raw c => by
    simp only [State.figures, State.spillWalk_setArbiter]
    rfl
  simp only [State.compute, hfigures]
  rfl

/-- With Cmin not above the cap a computation is made, and its capacity lies between them (R58). -/
theorem State.compute_some (hcap : ∀ c, s.cmin = some c → c ≤ s.cap) (hc : h.conditions = true) :
    ∃ f, s.compute h = some f ∧ (∀ c, s.cmin = some c → c ≤ f.capacity) ∧ f.capacity ≤ s.cap := by
  have hmin : s.cmin.getD 0 ≤ s.cap := by
    cases hcm : s.cmin with
    | none => exact Nat.zero_le _
    | some c => exact hcap c hcm
  have hfit : ¬fitCapacity (s.rawCapacity (s.servedSet h)) (s.cmin.getD 0) s.cap < s.cmin.getD 0 := by
    unfold fitCapacity
    omega
  refine ⟨s.figures h (some (s.rawCapacity (s.servedSet h))) (fitCapacity (s.rawCapacity (s.servedSet h)) (s.cmin.getD 0) s.cap),
    by simp only [State.compute, if_pos hc, if_neg hfit], fun c hcm => ?_, ?_⟩
  · rw [hcm] at hfit ⊢
    exact Nat.not_lt.1 hfit
  · exact Nat.min_le_right _ _

/-- With Cmin above the cap there is none (R59). -/
theorem State.compute_none {c : Nat} (hc : h.conditions = true) (hcm : s.cmin = some c) (hcap : s.cap < c) : s.compute h = none := by
  have hfit : fitCapacity (s.rawCapacity (s.servedSet h)) (s.cmin.getD 0) s.cap < s.cmin.getD 0 := by
    rw [hcm]
    unfold fitCapacity
    simp only [Option.getD_some]
    omega
  simp only [State.compute, if_pos hc, if_pos hfit]

end

/-! ### The three outcomes of an expiry -/

section
variable {s : State} {dt : Nat}

theorem exec_cycleExpiry {d : Time} (hrun : s.phase = .running) (hdue : s.arbiter.cycleDue = some d) (hle : d ≤ s.now + dt) :
    exec (.cycleExpiry dt) s = .next (s.elapse dt).cycle :=
  congrArg Host.Outcome.next (if_pos (running_and_elapse dt hrun (due_of_le hdue hle)))

variable {x : State} {a : Arbiter}

/-- Without a computation the house is as decided. -/
theorem State.cycle_rests (h : (s.elapse dt).evaluateZones.decision = (x, false)) (hp : x.profile = s.profile) :
    let t := (s.elapse dt).cycle
    t.command = x.command ∧ t.channels = x.channels
      ∧ t.arbiter = { x.arbiter with cycleDue := some (s.now + dt + sec s.profile.cycle) } := by
  obtain ⟨hcommand, harbiter, hchannels, -⟩ := (s.elapse dt).cycle_leaves
  rw [State.decided_rests h] at hcommand harbiter hchannels
  refine ⟨hcommand, hchannels, harbiter.trans ?_⟩
  rw [← hp]
  rfl

/-- With a computation the record is written from its figures, in the house state that the arbiter has been turned to (R69). -/
theorem State.cycle_computes {f : Figures}
    (h : (s.elapse dt).evaluateZones.decision = ((s.elapse dt).evaluateZones.setArbiter a, true))
    (hf : (s.elapse dt).evaluateZones.compute a.house = some f) :
    let t := (s.elapse dt).cycle
    t.command = f.command a.house
      ∧ t.arbiter = { a.atOutMode (s.now + dt) s.command.outMode (f.command a.house).outMode with
          cycleDue := some (s.now + dt + sec s.profile.cycle) }
      ∧ (s.command.outMode ≠ a.house.outMode → marked t.events.raised .modeChange = true) := by
  obtain ⟨hcommand, harbiter, -, -, -, hmarks⟩ := (s.elapse dt).cycle_leaves
  obtain ⟨u, hu⟩ : ∃ u, u = (s.elapse dt).evaluateZones.setArbiter a := ⟨_, rfl⟩
  have hhouse : u.house = a.house := by rw [hu]; rfl
  have harb : u.arbiter = a := by rw [hu]; rfl
  have hcom : u.command = s.command := by rw [hu]; rfl
  have hnow : u.now = s.now + dt := by rw [hu]; rfl
  have hdecided : (s.elapse dt).decided = u.publishFigures f := by
    have hcompute : u.compute u.house = some f := by rw [hhouse, hu, State.compute_setArbiter, hf]
    rw [State.decided_computes h, ← hu, State.computeAndPublish, hcompute]
  have hprofile : (u.publishFigures f).profile = s.profile := congrArg Tables.profile (by simp [hu])
  rw [hdecided] at hcommand harbiter hmarks
  refine ⟨?_, ?_, fun hne => hmarks _ ?_⟩
  · rw [hcommand, State.publishFigures_command, hhouse]
  · rw [harbiter, hprofile, State.publishFigures_arbiter, State.writeCommand_arbiter, harb, hcom, hnow, hhouse]
    rfl
  · refine (HouseKept.publishFigures_rest u f).marks _ (State.writeCommand_marked ?_)
    rw [hcom, hhouse]
    exact hne

/-- What the entry to SHED reads is the same before the evaluation and the turn of the arbiter. -/
theorem ShedsAlike.evaluated (lastRun : a.lastRun = s.arbiter.lastRun) (run : a.runStart = s.arbiter.runStart)
    (rest : a.restStart = s.arbiter.restStart) :
    ShedsAlike s ((s.elapse dt).evaluateZones.setArbiter a).noComputation where
  lastRun := lastRun
  run := run
  rest := rest
  command := rfl
  links := rfl
  fan := exists_congr fun z => by
    obtain ⟨hfan, hplay⟩ := State.evaluateZones_fanCounts (s := s.elapse dt) z
    exact and_congr (Eq.congr_left hfan) (Eq.congr_left hplay)

/-- With a computation that finds Cmin above the cap the house enters SHED and nothing is published (R46, R56, R59). -/
theorem State.cycle_sheds {c : Nat} (hcm : s.cmin = some c) (hcap : s.cap < c)
    (h : (s.elapse dt).evaluateZones.decision = ((s.elapse dt).evaluateZones.setArbiter a, true))
    (hc : a.house.conditions = true) (lastRun : a.lastRun = s.arbiter.lastRun) (run : a.runStart = s.arbiter.runStart)
    (rest : a.restStart = s.arbiter.restStart) :
    EntersShed s (s.elapse dt).cycle (s.now + dt) ∧ PublishesNothing s (s.elapse dt).cycle := by
  obtain ⟨hcommand, harbiter, hchannels, hqueue, hcomputation, hmarks⟩ := (s.elapse dt).cycle_leaves
  have halike := ShedsAlike.evaluated (s := s) (dt := dt) lastRun run rest
  obtain ⟨u, hu⟩ : ∃ u, u = ((s.elapse dt).evaluateZones.setArbiter a).noComputation := ⟨_, rfl⟩
  rw [← hu] at halike
  have hdecided : (s.elapse dt).decided = u.enterShed := by
    have hcompute : ((s.elapse dt).evaluateZones.setArbiter a).compute a.house = none := by
      rw [State.compute_setArbiter]
      exact State.compute_none hc hcm hcap
    have hhouse : ((s.elapse dt).evaluateZones.setArbiter a).house = a.house := rfl
    rw [State.decided_computes h, State.computeAndPublish, hhouse, hcompute, ← hu]
  have hshed : u.house ≠ .shed := by
    have huh : u.house = a.house := by rw [hu]; rfl
    obtain ⟨-, -, -, -, hne⟩ := HouseState.conditions_cases hc
    rwa [huh]
  have hnow : u.now = s.now + dt := by rw [hu]; rfl
  have henter := (State.enterShed_enters hshed).congr halike
  rw [hnow] at henter
  rw [hdecided] at hcommand harbiter hchannels hqueue hcomputation hmarks
  refine ⟨henter.after _ harbiter hcommand hmarks, ?_, ?_, ?_⟩
  · rw [hchannels]
    simp [hu]
  · rw [hqueue]
    simp [hu]
  · rw [hcomputation]
    simp [hu, State.noComputation, Computation.unmade]

end

end Sys2Proof.Machine
end

section
/-! PROOF. The cycle expiry in COOL, DRY and HEAT (R39 to R42, R46, R53, R58, R59). -/

namespace Sys2Proof.Machine

/-- The arbiter of a running house that goes on computing, in a state of its family (R39 to R41). -/
def Arbiter.goingOn (x : Arbiter) (h : HouseState) : Arbiter := { x with house := h, hold := false }

/-- What a running house decides, said of the two families alike: its own sum, its next state, whether it changes over and to what. -/
structure RunsOn (s : State) (own : Nat) (next : HouseState) (changes : Prop) (toward : Target) : Prop where
  turns : changes → s.decision = (s.enterChangeover toward, false)
  stops : ¬changes → own = 0 → s.ranMinimum = true → s.decision = (s.goIdle, false)
  holds : ¬changes → own = 0 → ¬s.ranMinimum = true → s.decision = (s.holdOn, false)
  goesOn : ¬changes → 0 < own → s.decision = (s.setArbiter (s.arbiter.goingOn next), true)
  conditions : next.conditions = true
  outMode : next.outMode = s.house.outMode

section
variable {s : State}

theorem State.cooling_runsOn (hs : s.house = .cool ∨ s.house = .dry) :
    RunsOn s s.sumCooling (if 0 < s.sumCool then .cool else .dry) (s.wantsHeating = true) .heat := by
  have hdec : s.decision = s.decideCooling := by rcases hs with hs | hs <;> simp only [State.decision, hs]
  refine ⟨fun hc => ?_, fun hc h0 hr => ?_, fun hc h0 hr => ?_, fun hc h0 => ?_, ?_, ?_⟩
  · rw [hdec, State.decideCooling, if_pos hc]
  · rw [hdec, State.decideCooling, if_neg hc, if_pos h0, if_pos hr]
  · rw [hdec, State.decideCooling, if_neg hc, if_pos h0, if_neg hr]
  · rw [hdec, State.decideCooling, if_neg hc, if_neg (Nat.ne_of_gt h0)]
    rfl
  · split <;> rfl
  · rcases hs with hs | hs <;> rw [hs] <;> split <;> rfl

theorem State.heating_runsOn (hs : s.house = .heat) :
    RunsOn s s.sumHeat .heat (s.wantsCooling = true) (if 0 < s.sumCool then .cool else .dry) := by
  have hdec : s.decision = s.decideHeating := by simp only [State.decision, hs]
  have hend : s.arbiter.goingOn .heat = { s.arbiter with hold := false } := by
    rw [Arbiter.goingOn, ← hs]
    rfl
  refine ⟨fun hc => ?_, fun hc h0 hr => ?_, fun hc h0 hr => ?_, fun hc h0 => ?_, rfl, by rw [hs]⟩
  · rw [hdec, State.decideHeating, if_pos hc]
  · rw [hdec, State.decideHeating, if_neg hc, if_pos h0, if_pos hr]
  · rw [hdec, State.decideHeating, if_neg hc, if_pos h0, if_neg hr]
  · rw [hdec, State.decideHeating, if_neg hc, if_neg (Nat.ne_of_gt h0), hend]
    rfl

theorem State.wantsHeating_iff :
    s.wantsHeating = true ↔ 0 < s.sumHeat ∧ s.ranMinimum = true ∧ (2 * s.sumCooling < s.sumHeat
      ∨ ∃ z : ZoneId, s.profile.starvation ≤ (s.zone z).unmet ∧ (s.zone z).call = .heat) := by
  simp only [State.wantsHeating, Bool.and_eq_true, Bool.or_eq_true, decide_eq_true_eq, State.starving_iff, Call.heating, and_assoc]

theorem State.wantsCooling_iff :
    s.wantsCooling = true ↔ 0 < s.sumCooling ∧ s.ranMinimum = true ∧ (2 * s.sumHeat < s.sumCooling
      ∨ ∃ z : ZoneId, s.profile.starvation ≤ (s.zone z).unmet ∧ ((s.zone z).call = .cool ∨ (s.zone z).call = .dry)) := by
  simp only [State.wantsCooling, Bool.and_eq_true, Bool.or_eq_true, decide_eq_true_eq, State.starving_iff, Call.cooling, and_assoc]

end

/-! ### The arbiter at each turn (R36, R39, R42) -/

section
variable {s : State} (hr : s.command.outMode ≠ .off)
include hr

theorem State.enterChangeover_arbiter (t : Target) :
    (s.enterChangeover t).arbiter = { s.arbiter with
      house := .changeover, hold := false, pendingTarget := some t, dwellStart := some s.now
      runStart := none, restStart := some s.now } := by
  simp [State.enterChangeover, commandOff, resetCommand, Arbiter.atOutMode_stop _ _ _ hr]

theorem State.goIdle_arbiter :
    s.goIdle.arbiter = { s.arbiter with
      house := .idle, hold := false, pendingTarget := none, remembered := none, dwellStart := none, defrostDue := none
      runStart := none, restStart := some s.now } := by
  simp [State.goIdle, commandOff, resetCommand, Arbiter.atOutMode_stop _ _ _ hr]

end

theorem State.holdOn_arbiter (s : State) : s.holdOn.arbiter = { s.arbiter with hold := true } := by
  simp [State.holdOn]

/-! ### The house after each outcome -/

/-- The record is OFF, the compressor has stopped at a moment and nothing was published (R36). -/
def Stopped (s t : State) (now : Time) : Prop :=
  t.command = commandOff ∧ t.arbiter.runStart = none ∧ t.arbiter.restStart = some now ∧ t.arbiter.hold = false
    ∧ t.channels = s.channels

section
variable {s : State} {dt : Nat} {own : Nat} {next : HouseState} {changes : Prop} {toward : Target}
  (h : RunsOn (s.elapse dt).evaluateZones own next changes toward)
include h

theorem RunsOn.cycle_turns (hr : s.command.outMode ≠ .off) (hc : changes) :
    let t := (s.elapse dt).cycle
    t.house = .changeover ∧ Stopped s t (s.now + dt) ∧ t.arbiter.dwellStart = some (s.now + dt)
      ∧ t.arbiter.pendingTarget = some toward := by
  have hp : ((s.elapse dt).evaluateZones.enterChangeover toward).profile = s.profile := congrArg Tables.profile (by simp)
  obtain ⟨hcommand, hchannels, harbiter⟩ := State.cycle_rests (h.turns hc) hp
  rw [State.enterChangeover_arbiter (s := (s.elapse dt).evaluateZones) hr] at harbiter
  have hoff : (s.elapse dt).cycle.command = commandOff := hcommand.trans (by simp [State.enterChangeover])
  dsimp only [Stopped, State.house]
  rw [harbiter, hoff, hchannels]
  exact ⟨rfl, ⟨rfl, rfl, rfl, rfl, by simp⟩, rfl, rfl⟩

theorem RunsOn.cycle_stops (hr : s.command.outMode ≠ .off) (hc : ¬changes) (h0 : own = 0)
    (hran : (s.elapse dt).evaluateZones.ranMinimum = true) :
    let t := (s.elapse dt).cycle
    t.house = .idle ∧ Stopped s t (s.now + dt) ∧ t.arbiter.pendingTarget = none := by
  have hp : (s.elapse dt).evaluateZones.goIdle.profile = s.profile := congrArg Tables.profile (by simp)
  obtain ⟨hcommand, hchannels, harbiter⟩ := State.cycle_rests (h.stops hc h0 hran) hp
  rw [State.goIdle_arbiter (s := (s.elapse dt).evaluateZones) hr] at harbiter
  have hoff : (s.elapse dt).cycle.command = commandOff := hcommand.trans (by simp [State.goIdle])
  dsimp only [Stopped, State.house]
  rw [harbiter, hoff, hchannels]
  exact ⟨rfl, ⟨rfl, rfl, rfl, rfl, by simp⟩, rfl⟩

theorem RunsOn.cycle_holds (hc : ¬changes) (h0 : own = 0) (hran : ¬(s.elapse dt).evaluateZones.ranMinimum = true) :
    let t := (s.elapse dt).cycle
    t.command = { s.command with capacity := s.cmin.getD s.command.capacity, reheat := false } ∧ t.channels = s.channels
      ∧ t.arbiter = { s.arbiter with hold := true, cycleDue := some (s.now + dt + sec s.profile.cycle) } := by
  have hp : (s.elapse dt).evaluateZones.holdOn.profile = s.profile := congrArg Tables.profile (by simp)
  obtain ⟨hcommand, hchannels, harbiter⟩ := State.cycle_rests (h.holds hc h0 hran) hp
  refine ⟨hcommand.trans ?_, hchannels.trans (by simp), harbiter.trans ?_⟩
  · simp only [State.holdOn, State.setArbiter_command, State.writeCommand_command]
    rfl
  · rw [State.holdOn_arbiter]
    rfl

theorem RunsOn.cycle_goesOn (hout : s.command.outMode = s.house.outMode) (hc : ¬changes) (h0 : 0 < own)
    (hcap : ∀ c, s.cmin = some c → c ≤ s.cap) :
    let t := (s.elapse dt).cycle
    (∃ f, (s.elapse dt).evaluateZones.compute next = some f ∧ t.command = f.command next)
      ∧ (∀ c, s.cmin = some c → c ≤ t.command.capacity) ∧ t.command.capacity ≤ s.cap
      ∧ t.arbiter = { s.arbiter with
          house := next, hold := false, cycleDue := some (s.now + dt + sec s.profile.cycle) } := by
  obtain ⟨f, hf, hlow, hhigh⟩ := State.compute_some (s := (s.elapse dt).evaluateZones) hcap h.conditions
  obtain ⟨hcommand, harbiter, -⟩ := State.cycle_computes (h.goesOn hc h0) hf
  have hmode : s.command.outMode = next.outMode := hout.trans h.outMode.symm
  refine ⟨⟨f, hf, hcommand⟩, ?_, ?_, harbiter.trans ?_⟩
  · rw [hcommand]
    exact hlow
  · rw [hcommand]
    exact hhigh
  · rw [hmode]
    exact congrArg (fun x : Arbiter => { x with cycleDue := some (s.now + dt + sec s.profile.cycle) })
      (Arbiter.atOutMode_same _ _ _)

theorem RunsOn.cycle_sheds {c : Nat} (hc : ¬changes) (h0 : 0 < own) (hcm : s.cmin = some c) (hcap : s.cap < c) :
    EntersShed s (s.elapse dt).cycle (s.now + dt) ∧ PublishesNothing s (s.elapse dt).cycle :=
  State.cycle_sheds hcm hcap (h.goesOn hc h0) h.conditions rfl rfl rfl

end

/-- Settles O47: a house in HEAT and one in COOL or DRY decide alike, with the families exchanged. -/
theorem runningHouseDecides : Obligations.RunningHouseDecides := by
  intro s dt d hrun hdue hle hs hh now e heats own other ran starved changes stopped
  have hout : s.command.outMode = s.house.outMode := hh.outMode
  have hr : s.command.outMode ≠ .off := by
    rw [hout]
    rcases hs with hs | hs | hs <;> rw [hs] <;> decide
  have hran : e.ranMinimum = true ↔ ran := State.ranMinimum_iff
  have h : RunsOn e own (if heats then .heat else if 0 < e.sumCool then .cool else .dry) changes
      (if heats then (if 0 < e.sumCool then .cool else .dry) else .heat) := by
    by_cases hheat : s.house = .heat
    · have hchanges : changes = (e.wantsCooling = true) := by
        rw [eq_iff_iff, State.wantsCooling_iff, hran]
        simp only [changes, starved, own, other, heats, hheat, if_true]
        rfl
      rw [hchanges]
      simpa only [own, heats, hheat, if_true] using State.heating_runsOn (s := e) hheat
    · have hchanges : changes = (e.wantsHeating = true) := by
        rw [eq_iff_iff, State.wantsHeating_iff, hran]
        simp only [changes, starved, own, other, heats, hheat, if_false]
        rfl
      rw [hchanges]
      have hcooling : e.house = .cool ∨ e.house = .dry := hs.imp_right fun hs => hs.resolve_right hheat
      simpa only [own, heats, hheat, if_false, State.sumCooling] using State.cooling_runsOn (s := e) hcooling
  refine ⟨(s.elapse dt).cycle, exec_cycleExpiry hrun hdue hle, h.cycle_turns hr, fun hc h0 hr' => ?_, fun hc h0 hr' => ?_,
    h.cycle_goesOn hout, fun c => h.cycle_sheds⟩
  · exact h.cycle_stops hr hc h0 (hran.2 hr')
  · exact h.cycle_holds hc h0 fun hm => hr' (hran.1 hm)

end Sys2Proof.Machine
end

section
/-! PROOF. The cycle expiry in IDLE and FAN (R35 to R38, R46, R53, R58, R59), and the three sums and the target (R35). -/

namespace Sys2Proof.Machine

section
variable {s : State}

/-! ### The sums and the target (R35) -/

theorem State.callSum_eq (c : Call) :
    s.callSum c = ∑ z : ZoneId, if (s.zone z).call = c then (s.zone z).demand * (s.zoneCfg z).qd else 0 := by
  rw [Fin.sum_univ_def]
  rfl

theorem State.noHeatPump_iff : s.noHeatPump = true ↔ ∃ c, (s.link .outdoorUnit).cap = some (.outdoor c false) := by
  unfold State.noHeatPump
  split
  · next c hp hcap => simp [hcap]
  · next hno => simpa using fun c hcap => hno c false hcap

theorem State.chooseTarget_heat (h : s.sumCool + s.sumDry < s.sumHeat) : s.chooseTarget = .heat := if_pos h

theorem State.chooseTarget_cool (h : s.sumHeat ≤ s.sumCool + s.sumDry) (hc : 0 < s.sumCool) : s.chooseTarget = .cool :=
  (if_neg (Nat.not_lt.2 h)).trans (if_pos hc)

theorem State.chooseTarget_dry (h : s.sumHeat ≤ s.sumDry) (hc : s.sumCool = 0) : s.chooseTarget = .dry := by
  have hno : ¬s.sumCooling < s.sumHeat := by
    unfold State.sumCooling
    omega
  rw [State.chooseTarget, if_neg hno, if_neg (by omega)]

/-! ### The decisions (R37, R38) -/

/-- A start is due: there is a call, both nodes are startable, and the target's rest has run (R37). -/
def State.starts (s : State) : Prop := s.anySum = true ∧ s.bothStartable = true ∧ s.restMet s.chooseTarget.runMode = true

/-- The target that an expiry leaves pending when nothing starts (R37, R38). -/
def State.pends (s : State) : Option Target := if s.anySum then some s.chooseTarget else none

/-- The arbiter in FAN or IDLE with a pending target, no timer moved. -/
def Arbiter.resting (x : Arbiter) (h : HouseState) (t : Option Target) : Arbiter :=
  { x with house := h, pendingTarget := t, hold := if x.house = h then x.hold else false }

theorem State.decision_starts (hs : s.house = .idle ∨ s.house = .fan) (h : s.starts) :
    s.decision = (s.setArbiter (s.arbiter.entering s.chooseTarget), true) := by
  obtain ⟨hsum, hboth, hrest⟩ := h
  have hgo : ((s.setTarget (some s.chooseTarget)).bothStartable
      && (s.setTarget (some s.chooseTarget)).restMet s.chooseTarget.runMode) = true := by
    rw [Bool.and_eq_true]
    exact ⟨hboth, hrest⟩
  rcases hs with hs | hs
  · simp only [State.decision, hs, State.decideIdle, hsum, hgo, if_true]
    rfl
  · simp only [State.decision, hs, State.decideFan, hsum, hgo, if_true]
    rfl

theorem State.starts_of_sum (hsum : s.anySum = true) (h : ¬s.starts) :
    ((s.setTarget (some s.chooseTarget)).bothStartable
      && (s.setTarget (some s.chooseTarget)).restMet s.chooseTarget.runMode) = false := by
  rw [← Bool.not_eq_true, Bool.and_eq_true]
  exact fun ⟨hboth, hrest⟩ => h ⟨hsum, hboth, hrest⟩

/-- With no start due an IDLE house waits for its calls, or blows air when it has none (R37). -/
theorem State.decideIdle_waits (h : ¬s.starts) :
    s.decideIdle = if s.anySum = true ∨ ¬(s.anyFan = true ∧ s.startable .airHandler = true) then (s.setTarget s.pends, false)
      else ((s.setTarget s.pends).enterHouse .fan, true) := by
  cases hsum : s.anySum with
  | true => simp only [State.decideIdle, hsum, if_true, State.starts_of_sum hsum h, State.pends, true_or, Bool.false_eq_true, if_false]
  | false =>
    have hblows : ((s.setTarget none).anyFan && (s.setTarget none).startable .airHandler) = true ↔
        s.anyFan = true ∧ s.startable .airHandler = true := Bool.and_eq_true_iff
    simp only [State.decideIdle, hsum, State.pends, Bool.false_eq_true, if_false, false_or]
    by_cases hfan : s.anyFan = true ∧ s.startable .airHandler = true
    · rw [if_pos (hblows.2 hfan), if_neg (not_not.2 hfan)]
    · rw [if_neg (mt hblows.1 hfan), if_pos hfan]

/-- With no start due a house in FAN goes on while a fan request counts (R38). -/
theorem State.decideFan_stays (h : ¬s.starts) : s.decideFan = (s.setTarget s.pends).fanOrIdle := by
  cases hsum : s.anySum with
  | true => simp only [State.decideFan, hsum, if_true, State.starts_of_sum hsum h, State.pends, Bool.false_eq_true, if_false]
  | false => simp only [State.decideFan, hsum, State.pends, Bool.false_eq_true, if_false]

theorem Arbiter.resting_same {x : Arbiter} {h : HouseState} (hx : x.house = h) (t : Option Target) :
    x.resting h t = { x with pendingTarget := t } := by
  simp [Arbiter.resting, ← hx]

theorem State.decision_fan (hs : s.house = .idle ∨ s.house = .fan) (h : ¬s.starts) (hidle : ¬(s.anySum = true ∧ s.house = .idle))
    (hfan : s.anyFan = true ∧ (s.house = .fan ∨ s.startable .airHandler = true)) :
    s.decision = (s.setArbiter (s.arbiter.resting .fan s.pends), true) := by
  obtain ⟨hany, hair⟩ := hfan
  rcases hs with hs | hs
  · have hsum : ¬s.anySum = true := fun hsum => hidle ⟨hsum, hs⟩
    have hstartable : s.startable .airHandler = true := hair.resolve_left (by rw [hs]; decide)
    have hno : ¬(s.anySum = true ∨ ¬(s.anyFan = true ∧ s.startable .airHandler = true)) := by simp [hsum, hany, hstartable]
    simp only [State.decision, hs, State.decideIdle_waits h, if_neg hno]
    rfl
  · simp only [State.decision, hs, State.decideFan_stays h]
    rw [Arbiter.resting_same hs]
    exact if_pos hany

theorem State.decision_rests (hs : s.house = .idle ∨ s.house = .fan) (h : ¬s.starts)
    (hno : (s.anySum = true ∧ s.house = .idle) ∨ ¬(s.anyFan = true ∧ (s.house = .fan ∨ s.startable .airHandler = true))) :
    s.decision = (if s.house = .idle then s.setArbiter (s.arbiter.resting .idle s.pends)
      else ((s.setTarget s.pends).writeCommand commandOff).enterHouse .idle, false) := by
  rcases hs with hs | hs
  · have hwaits : s.anySum = true ∨ ¬(s.anyFan = true ∧ s.startable .airHandler = true) :=
      hno.imp And.left fun hn hf => hn ⟨hf.1, .inr hf.2⟩
    rw [if_pos hs, Arbiter.resting_same hs]
    simp only [State.decision, hs, State.decideIdle_waits h, if_pos hwaits]
    rfl
  · have hany : ¬s.anyFan = true := fun hf => by
      rcases hno with ⟨-, hidle⟩ | hn
      · exact absurd (hs.symm.trans hidle) (by decide)
      · exact hn ⟨hf, .inl hs⟩
    rw [if_neg (by rw [hs]; decide)]
    simp only [State.decision, hs, State.decideFan_stays h]
    exact if_neg hany

end

/-! ### The house after each outcome -/

section
variable {s : State} {dt : Nat} (hs : s.house = .idle ∨ s.house = .fan) (hh : HouseHolds s)
include hs hh

theorem HouseHolds.off_at_rest : s.command.outMode = .off := by
  rw [hh.outMode]
  rcases hs with hs | hs <;> rw [hs] <;> rfl

theorem State.cycle_starts (h : (s.elapse dt).evaluateZones.starts) (hcap : ∀ c, s.cmin = some c → c ≤ s.cap) :
    let t := (s.elapse dt).cycle
    let g := (s.elapse dt).evaluateZones.chooseTarget
    t.house = g.house ∧ (∃ f, (s.elapse dt).evaluateZones.compute g.house = some f ∧ t.command = f.command g.house)
      ∧ t.command.outMode = g.house.outMode ∧ t.command.airMode = g.house.airMode
      ∧ (∀ c, s.cmin = some c → c ≤ t.command.capacity) ∧ t.command.capacity ≤ s.cap
      ∧ t.arbiter.runStart = some (s.now + dt) ∧ t.arbiter.restStart = none ∧ t.arbiter.lastRun = some g.runMode
      ∧ t.arbiter.pendingTarget = none ∧ marked t.events.raised .modeChange = true := by
  intro t g
  have hoff := hh.off_at_rest hs
  have hc : g.house.conditions = true := by cases g <;> rfl
  obtain ⟨f, hf, hlow, hhigh⟩ := State.compute_some (s := (s.elapse dt).evaluateZones) (h := g.house) hcap hc
  obtain ⟨hcommand, harbiter, hmark⟩ := State.cycle_computes (State.decision_starts (s := (s.elapse dt).evaluateZones) hs h) hf
  have hon : g.house.outMode ≠ .off := by cases g <;> decide
  have hrun : g.house.outMode.run = some g.runMode := by cases g <;> rfl
  have harb : t.arbiter = { s.arbiter.entering g with
      runStart := some (s.now + dt), restStart := none, lastRun := some g.runMode, pendingTarget := none
      cycleDue := some (s.now + dt + sec s.profile.cycle) } := by
    refine harbiter.trans ?_
    rw [hoff, ← hrun]
    exact congrArg (fun x : Arbiter => { x with cycleDue := some (s.now + dt + sec s.profile.cycle) })
      (Arbiter.atOutMode_start _ _ _ hon)
  have hcom : t.command = f.command g.house := hcommand
  refine ⟨?_, ⟨f, hf, hcom⟩, ?_, ?_, ?_, ?_, ?_, ?_, ?_, ?_, hmark (by rw [hoff]; exact hon.symm)⟩
  · rw [State.house, harb]
    rfl
  · rw [hcom]; rfl
  · rw [hcom]; rfl
  · rw [hcom]; exact hlow
  · rw [hcom]; exact hhigh
  all_goals rw [harb]

theorem State.cycle_rests_idle (h : ¬(s.elapse dt).evaluateZones.starts)
    (hno : ((s.elapse dt).evaluateZones.anySum = true ∧ s.house = .idle)
      ∨ ¬((s.elapse dt).evaluateZones.anyFan = true ∧ (s.house = .fan ∨ s.startable .airHandler = true))) :
    let t := (s.elapse dt).cycle
    t.command = commandOff ∧ t.channels = s.channels
      ∧ t.arbiter = { s.arbiter.resting .idle (s.elapse dt).evaluateZones.pends with
          cycleDue := some (s.now + dt + sec s.profile.cycle) } := by
  obtain ⟨e, he⟩ : ∃ e, e = (s.elapse dt).evaluateZones := ⟨_, rfl⟩
  obtain ⟨x, hx⟩ : ∃ x, x = if e.house = .idle then e.setArbiter (e.arbiter.resting .idle e.pends)
      else ((e.setTarget e.pends).writeCommand commandOff).enterHouse .idle := ⟨_, rfl⟩
  have hdec := State.decision_rests (s := (s.elapse dt).evaluateZones) hs h hno
  rw [← he, ← hx, he] at hdec
  have hsoff : s.command.outMode = .off := hh.off_at_rest hs
  have hoff : e.command.outMode = .off := by rw [he]; exact hsoff
  have htables : x.tables = s.tables := by
    rw [hx, he]
    split <;> simp
  have hxc : x.channels = s.channels := by
    rw [hx, he]
    split <;> simp
  have hxa : x.arbiter = s.arbiter.resting .idle e.pends := by
    have hea : e.arbiter = s.arbiter := by rw [he]; rfl
    rw [hx]
    split
    · rw [← hea]
      rfl
    · simp [hoff, hea, Arbiter.resting, commandOff, resetCommand]
  have hxo : x.command = commandOff := by
    rw [hx]
    split
    · next hidle =>
      have hidle : s.house = .idle := by rw [← hidle, he]; rfl
      have hfits := hh.fits
      rw [hidle] at hfits
      rw [State.setArbiter_command, he]
      exact hfits.eq_off rfl rfl
    · simp
  obtain ⟨hcommand, hchannels, harbiter⟩ := State.cycle_rests hdec (congrArg Tables.profile htables)
  exact ⟨hcommand.trans hxo, hchannels.trans hxc, by rw [harbiter, hxa, he]⟩

theorem State.cycle_fans (h : ¬(s.elapse dt).evaluateZones.starts)
    (hidle : ¬((s.elapse dt).evaluateZones.anySum = true ∧ s.house = .idle))
    (hfan : (s.elapse dt).evaluateZones.anyFan = true ∧ (s.house = .fan ∨ s.startable .airHandler = true)) :
    let t := (s.elapse dt).cycle
    (∃ f, (s.elapse dt).evaluateZones.compute .fan = some f
        ∧ t.command = { commandOff with airMode := .fan, airflow := f.commanded })
      ∧ t.arbiter = { s.arbiter.resting .fan (s.elapse dt).evaluateZones.pends with
          cycleDue := some (s.now + dt + sec s.profile.cycle) } := by
  have hf := State.compute_fan (s := (s.elapse dt).evaluateZones) (h := .fan) rfl
  obtain ⟨hcommand, harbiter, -⟩ := State.cycle_computes (State.decision_fan (s := (s.elapse dt).evaluateZones) hs h hidle hfan) hf
  refine ⟨⟨_, hf, hcommand⟩, harbiter.trans ?_⟩
  rw [hh.off_at_rest hs]
  exact congrArg (fun x : Arbiter => { x with cycleDue := some (s.now + dt + sec s.profile.cycle) }) (Arbiter.atOutMode_same _ _ _)

end

/-- Settles O46: the sums as they are written, and the decision by whether a start is due and whether a fan request counts. -/
theorem idleAndFanDecide : Obligations.IdleAndFanDecide := by
  refine ⟨fun s => ⟨State.callSum_eq, rfl, rfl, fun c hcap => ?_, fun hno => ?_, State.chooseTarget_heat, State.chooseTarget_cool,
    State.chooseTarget_dry⟩, ?_⟩
  · exact if_pos (State.noHeatPump_iff.2 ⟨c, hcap⟩)
  · exact if_neg fun hp => by
      obtain ⟨c, hcap⟩ := State.noHeatPump_iff.1 hp
      exact hno c hcap
  intro s dt d hrun hdue hle hs hh now e calls g starts fan
  have hcalls : calls ↔ e.anySum = true := State.anySum_iff.symm
  have hstarts : starts ↔ e.starts :=
    and_congr hcalls (and_congr Iff.rfl (State.restMet_iff (s := e)).symm)
  have hpends : e.pends = if calls then some g else none := if_congr hcalls.symm rfl rfl
  have hrests : ¬starts → (calls ∧ s.house = .idle) ∨ ¬fan → _ := fun hno hrest =>
    State.cycle_rests_idle (dt := dt) hs hh (mt hstarts.2 hno) (hrest.imp_left (And.imp_left hcalls.1))
  have hfans : ¬starts → ¬(calls ∧ s.house = .idle) → fan → _ := fun hno hidle hfan =>
    State.cycle_fans (dt := dt) hs hh (mt hstarts.2 hno) (fun ⟨hsum, hi⟩ => hidle ⟨hcalls.2 hsum, hi⟩) hfan
  refine ⟨(s.elapse dt).cycle, exec_cycleExpiry hrun hdue hle, fun h => State.cycle_starts hs hh (hstarts.1 h),
    fun c h hcm hcap => ?_, fun hno => ?_, fun hno hrest => ?_, fun hno hidle hfan => ?_⟩
  · exact State.cycle_sheds hcm hcap (State.decision_starts (s := e) hs (hstarts.1 h)) (by cases e.chooseTarget <;> rfl) rfl rfl rfl
  · rw [← hpends]
    by_cases hrest : (calls ∧ s.house = .idle) ∨ ¬fan
    · obtain ⟨-, -, harbiter⟩ := hrests hno hrest
      rw [harbiter]
      exact ⟨rfl, rfl, rfl⟩
    · rw [not_or, not_not] at hrest
      obtain ⟨-, harbiter⟩ := hfans hno hrest.1 hrest.2
      rw [harbiter]
      exact ⟨rfl, rfl, rfl⟩
  · obtain ⟨hcommand, hchannels, harbiter⟩ := hrests hno hrest
    exact ⟨congrArg Arbiter.house harbiter, hcommand, hchannels⟩
  · obtain ⟨hcommand, harbiter⟩ := hfans hno hidle hfan
    exact ⟨congrArg Arbiter.house harbiter, hcommand⟩

end Sys2Proof.Machine
end

section
/-! PROOF. The cycle expiry in CHANGEOVER, SHED, DEFROST, HALT and UNCOMMISSIONED (R31, R43, R45 to R49, R53, R59). -/

namespace Sys2Proof.Machine

section
variable {s : State}

/-! ### The decisions (R43, R45, R47 to R49) -/

theorem State.rechoose_eq :
    s.rechoose = match s.arbiter.pendingTarget with
      | some .heat => if 0 < s.sumHeat then some .heat else none
      | some _ => if 0 < s.sumCool then some .cool else if 0 < s.sumDry then some .dry else none
      | none => none := by
  unfold State.rechoose
  cases s.arbiter.pendingTarget with
  | none => rfl
  | some t => cases t <;> rfl

section
variable (hs : s.house = .changeover)
include hs

theorem State.decision_dwells (hd : ¬s.dwellOver = true) :
    s.decision = (s.setTarget (s.rechoose.or s.arbiter.pendingTarget), false) := by
  simp only [State.decision, hs, State.decideChangeover, if_neg hd]
  cases s.rechoose <;> rfl

theorem State.decision_ends (hd : s.dwellOver = true) (h : s.rechoose = none ∨ s.bothStartable = false) :
    s.decision = (s.goIdle, false) := by
  simp only [State.decision, hs, State.decideChangeover, if_pos hd]
  cases hr : s.rechoose with
  | none => rfl
  | some t =>
    have hb : s.bothStartable = false := h.resolve_left (by rw [hr]; exact Option.some_ne_none t)
    simp only [hb, Bool.not_false, if_true]

theorem State.decision_waits {g : Target} (hd : s.dwellOver = true) (hr : s.rechoose = some g) (hb : s.bothStartable = true)
    (hrest : ¬s.restMet g.runMode = true) : s.decision = (s.setTarget (some g), false) := by
  simp only [State.decision, hs, State.decideChangeover, if_pos hd, hr, hb, Bool.not_true, Bool.false_eq_true, if_false, if_neg hrest]

theorem State.decision_turns {g : Target} (hd : s.dwellOver = true) (hr : s.rechoose = some g) (hb : s.bothStartable = true)
    (hrest : s.restMet g.runMode = true) : s.decision = (s.setArbiter (s.arbiter.entering g), true) := by
  simp only [State.decision, hs, State.decideChangeover, if_pos hd, hr, hb, Bool.not_true, Bool.false_eq_true, if_false, if_pos hrest]
  rfl

end

theorem State.decision_shed (hs : s.house = .shed) :
    s.decision = if s.anyFan && (s.startable .airHandler || (s.available .airHandler && decide (s.command.airMode = .fan)))
      then (s, true) else (s.writeCommand commandOff, false) := by
  simp only [State.decision, hs, State.decideShed]

theorem State.decision_stays (hs : s.house = .defrost ∨ s.house = .halt ∨ s.house = .uncommissioned) : s.decision = (s, false) := by
  rcases hs with hs | hs | hs <;> simp only [State.decision, hs]

end

/-! ### The house after each outcome -/

/-- The cycle timer runs again with the Profile's period (R31). -/
def Arbiter.again (s : State) (dt : Nat) (x : Arbiter) : Arbiter := { x with cycleDue := some (s.now + dt + sec s.profile.cycle) }

section
variable {s : State} {dt : Nat}

/-- A decision that leaves record and channels leaves them through the expiry (R56). -/
theorem State.cycle_keeps {a : Arbiter} (h : (s.elapse dt).evaluateZones.decision = ((s.elapse dt).evaluateZones.setArbiter a, false)) :
    (s.elapse dt).cycle.arbiter = a.again s dt ∧ (s.elapse dt).cycle.command = s.command
      ∧ (s.elapse dt).cycle.channels = s.channels := by
  obtain ⟨hcommand, hchannels, harbiter⟩ := State.cycle_rests h rfl
  exact ⟨harbiter, hcommand, hchannels⟩

theorem HouseHolds.off_in_changeover (hh : HouseHolds s) (hs : s.house = .changeover) :
    s.command = commandOff ∧ s.arbiter.remembered = none := by
  have hfits := hh.fits
  rw [hs] at hfits
  have hflow := hh.defrostFlow
  rw [hs] at hflow
  exact ⟨hfits.eq_off rfl rfl, by simpa using hflow⟩

theorem State.goIdle_arbiter_off (hr : s.command.outMode = .off) :
    s.goIdle.arbiter = { s.arbiter with
      house := .idle, hold := if s.arbiter.house = .idle then s.arbiter.hold else false, pendingTarget := none
      remembered := none, dwellStart := none, defrostDue := none } := by
  simp [State.goIdle, commandOff, resetCommand, hr]

/-- CHANGEOVER ends in IDLE when its family calls no more, or a node is not startable (R43). -/
theorem State.cycle_ends (hh : HouseHolds s) (hs : s.house = .changeover)
    (h : (s.elapse dt).evaluateZones.decision = ((s.elapse dt).evaluateZones.goIdle, false)) :
    (s.elapse dt).cycle.arbiter = Arbiter.again s dt { s.arbiter with
        house := .idle, hold := false, pendingTarget := none, dwellStart := none, defrostDue := none }
      ∧ (s.elapse dt).cycle.command = s.command ∧ (s.elapse dt).cycle.channels = s.channels := by
  obtain ⟨hoff, hflow⟩ := hh.off_in_changeover hs
  have hr : s.command.outMode = .off := by rw [hoff]; rfl
  have hne : ¬s.arbiter.house = .idle := by rw [show s.arbiter.house = _ from hs]; decide
  have hp : (s.elapse dt).evaluateZones.goIdle.profile = s.profile := congrArg Tables.profile (by simp)
  have harb : (s.elapse dt).evaluateZones.arbiter = s.arbiter := rfl
  obtain ⟨hcommand, hchannels, harbiter⟩ := State.cycle_rests h hp
  rw [State.goIdle_arbiter_off (s := (s.elapse dt).evaluateZones) hr, harb, if_neg hne] at harbiter
  exact ⟨harbiter.trans (by simp [Arbiter.again, hflow]), hcommand.trans (by simp [State.goIdle, hoff]), hchannels.trans (by simp)⟩

/-- CHANGEOVER ends in the state of its target, which starts at that moment (R36, R43). -/
theorem State.cycle_turns {g : Target} (hh : HouseHolds s) (hs : s.house = .changeover)
    (h : (s.elapse dt).evaluateZones.decision = ((s.elapse dt).evaluateZones.setArbiter (s.arbiter.entering g), true))
    (hcap : ∀ c, s.cmin = some c → c ≤ s.cap) :
    (∃ f, (s.elapse dt).evaluateZones.compute g.house = some f ∧ (s.elapse dt).cycle.command = f.command g.house)
      ∧ (s.elapse dt).cycle.arbiter = Arbiter.again s dt { s.arbiter with
          house := g.house, hold := false, pendingTarget := none, dwellStart := none, defrostDue := none
          runStart := some (s.now + dt), restStart := none, lastRun := some g.runMode } := by
  obtain ⟨hoff, hflow⟩ := hh.off_in_changeover hs
  have hr : s.command.outMode = .off := by rw [hoff]; rfl
  have hne : ¬s.arbiter.house = g.house := by
    rw [show s.arbiter.house = _ from hs]
    cases g <;> decide
  have hc : g.house.conditions = true := by cases g <;> rfl
  have hon : g.house.outMode ≠ .off := by cases g <;> decide
  have hrun : g.house.outMode.run = some g.runMode := by cases g <;> rfl
  obtain ⟨f, hf, -, -⟩ := State.compute_some (s := (s.elapse dt).evaluateZones) (h := g.house) hcap hc
  obtain ⟨hcommand, harbiter, -⟩ := State.cycle_computes h hf
  refine ⟨⟨f, hf, hcommand⟩, harbiter.trans ?_⟩
  have hmode : (f.command (s.arbiter.entering g).house).outMode = g.house.outMode := rfl
  rw [hr, hmode, Arbiter.atOutMode_start _ _ _ hon, hrun, Arbiter.entering, if_neg hne]
  simp [Arbiter.again, hflow]

/-- In SHED the fan computation is written while a fan request counts and the air handler can run (R47). -/
theorem State.cycle_shed (hh : HouseHolds s) (hs : s.house = .shed) :
    let fan := (s.elapse dt).evaluateZones.anyFan = true
      ∧ (s.startable .airHandler = true ∨ (s.available .airHandler = true ∧ s.command.airMode = .fan))
    let t := (s.elapse dt).cycle
    t.arbiter = s.arbiter.again s dt
      ∧ (fan → ∃ f, (s.elapse dt).evaluateZones.compute .shed = some f
        ∧ t.command = { commandOff with airMode := .fan, airflow := f.commanded })
      ∧ (¬fan → t.command = commandOff ∧ t.channels = s.channels) := by
  intro fan t
  have hr : s.command.outMode = .off := by rw [hh.outMode, hs]; rfl
  have hdec := State.decision_shed (s := (s.elapse dt).evaluateZones) hs
  have hfan : ((s.elapse dt).evaluateZones.anyFan && ((s.elapse dt).evaluateZones.startable .airHandler
      || ((s.elapse dt).evaluateZones.available .airHandler && decide ((s.elapse dt).evaluateZones.command.airMode = .fan)))) = true
      ↔ fan := by
    simp only [Bool.and_eq_true, Bool.or_eq_true, decide_eq_true_eq]
    rfl
  by_cases hf : fan
  · rw [if_pos (hfan.2 hf)] at hdec
    have hcompute := State.compute_fan (s := (s.elapse dt).evaluateZones) (h := s.arbiter.house) (by
      rw [show s.arbiter.house = _ from hs]
      rfl)
    obtain ⟨hcommand, harbiter, -⟩ := State.cycle_computes (a := s.arbiter) hdec hcompute
    have hhouse : s.arbiter.house = .shed := hs
    rw [hhouse] at hcompute hcommand harbiter
    refine ⟨harbiter.trans ?_, fun _ => ⟨_, hcompute, hcommand⟩, fun hno => absurd hf hno⟩
    rw [hr]
    exact congrArg (Arbiter.again s dt) (Arbiter.atOutMode_same _ _ _)
  · rw [if_neg (mt hfan.1 hf)] at hdec
    have hp : ((s.elapse dt).evaluateZones.writeCommand commandOff).profile = s.profile := congrArg Tables.profile (by simp)
    obtain ⟨hcommand, hchannels, harbiter⟩ := State.cycle_rests hdec hp
    have harb : ((s.elapse dt).evaluateZones.writeCommand commandOff).arbiter = s.arbiter := by
      simp [commandOff, resetCommand, hr]
    refine ⟨harbiter.trans (by rw [harb]; rfl), fun h => absurd h hf, fun _ => ⟨hcommand.trans (by simp), hchannels.trans (by simp)⟩⟩

end

/-- Settles O48: CHANGEOVER by its dwell, its target and the rest; SHED by its fan; the other states wait. -/
theorem otherHouseStatesDecide : Obligations.OtherHouseStatesDecide := by
  intro s dt d hrun hdue hle hh now e again target dwelt fan
  have htarget : e.rechoose = target := State.rechoose_eq
  have hdwelt : e.dwellOver = true ↔ dwelt := State.dwellOver_iff
  refine ⟨(s.elapse dt).cycle, exec_cycleExpiry hrun hdue hle, fun hs => ⟨fun hd => ?_, fun hd hend => ?_, fun g hd ht hb => ?_⟩,
    fun hs => State.cycle_shed hh hs, fun hs => ?_⟩
  · rw [← htarget]
    exact State.cycle_keeps (State.decision_dwells (s := e) hs (mt hdwelt.1 hd))
  · rw [← htarget] at hend
    exact State.cycle_ends hh hs (State.decision_ends (s := e) hs (hdwelt.2 hd) hend)
  · have hr : e.rechoose = some g := htarget.trans ht
    have hrest : Rested s now g.runMode ↔ e.restMet g.runMode = true := (State.restMet_iff (s := e)).symm
    refine ⟨fun hno => ?_, fun hyes hcap => ?_, fun c hyes hcm hcap => ?_⟩
    · exact State.cycle_keeps (State.decision_waits (s := e) hs (hdwelt.2 hd) hr hb (mt hrest.2 hno))
    · exact State.cycle_turns hh hs (State.decision_turns (s := e) hs (hdwelt.2 hd) hr hb (hrest.1 hyes)) hcap
    · exact State.cycle_sheds hcm hcap (State.decision_turns (s := e) hs (hdwelt.2 hd) hr hb (hrest.1 hyes))
        (by cases g <;> rfl) rfl rfl rfl
  · exact State.cycle_keeps (State.decision_stays (s := e) hs)

end Sys2Proof.Machine
end

section
/-! PROOF. A valid reply on the plant line: what it does before and after the link of its node takes it (R107, R115, R117, R118). -/

namespace Sys2Proof.Machine

/-- The plant reply classes are known classes. -/
theorem knownClasses_of_plantFits {e : Expects} {cls : Byte} {p : List Byte} (h : plantFits e cls p = true) :
    cls ∈ knownClasses := by
  cases e with
  | status =>
    obtain ⟨hcls, -⟩ : cls = clsPlantStatus ∧ 8 ≤ p.length := by simpa [plantFits] using h
    rw [hcls]; decide
  | accept =>
    obtain ⟨hcls, -⟩ : cls = clsQueryAccept ∧ 1 ≤ p.length := by simpa [plantFits] using h
    rw [hcls]; decide

theorem IsReply.judgePlant {bytes : List Byte} {source cls : Byte} {p : List Byte} {e : Expects}
    (h : IsReply bytes source (plantFits e) cls p) : Machine.judge source (plantFits e) bytes = .valid cls p := by
  have hknown := knownClasses_of_plantFits h.fits
  simp [Machine.judge, h.sound, h.toUs, h.fromNode, h.isClass, h.payload, h.fits, hknown]

/-- The slot in which a frame is sent follows the one that ends, and its frame becomes due now (R115). -/
theorem State.atSlot_plant (s : State) (x : Slot) : (s.atSlot x).plant = { s.plant with slot := x, dueSince := s.now } := by
  simp [State.atSlot]

theorem State.beginQuerySlot_plant (s : State) : ∃ y : Slot, (y = .query ∨ y = .over)
    ∧ s.beginQuerySlot.plant = { s.plant with slot := y, dueSince := s.now } := by
  refine ⟨if s.relay.offered.isSome then .query else .over, ?_, State.atSlot_plant _ _⟩
  split <;> simp

theorem State.endSlot_plant (s : State) : ∃ y, follows s.plant.slot y
    ∧ s.endSlot.plant = { s.plant with slot := y, dueSince := s.now } := by
  unfold State.endSlot
  split
  case h_1 hslot =>
    simp only [State.beginOutdoorSlot, hslot]
    split
    · exact ⟨.outdoorUnit, by simp [follows], State.atSlot_plant _ _⟩
    · obtain ⟨y, hy, hplant⟩ := s.beginQuerySlot_plant
      exact ⟨y, by rcases hy with rfl | rfl <;> simp [follows], hplant⟩
  case h_2 hslot =>
    obtain ⟨y, hy, hplant⟩ := s.beginQuerySlot_plant
    exact ⟨y, by rwa [hslot], hplant⟩
  case h_3 hslot => exact ⟨.over, by rw [hslot]; rfl, State.atSlot_plant _ _⟩
  case h_4 hslot => exact ⟨.over, by rw [hslot]; rfl, State.atSlot_plant _ _⟩

/-- The part once a valid answer on the plant line has been judged, before its contents are acted on: the relay may have taken its
answer part already. -/
def afterAnswer (s : State) (dt : Nat) (r : Relay) : State :=
  { s.elapse dt with
    plant := { s.plant with wait := none, counters := oneGood s.plant.counters }
    relay := r }

variable {s : State} {dt : Nat} {b : Burst} {w : PlantWait} {cls : Byte} {p : List Byte}

theorem HearsPlant.verdict (h : HearsPlant s dt b w cls p) : (s.elapse dt).plantVerdict b = .valid cls p := by
  obtain ⟨hfrom, hupto⟩ := h.inTime
  have hbegins : (s.elapse dt).beginsWithin b.age w.closes (ms 50) = true := by
    rw [State.beginsWithin, Bool.and_eq_true, decide_eq_true_eq, decide_eq_true_eq]
    exact ⟨hfrom, hupto⟩
  simp [State.plantVerdict, h.running, h.waiting, hbegins, h.reply.judgePlant]

/-- A valid answer closes the wait, counts a good frame, is handed on and ends the slot (R117, R118). -/
theorem HearsPlant.receive (h : HearsPlant s dt b w cls p) :
    (s.elapse dt).receivePlant b = ((afterAnswer s dt s.relay).plantReply w p b.relayFirst).endSlot := by
  have hwait : ((s.elapse dt).countPlant (.valid cls p)).plant.wait = some w := h.waiting
  have hclosed : ((s.elapse dt).countPlant (.valid cls p)).closePlantWait = afterAnswer s dt s.relay := rfl
  rw [State.receivePlant_arrives _ _ h.arrives, State.judgePlant, h.verdict]
  simp only [State.plantAnswered, hwait, hclosed]

/-- A payload without an answer part tells the relay nothing (R117). -/
theorem State.relayStatus_none (s : State) (n : Node) (h : p.length < 14) : s.relayStatus n p = s := by
  have hno : answerPartOf p = none := if_neg (by omega)
  simp [State.relayStatus, hno]

theorem State.relayStatus_eq (s : State) (n : Node) (p : List Byte) :
    s.relayStatus n p = { s with relay := (s.relayStatus n p).relay } := by
  ext1 <;> simp

/-- A status is taken by the link of its node, before or after the relay takes its answer part (R117, R147, R165). -/
theorem State.plantReply_status (s : State) (p : List Byte) (first : Bool) (hexp : w.expects = .status) :
    ∃ r r', s.plantReply w p first = { { s with relay := r }.takeStatus w.node (plantReportOf w.node p) with relay := r' }
      ∧ (p.length < 14 → r = s.relay ∧ r' = ({ s with relay := r }.takeStatus w.node (plantReportOf w.node p)).relay) := by
  cases first with
  | true =>
    refine ⟨(s.relayStatus w.node p).relay, _, ?_, fun hp => ⟨by rw [State.relayStatus_none s _ hp], rfl⟩⟩
    simp only [← State.relayStatus_eq, State.plantReply, hexp]
    rfl
  | false =>
    refine ⟨s.relay, ((s.takeStatus w.node (plantReportOf w.node p)).relayStatus w.node p).relay, ?_, fun hp => ⟨rfl, ?_⟩⟩
    · simp only [State.plantReply, hexp]
      exact State.relayStatus_eq _ _ _
    · rw [State.relayStatus_none _ _ hp]

/-- What a valid status leaves: everything but the relay and the slot is as the link of its node left it, and only the house and the
links can have moved (R117, R147). -/
structure TakesStatus (s : State) (dt : Nat) (n : Node) (p : List Byte) (u v t : State) : Prop where
  before : u = afterAnswer s dt u.relay
  taken : v = u.takeStatus n (plantReportOf n p)
  arbiter : t.arbiter = v.arbiter
  command : t.command = v.command
  links : t.links = v.links
  events : t.events = v.events
  slot : follows s.plant.slot t.plant.slot
  short : p.length < 14 → u.relay = s.relay ∧ t.relay = v.relay
  rest : t = { s.elapse dt with
    plant := plantAfter s.plant (s.now + dt) (oneGood s.plant.counters) t.plant.slot
    arbiter := t.arbiter
    command := t.command
    links := t.links
    relay := t.relay
    events := t.events }

theorem HearsPlant.status (h : HearsPlant s dt b w cls p) (hexp : w.expects = .status) :
    ∃ u v t, exec (.plantStatus dt b) s = .next t ∧ TakesStatus s dt w.node p u v t := by
  obtain ⟨r, r', hreply, hshort⟩ := State.plantReply_status (afterAnswer s dt s.relay) p b.relayFirst hexp
  obtain ⟨y, hy, hplant⟩ := ((afterAnswer s dt s.relay).plantReply w p b.relayFirst).endSlot_plant
  have hnow : (afterAnswer s dt s.relay).now = s.now + dt := rfl
  have hport : (afterAnswer s dt s.relay).plant = { s.plant with wait := none, counters := oneGood s.plant.counters } := rfl
  have hslot : (((afterAnswer s dt s.relay).plantReply w p b.relayFirst).endSlot).plant =
      plantAfter s.plant (s.now + dt) (oneGood s.plant.counters) y := by
    rw [hplant]
    simp only [State.plantReply_frame, hnow, hport, plantAfter]
  refine ⟨afterAnswer s dt r, (afterAnswer s dt r).takeStatus w.node (plantReportOf w.node p),
    ((afterAnswer s dt s.relay).plantReply w p b.relayFirst).endSlot, congrArg Host.Outcome.next h.receive, ?_⟩
  refine ⟨rfl, rfl, ?_, ?_, ?_, ?_, ?_, ?_, ?_⟩
  · simp only [State.endSlot_frame, hreply]; rfl
  · simp only [State.endSlot_frame, hreply]; rfl
  · simp only [State.endSlot_frame, hreply]; rfl
  · simp only [State.endSlot_frame, hreply]; rfl
  · rw [hslot]
    have hfollows : follows s.plant.slot y := by simpa only [State.plantReply_frame, hport] using hy
    exact hfollows
  · intro hp
    obtain ⟨hr, hr'⟩ := hshort hp
    exact ⟨hr, by simp only [State.endSlot_frame, hreply]; exact hr'⟩
  · ext1
    case plant => rw [hslot]; rfl
    all_goals simp [afterAnswer]

end Sys2Proof.Machine
end

section
/-! PROOF. A PLANT STATUS as its link takes it (R147): the node state recorded and told to the house, the fault code, the annex item, and
what follows of them in the link alone. -/

namespace Sys2Proof.Machine

theorem PerNode.set_get {α : Type} (p : PerNode α) (n : Node) : p.set n (p.get n) = p := by
  cases n <;> rfl

theorem PerNode.set_set {α : Type} (p : PerNode α) (n : Node) (x y : α) : (p.set n x).set n y = p.set n y := by
  cases n <;> rfl

theorem State.setLink_self (s : State) (n : Node) : s.setLink n (s.link n) = s :=
  congrArg (fun ls => { s with links := ls }) (PerNode.set_get s.links n)

theorem State.setLink_setLink (s : State) (n : Node) (l l' : Link) : (s.setLink n l).setLink n l' = s.setLink n l' :=
  congrArg (fun ls => { s with links := ls }) (PerNode.set_set s.links n l l')

/-- A state of a link that is set without a word to the relay (R165). -/
theorem State.setLinkState_quiet {s : State} {n : Node} {st : LinkState}
    (h : (s.link n).state.reachable = false ∨ st.reachable = true) :
    s.setLinkState n st = s.setLink n { s.link n with state := st } := by
  have hno : ¬((s.link n).state.reachable && !st.reachable) = true := by rcases h with h | h <;> simp [h]
  simp only [State.setLinkState, if_neg hno]

/-! ### Writes that turn no node on or off (R53, R138) -/

/-- A write that turns no node on or off is a write and no more. -/
theorem State.writeCommand_quiet {s : State} {c : Command} (air : c.airOn = s.command.airOn)
    (out : c.outMode = s.command.outMode) : s.writeCommand c = { s with command := c } := by
  have hout : c.outOn = s.command.outOn := by simp only [Command.outOn, out]
  have hrec : s.recorded c = { s with command := c } := by simp [State.recorded, out, State.setArbiter]
  rw [State.writeCommand_eq, hrec, air, hout, State.watchMode_same, State.watchMode_same]

/-- The outdoor link hears nothing of a write that keeps the outdoor mode. -/
theorem State.writeCommand_link_outdoor {s : State} {c : Command} (out : c.outMode = s.command.outMode) :
    (s.writeCommand c).link .outdoorUnit = s.link .outdoorUnit := by
  have hout : c.outOn = s.command.outOn := by simp only [Command.outOn, out]
  rw [State.writeCommand_eq, hout, State.watchMode_same, State.watchMode_link_other _ _ _ (by decide)]
  exact State.link_congr (State.recorded_links s c) _

/-- The link of a node that was commanded OFF and is commanded OFF again hears nothing. -/
theorem State.writeCommand_link_off {s : State} {c : Command} {n : Node} (off : s.commandedOn n = false)
    (off' : ({ s with command := c } : State).commandedOn n = false) : (s.writeCommand c).link n = s.link n := by
  have hrec : (s.recorded c).link n = s.link n := State.link_congr (State.recorded_links s c) _
  cases n with
  | airHandler =>
    have ha : s.command.airOn = false := off
    have ha' : c.airOn = false := off'
    rw [State.writeCommand_eq, State.watchMode_link_other _ _ _ (by decide), ha, ha', State.watchMode_same, hrec]
  | outdoorUnit =>
    have ho : s.command.outOn = false := off
    have ho' : c.outOn = false := off'
    rw [State.writeCommand_eq, ho, ho', State.watchMode_same, State.watchMode_link_other _ _ _ (by decide), hrec]

section
variable {s : State}

/-- HEAT turns to DEFROST with the airflow at Qmin; neither node is turned on or off (R44). -/
theorem State.enterDefrost_eq {lo hi : Nat} (hair : s.command.airMode = .heat) (hlimits : s.airLimits = some (lo, hi))
    (hheat : s.house = .heat) :
    s.enterDefrost =
      { s with
        command := { s.command with airflow := lo, reheat := false, coldBlow := true }
        arbiter := { s.arbiter with
          house := .defrost
          hold := false
          remembered := some s.command.airflow
          defrostDue := some (s.now + sec 900) } } := by
  have hcommand : ({ s.command with airMode := .heat, airflow := lo, reheat := false, coldBlow := true } : Command) =
      { s.command with airflow := lo, reheat := false, coldBlow := true } := by rw [← hair]
  have hhouse : s.arbiter.house ≠ .defrost := by
    intro hd
    exact absurd (hheat.symm.trans hd) (by decide)
  have hwrite : s.writeCommand { s.command with airflow := lo, reheat := false, coldBlow := true } =
      { s with command := { s.command with airflow := lo, reheat := false, coldBlow := true } } :=
    State.writeCommand_quiet rfl rfl
  simp only [State.enterDefrost, hlimits, hcommand, hwrite, State.enterHouse, State.setArbiter, if_neg hhouse]
  rfl

/-- The airflow with which a house returns from DEFROST (R45). -/
def State.returnFlow (s : State) : Nat :=
  match s.arbiter.remembered with
  | some q => s.clampAirflow q
  | none => s.command.airflow

theorem State.returnFlow_remembered {f lo hi : Nat} (hf : s.arbiter.remembered = some f) (hlimits : s.airLimits = some (lo, hi)) :
    s.returnFlow = max lo (min hi f) := by
  simp [State.returnFlow, hf, State.clampAirflow, hlimits, clampNat]

/-- DEFROST turns back to HEAT with the remembered airflow; neither node is turned on or off (R45). -/
theorem State.leaveDefrost_eq (hdefrost : s.house = .defrost) :
    s.leaveDefrost =
      { s with
        command := { s.command with airflow := s.returnFlow, coldBlow := false }
        arbiter := { s.arbiter with house := .heat, hold := false, remembered := none, defrostDue := none } } := by
  have hhouse : s.arbiter.house ≠ .heat := by
    intro hh
    exact absurd (hdefrost.symm.trans hh) (by decide)
  have hwrite : ∀ q, s.writeCommand { s.command with airflow := q, coldBlow := false } =
      { s with command := { s.command with airflow := q, coldBlow := false } } :=
    fun q => State.writeCommand_quiet rfl rfl
  simp only [State.leaveDefrost, hwrite, State.enterHouse, State.setArbiter, if_neg hhouse]
  rfl

/-- What the outdoor unit reports turns neither the outdoor unit on or off nor its link (R44, R45). -/
theorem State.outdoorReported_outdoor (st : NodeState) :
    (s.outdoorReported st).link .outdoorUnit = s.link .outdoorUnit
      ∧ (s.outdoorReported st).command.outMode = s.command.outMode := by
  have hwrite : ∀ (c : Command) (h : HouseState) (f : Arbiter → Arbiter), c.outMode = s.command.outMode →
      (((s.writeCommand c).enterHouse h).setArbiter (f ((s.writeCommand c).enterHouse h).arbiter)).link .outdoorUnit =
        s.link .outdoorUnit
      ∧ (((s.writeCommand c).enterHouse h).setArbiter (f ((s.writeCommand c).enterHouse h).arbiter)).command.outMode =
        s.command.outMode := fun c h f hc =>
    ⟨(State.link_congr (by simp) _).trans (State.writeCommand_link_outdoor hc), by simp [hc]⟩
  unfold State.outdoorReported
  split
  · split
    · exact hwrite { s.command with airMode := .heat, airflow := _, reheat := false, coldBlow := true } .defrost
        (fun a => { a with remembered := some s.command.airflow, defrostDue := _ }) rfl
    · exact ⟨rfl, rfl⟩
  · split
    · exact hwrite { s.command with airflow := _, coldBlow := false } .heat
        (fun a => { a with remembered := none, defrostDue := none }) rfl
    · exact ⟨rfl, rfl⟩
  all_goals exact ⟨rfl, rfl⟩

end

/-! ### The node state is recorded (R148, R150) -/

/-- What the house makes of a node state that its node reported and can run on with. -/
def State.told (s : State) (n : Node) (st : Option NodeState) : State :=
  match n, st with
  | .outdoorUnit, some st => s.outdoorReported st
  | .outdoorUnit, none => s
  | .airHandler, _ => s

section
variable {s : State} {n : Node}

theorem State.told_link (st : Option NodeState) : (s.told n st).link n = s.link n := by
  cases n with
  | airHandler => rfl
  | outdoorUnit =>
    cases st with
    | none => rfl
    | some st => exact (State.outdoorReported_outdoor st).1

theorem State.told_commandedOn (st : Option NodeState) : (s.told n st).commandedOn n = s.commandedOn n := by
  cases n with
  | airHandler => rfl
  | outdoorUnit =>
    cases st with
    | none => rfl
    | some st => simp only [State.told, State.commandedOn, Command.outOn, (State.outdoorReported_outdoor st).2]

/-- A house without a running compressor has nothing to do with what the outdoor unit reports (R44, R45). -/
theorem State.told_idle (h : s.house.compressor = false) (st : Option NodeState) : s.told n st = s := by
  have hheat : s.house ≠ .heat := by rintro he; rw [he] at h; exact absurd h (by decide)
  have hdefrost : s.house ≠ .defrost := by rintro he; rw [he] at h; exact absurd h (by decide)
  cases n with
  | airHandler => rfl
  | outdoorUnit =>
    cases st with
    | none => rfl
    | some st => cases st <;> simp [State.told, State.outdoorReported, hheat, hdefrost]

/-- A node that reports another node state than LOCKED stays available (R33). -/
theorem Link.available_unlocked {l : Link} {st : NodeState} (h : l.available = true) (hst : st ≠ .locked) :
    ({ l with nodeState := some st } : Link).available = true := by
  obtain ⟨hbound, -⟩ := (Bool.and_eq_true _ _).mp h
  exact (Bool.and_eq_true _ _).mpr ⟨hbound, by simp [Link.isLocked, hst]⟩

/-- A node that stays available, or was not, is told to the house by its node state alone (R150). -/
theorem State.nodeTaken_eq {x : Status} (h : (s.statusHeard n x.nodeState).available n = true → x.nodeState ≠ some .locked) :
    s.nodeTaken n x =
      ((s.statusHeard n x.nodeState).setLink n
        { (s.statusHeard n x.nodeState).link n with
          nodeState := x.nodeState.or ((s.statusHeard n x.nodeState).link n).nodeState }).told n x.nodeState := by
  generalize hu : s.statusHeard n x.nodeState = u at h ⊢
  cases hx : x.nodeState with
  | none =>
    have hlink : ({ u.link n with nodeState := (none : Option NodeState).or (u.link n).nodeState } : Link) = u.link n := rfl
    have htaken : s.nodeTaken n x = u := by simp only [State.nodeTaken, hx, ← hu]
    rw [hlink, State.setLink_self, htaken]
    cases n <;> rfl
  | some st =>
    have hstays : ¬(u.available n && !(u.setLink n { u.link n with nodeState := some st }).available n) = true := by
      intro hgone
      obtain ⟨hwas, hnow⟩ := (Bool.and_eq_true _ _).mp hgone
      have hst : st ≠ .locked := fun he => h hwas (by rw [hx, he])
      rw [State.available, State.link_setLink_same, Link.available_unlocked hwas hst] at hnow
      exact absurd hnow (by decide)
    simp only [State.nodeTaken, hx, ← hu] at hstays ⊢
    simp only [State.recordNodeState, if_neg hstays, Option.some_or]
    cases n <;> rfl

/-! ### The fault code is recorded (R149) -/

theorem State.recordFault_eq (code : Nat) :
    s.recordFault n code =
      { s.setLink n { s.link n with fault := some code } with
        events := if s.plantFaultHolds = false ∧ (s.setLink n { s.link n with fault := some code }).plantFaultHolds = true then
          afterRaise s.events .plantFault else s.events } := by
  simp only [State.recordFault]
  by_cases h : s.plantFaultHolds = false ∧ (s.setLink n { s.link n with fault := some code }).plantFaultHolds = true
  · rw [if_pos (by simpa using h), if_pos h]
    ext1 <;> simp
  · rw [if_neg (by simpa using h), if_neg h]
    ext1 <;> simp

/-- PLANT FAULT is a matter of the two fault codes alone (R149). -/
theorem State.plantFaultHolds_congr {t : State} (h : ∀ m, (t.link m).fault = (s.link m).fault) :
    t.plantFaultHolds = s.plantFaultHolds := by
  simp only [State.plantFaultHolds, h]

/-! ### The annex item is taken (R152, R153, R156) -/

/-- The link after an annex item, when no bound capability is compared with it. -/
def Link.annexed (l : Link) (n : Node) (x : Status) : Link :=
  match annexIndex x.slot with
  | none => l.annexUnknown
  | some k =>
    match annexValueOf n k x.d0 x.d1 x.d2 x.d3 with
    | none => l.annexRefused k
    | some v => l.annexTaken k v

theorem Link.withRun_same (l : Link) (run : Nat) :
    (l.withRun run).state = l.state ∧ (l.withRun run).nodeState = l.nodeState ∧ (l.withRun run).fault = l.fault
      ∧ (l.withRun run).cap = l.cap ∧ (l.withRun run).stopOpen = l.stopOpen ∧ (l.withRun run).stopCount = l.stopCount
      ∧ (l.withRun run).stopDue = l.stopDue ∧ (l.withRun run).bindDue = l.bindDue ∧ (l.withRun run).silenceDue = l.silenceDue
      ∧ (l.withRun run).lossDue = l.lossDue ∧ (l.withRun run).lost = l.lost := by
  unfold Link.withRun
  split <;> simp

/-- An annex item changes the annex, the expected slot, the run and the break count, and nothing else of the link. -/
theorem Link.annexTaken_same (l : Link) (k : Fin 5) (v : AnnexValue) :
    (l.annexTaken k v).state = l.state ∧ (l.annexTaken k v).nodeState = l.nodeState ∧ (l.annexTaken k v).fault = l.fault
      ∧ (l.annexTaken k v).cap = l.cap ∧ (l.annexTaken k v).stopOpen = l.stopOpen ∧ (l.annexTaken k v).stopCount = l.stopCount
      ∧ (l.annexTaken k v).stopDue = l.stopDue ∧ (l.annexTaken k v).bindDue = l.bindDue
      ∧ (l.annexTaken k v).silenceDue = l.silenceDue ∧ (l.annexTaken k v).lossDue = l.lossDue
      ∧ (l.annexTaken k v).lost = l.lost := by
  simp only [Link.annexTaken, Link.withRun_same]
  split <;> simp [Link.broken]

theorem Link.annexed_same (l : Link) (n : Node) (x : Status) :
    (l.annexed n x).state = l.state ∧ (l.annexed n x).nodeState = l.nodeState ∧ (l.annexed n x).fault = l.fault
      ∧ (l.annexed n x).cap = l.cap ∧ (l.annexed n x).stopOpen = l.stopOpen ∧ (l.annexed n x).stopCount = l.stopCount
      ∧ (l.annexed n x).stopDue = l.stopDue ∧ (l.annexed n x).bindDue = l.bindDue ∧ (l.annexed n x).silenceDue = l.silenceDue
      ∧ (l.annexed n x).lossDue = l.lossDue ∧ (l.annexed n x).lost = l.lost := by
  unfold Link.annexed
  split
  · simp only [Link.annexUnknown, Link.withRun_same]
    simp [Link.broken]
  · split
    · simp only [Link.annexRefused, Link.withRun_same]
      simp [Link.broken]
    · exact Link.annexTaken_same _ _ _

theorem Link.annexed_fault (l : Link) (n : Node) (x : Status) : (l.annexed n x).fault = l.fault := by
  obtain ⟨-, -, hfault, -⟩ := l.annexed_same n x
  exact hfault

theorem Link.annexed_state (l : Link) (n : Node) (x : Status) : (l.annexed n x).state = l.state := by
  obtain ⟨hstate, -⟩ := l.annexed_same n x
  exact hstate

/-- Slots 2 to 5 carry no capability (R151). -/
theorem annexValueOf_later {n : Node} {k : Fin 5} (hk : 1 ≤ k.val) (a b c d : Byte) :
    ∃ v, annexValueOf n k a b c d = some v ∧ v.capability? = none := by
  match k, hk with
  | 1, _ => exact ⟨_, rfl, rfl⟩
  | 2, _ => exact ⟨_, rfl, rfl⟩
  | 3, _ => exact ⟨_, rfl, rfl⟩
  | 4, _ => exact ⟨_, rfl, rfl⟩

theorem annexIndex_eq {x : Byte} {k : Fin 5} (h : x.toNat = k.val + 1) : annexIndex x = some k := by
  have hx : x = BitVec.ofNat 8 (k.val + 1) := BitVec.eq_of_toNat_eq (by rw [h, BitVec.toNat_ofNat]; omega)
  rw [hx]
  match k with
  | 0 => rfl
  | 1 => rfl
  | 2 => rfl
  | 3 => rfl
  | 4 => rfl

theorem annexIndex_first {x : Byte} (h : annexIndex x = some 0) : x = 1 := by
  unfold annexIndex at h
  split_ifs at h <;> simp_all

/-- With no capability bound, and for slots 2 to 5, nothing is compared (R156). -/
theorem State.takeAnnex_eq {x : Status} (h : x.slot ≠ 1 ∨ (s.link n).cap = none) :
    s.takeAnnex n x = s.setLink n ((s.link n).annexed n x) := by
  unfold State.takeAnnex Link.annexed
  cases hk : annexIndex x.slot with
  | none => rfl
  | some k =>
    cases hv : annexValueOf n k x.d0 x.d1 x.d2 x.d3 with
    | none => simp only [hv]
    | some v =>
      simp only [hv, State.compareCapability, State.link_setLink_same, Link.annexTaken_same]
      rcases h with hslot | hcap
      · have hpos : 1 ≤ k.val := by
          refine Nat.pos_of_ne_zero fun h0 => hslot (annexIndex_first ?_)
          have hzero : k = 0 := Fin.ext h0
          rw [hk, hzero]
        obtain ⟨v', hv', hno⟩ := annexValueOf_later (n := n) hpos x.d0 x.d1 x.d2 x.d3
        obtain rfl : v' = v := Option.some.inj (hv'.symm.trans hv)
        rw [hno]
        cases (s.link n).cap <;> rfl
      · rw [hcap]

/-! ### A report, up to its annex item -/

/-- The link of a node with a report's node state and fault code recorded. -/
def Link.recording (l : Link) (x : Status) : Link :=
  { l with nodeState := x.nodeState.or l.nodeState, fault := some x.fault }

/-- The first four steps of R147. -/
def State.reported (s : State) (n : Node) (x : Status) : State := ((s.nodeTaken n x).recordFault n x.fault).takeAnnex n x

theorem State.takeStatus_reported (x : Status) :
    s.takeStatus n x = (((s.reported n x).completeBinding n).activate n x.nodeState).stopOnIdle n x.nodeState := rfl

/-- What a report leaves of its link, when it neither takes the node away nor brings another capability. -/
theorem State.reported_link {x : Status} {l : Link} (heard : (s.statusHeard n x.nodeState).link n = l)
    (hlock : l.available = true → x.nodeState ≠ some .locked) (hcap : x.slot ≠ 1 ∨ l.cap = none) :
    (s.reported n x).link n = (l.recording x).annexed n x := by
  subst heard
  have hnode := State.nodeTaken_eq (s := s) (n := n) (x := x) hlock
  have hrec : ((s.nodeTaken n x).recordFault n x.fault).link n =
      ((s.statusHeard n x.nodeState).link n).recording x := by
    rw [State.recordFault_eq]
    refine (State.link_setLink_same _ _ _).trans ?_
    rw [hnode, State.told_link, State.link_setLink_same]
    rfl
  rw [State.reported, State.takeAnnex_eq (by rw [hrec]; exact hcap), hrec, State.link_setLink_same]

theorem State.commandedOn_congr {t : State} (h : t.command = s.command) (m : Node) : t.commandedOn m = s.commandedOn m := by
  cases m <;> simp only [State.commandedOn, h]

theorem State.reported_commandedOn {x : Status} {l : Link} (heard : (s.statusHeard n x.nodeState).link n = l)
    (hlock : l.available = true → x.nodeState ≠ some .locked) (hcap : x.slot ≠ 1 ∨ l.cap = none) :
    (s.reported n x).commandedOn n = s.commandedOn n := by
  subst heard
  have hrec : (((s.nodeTaken n x).recordFault n x.fault).link n).cap = ((s.statusHeard n x.nodeState).link n).cap := by
    rw [State.recordFault_eq]
    refine (congrArg Link.cap (State.link_setLink_same _ _ _)).trans ?_
    rw [State.nodeTaken_eq hlock, State.told_link, State.link_setLink_same]
  have htaken : (s.reported n x).commandedOn n = (s.nodeTaken n x).commandedOn n := by
    rw [State.reported, State.takeAnnex_eq (by rw [hrec]; exact hcap)]
    exact State.commandedOn_congr (by simp) n
  rw [htaken, State.nodeTaken_eq hlock, State.told_commandedOn]
  exact State.commandedOn_congr (by simp) n

end

end Sys2Proof.Machine
end

section
/-! PROOF. What RUNNING and DEFROST do to a running link and to the house (R44, R45, R142, R147 to R152). -/

namespace Sys2Proof.Machine

section
variable {s : State} {n : Node} {x : Status}

/-- A report that neither takes the node away nor brings another capability: its link, the fault event, and what the house made of
the node state. -/
theorem State.reported_eq {l : Link} {c : Command} {a : Arbiter} (heard : (s.statusHeard n x.nodeState).link n = l)
    (hlock : l.available = true → x.nodeState ≠ some .locked) (hcap : x.slot ≠ 1 ∨ l.cap = none)
    (htold : ∀ v : State, v = (s.statusHeard n x.nodeState).setLink n { l with nodeState := x.nodeState.or l.nodeState } →
      v.told n x.nodeState = { v with command := c, arbiter := a }) :
    ∃ e, s.reported n x =
        { (s.statusHeard n x.nodeState).setLink n ((l.recording x).annexed n x) with command := c, arbiter := a, events := e }
      ∧ e = if (s.statusHeard n x.nodeState).plantFaultHolds = false ∧ (s.reported n x).plantFaultHolds = true then
          afterRaise (s.statusHeard n x.nodeState).events .plantFault else (s.statusHeard n x.nodeState).events := by
  subst heard
  set u := s.statusHeard n x.nodeState with hu
  have hnode : s.nodeTaken n x =
      { u.setLink n { u.link n with nodeState := x.nodeState.or (u.link n).nodeState } with command := c, arbiter := a } := by
    rw [State.nodeTaken_eq hlock, htold _ rfl]
  have hnodelink : (s.nodeTaken n x).link n = { u.link n with nodeState := x.nodeState.or (u.link n).nodeState } := by
    rw [hnode]
    exact State.link_setLink_same u n _
  have hreclink : ((s.nodeTaken n x).recordFault n x.fault).link n = (u.link n).recording x := by
    rw [State.recordFault_eq]
    refine (State.link_setLink_same _ _ _).trans ?_
    rw [hnodelink]
    rfl
  have hrep : s.reported n x =
      ((s.nodeTaken n x).recordFault n x.fault).setLink n (((u.link n).recording x).annexed n x) := by
    rw [State.reported, State.takeAnnex_eq (by rw [hreclink]; exact hcap), hreclink]
  have hheld : (s.nodeTaken n x).plantFaultHolds = u.plantFaultHolds := by
    refine State.plantFaultHolds_congr fun m => ?_
    by_cases hm : m = n
    · subst hm
      rw [hnodelink]
    · rw [hnode]
      exact congrArg Link.fault (State.link_setLink_other u _ hm)
  have hholds : (s.reported n x).plantFaultHolds =
      ((s.nodeTaken n x).setLink n { (s.nodeTaken n x).link n with fault := some x.fault }).plantFaultHolds := by
    refine State.plantFaultHolds_congr fun m => ?_
    by_cases hm : m = n
    · subst hm
      rw [hrep, State.link_setLink_same, State.link_setLink_same, Link.annexed_fault]
      rfl
    · rw [hrep, State.link_setLink_other _ _ hm, State.link_setLink_other _ _ hm, State.recordFault_eq]
      exact congrArg Link.fault (State.link_setLink_other _ _ hm)
  refine ⟨(s.reported n x).events, ?_, ?_⟩
  · rw [hrep, State.recordFault_eq, hnode]
    simp only [State.setLink, PerNode.set_set]
  · have hevents : (s.nodeTaken n x).events = u.events := by rw [hnode]; rfl
    rw [hholds, ← hheld, ← hevents, hrep, State.recordFault_eq]
    rfl

/-! ### The rest of R147 for a bound link -/

theorem State.completeBinding_bound (h : ¬((s.link n).state = .binding ∧ (s.link n).runLength = 5)) :
    s.completeBinding n = s := if_neg h

theorem State.activate_runs {st : Option NodeState} (hready : (s.link n).state = .ready) (hst : st = some .running)
    (hon : s.commandedOn n = true) : s.activate n st = s.setLink n { s.link n with state := .active } := by
  rw [State.activate, if_pos ⟨hready, hst, hon⟩]
  exact State.setLinkState_quiet (.inr rfl)

theorem State.activate_stays {st : Option NodeState}
    (h : ¬((s.link n).state = .ready ∧ st = some .running ∧ s.commandedOn n = true)) : s.activate n st = s := if_neg h

theorem State.stopOnIdle_stays {st : Option NodeState} (h : (s.link n).stopEndsOn st = false) : s.stopOnIdle n st = s :=
  if_neg (by rw [h]; decide)

theorem Link.stopEndsOn_other (l : Link) {st : Option NodeState} (h : st ≠ some .idle) : l.stopEndsOn st = false := by
  simp [Link.stopEndsOn, h]

/-- READY, ACTIVE and STOPPING restart their silence timer at a status (R144). -/
theorem State.statusHeard_running (st : Option NodeState)
    (h : (s.link n).state = .ready ∨ (s.link n).state = .active ∨ (s.link n).state = .stopping) :
    s.statusHeard n st = s.setLink n { s.link n with silenceDue := some (s.now + sec 3) } := by
  rcases h with h | h | h <;> simp only [State.statusHeard, h, State.after]

/-- A link out of BINDING keeps no run (R153). -/
theorem Link.annexTaken_bound {l : Link} (h : l.state ≠ .binding) (k : Fin 5) (v : AnnexValue) :
    l.annexTaken k v =
      { l with
        annex := put (agedBut l.annex k) k ⟨some v, 0⟩
        expected := some (k + 1)
        breaks := if l.expected = none ∨ l.expected = some k then l.breaks else satInc 65535 l.breaks } := by
  have hrun : ∀ (l' : Link) (r : Nat), l'.state ≠ .binding → l'.withRun r = l' := fun l' r h' => if_neg h'
  by_cases ho : l.expected = none ∨ l.expected = some k
  · have hord : l.inOrder k = true := by simpa [Link.inOrder] using ho
    simp only [Link.annexTaken, hord, if_true, if_pos ho]
    exact hrun _ _ h
  · have hord : l.inOrder k = false := by simpa [Link.inOrder] using ho
    simp only [Link.annexTaken, hord, if_neg ho]
    exact hrun _ _ h

theorem look_agedBut (v : Vector AnnexSlot 5) (k j : Fin 5) :
    look (agedBut v k) j = if j = k then look v j else { look v j with age := satInc 10 (look v j).age } := by
  rw [agedBut, look_tab]

theorem Link.annexed_eq {l : Link} {k : Fin 5} {v : AnnexValue} (hslot : x.slot.toNat = k.val + 1)
    (hv : annexValueOf n k x.d0 x.d1 x.d2 x.d3 = some v) : l.annexed n x = l.annexTaken k v := by
  simp only [Link.annexed, annexIndex_eq hslot, hv]

/-- The link of a running node after a report of RUNNING or DEFROST with an annex item of slot `k` (R142, R147, R152). -/
def Link.reporting (l : Link) (state : LinkState) (st : NodeState) (fault : Nat) (due : Time) (k : Fin 5) (v : AnnexValue) : Link :=
  { l with
    state := state
    nodeState := some st
    fault := some fault
    silenceDue := some due
    annex := put (agedBut l.annex k) k ⟨some v, 0⟩
    expected := some (k + 1)
    breaks := if l.expected = none ∨ l.expected = some k then l.breaks else satInc 65535 l.breaks }

/-- A READY or ACTIVE link takes a report that is neither IDLE nor LOCKED with an annex item of a later slot; `c` and `a` are what
the house makes of it. -/
theorem State.takeStatus_running {st : NodeState} {k : Fin 5} {v : AnnexValue} {c : Command} {a : Arbiter}
    (hstate : (s.link n).state = .ready ∨ (s.link n).state = .active) (hst : x.nodeState = some st) (hidle : st ≠ .idle)
    (hlock : st ≠ .locked) (hslot : x.slot.toNat = k.val + 1) (hk : 1 ≤ k.val)
    (hv : annexValueOf n k x.d0 x.d1 x.d2 x.d3 = some v)
    (htold : ∀ l, (s.setLink n l).told n (some st) = { s.setLink n l with command := c, arbiter := a }) :
    ∃ e, s.takeStatus n x =
        { s.setLink n ((s.link n).reporting
            (if (s.link n).state = .ready ∧ st = .running ∧ s.commandedOn n = true then .active else (s.link n).state) st x.fault
            (s.now + sec 3) k v) with
          command := c, arbiter := a, events := e }
      ∧ e = if s.plantFaultHolds = false ∧ (s.takeStatus n x).plantFaultHolds = true then afterRaise s.events .plantFault
          else s.events := by
  have hheard : s.statusHeard n x.nodeState = s.setLink n { s.link n with silenceDue := some (s.now + sec 3) } :=
    State.statusHeard_running _ (by tauto)
  have hlink : (s.statusHeard n x.nodeState).link n = { s.link n with silenceDue := some (s.now + sec 3) } := by
    rw [hheard, State.link_setLink_same]
  have hcap : x.slot ≠ 1 := by
    rintro he
    rw [he] at hslot
    have hone : (1 : Byte).toNat = 1 := rfl
    omega
  have hunlocked : x.nodeState ≠ some .locked := by simp [hst, hlock]
  obtain ⟨e, hrep, he⟩ := State.reported_eq (c := c) (a := a) hlink (fun _ => hunlocked) (.inl hcap) fun v hv => by
    rw [hv, hheard, State.setLink_setLink, hst, htold]
  have hon := State.reported_commandedOn hlink (fun _ => hunlocked) (.inl hcap)
  have hitem : ((Link.recording { s.link n with silenceDue := some (s.now + sec 3) } x).annexed n x) =
      (s.link n).reporting (s.link n).state st x.fault (s.now + sec 3) k v := by
    have hbound : (s.link n).state ≠ .binding := by rcases hstate with h | h <;> simp [h]
    rw [Link.annexed_eq hslot hv, Link.annexTaken_bound (by exact hbound)]
    simp only [Link.recording, Link.reporting, hst, Option.some_or]
  have hheld : (s.statusHeard n x.nodeState).plantFaultHolds = s.plantFaultHolds := by
    refine State.plantFaultHolds_congr fun m => ?_
    by_cases hm : m = n
    · subst hm
      rw [hlink]
    · rw [hheard, State.link_setLink_other _ _ hm]
  have hevents : (s.statusHeard n x.nodeState).events = s.events := by rw [hheard]; rfl
  rw [hitem, hheard, State.setLink_setLink] at hrep
  rw [hheld, hevents] at he
  have hreplink : (s.reported n x).link n = (s.link n).reporting (s.link n).state st x.fault (s.now + sec 3) k v := by
    rw [hrep]
    exact State.link_setLink_same _ _ _
  have hbinding : (s.reported n x).completeBinding n = s.reported n x := by
    refine State.completeBinding_bound ?_
    rw [hreplink]
    rintro ⟨hb, -⟩
    rcases hstate with h | h <;> simp [Link.reporting, h] at hb
  have hstop : ∀ u : State, u.stopOnIdle n x.nodeState = u := fun u =>
    State.stopOnIdle_stays (Link.stopEndsOn_other _ (by simp [hst, hidle]))
  rw [State.takeStatus_reported, hbinding, hstop]
  by_cases ha : (s.link n).state = .ready ∧ st = .running ∧ s.commandedOn n = true
  · obtain ⟨hready, hrunning, hcommanded⟩ := ha
    have hact : (s.reported n x).activate n x.nodeState =
        (s.reported n x).setLink n { (s.reported n x).link n with state := .active } :=
      State.activate_runs (by rw [hreplink]; exact hready) (by rw [hst, hrunning]) (by rw [hon]; exact hcommanded)
    have hfault : ((s.reported n x).activate n x.nodeState).plantFaultHolds = (s.reported n x).plantFaultHolds := by
      refine State.plantFaultHolds_congr fun m => ?_
      by_cases hm : m = n
      · subst hm
        rw [hact, State.link_setLink_same]
      · rw [hact, State.link_setLink_other _ _ hm]
    refine ⟨e, ?_, by rw [hfault]; exact he⟩
    rw [hact, hreplink, hrep, if_pos ⟨hready, hrunning, hcommanded⟩]
    simp only [State.setLink, PerNode.set_set]
    rfl
  · have hact : (s.reported n x).activate n x.nodeState = s.reported n x := by
      refine State.activate_stays ?_
      rw [hreplink, hst, hon]
      simpa [Link.reporting] using ha
    rw [hact, if_neg ha]
    exact ⟨e, hrep, he⟩

end

end Sys2Proof.Machine
end

section
/-! PROOF. The house as a status leaves it, and the obligation on RUNNING and DEFROST (R44, R45, R142). -/

namespace Sys2Proof.Machine

section
variable {s : State}

/-- RUNNING ends a DEFROST of the outdoor unit, and is nothing else to the house (R45). -/
theorem State.told_running (s : State) (n : Node) : ∃ c a,
    (∀ l, (s.setLink n l).told n (some .running) = { s.setLink n l with command := c, arbiter := a })
      ∧ (s.house = .defrost → n = .outdoorUnit → c = { s.command with airflow := s.returnFlow, coldBlow := false }
        ∧ a = { s.arbiter with house := .heat, hold := false, remembered := none, defrostDue := none })
      ∧ (s.house ≠ .defrost ∨ n = .airHandler → a = s.arbiter ∧ c = s.command) := by
  cases n with
  | airHandler =>
    exact ⟨s.command, s.arbiter, fun _ => rfl, fun _ h => absurd h (by decide), fun _ => ⟨rfl, rfl⟩⟩
  | outdoorUnit =>
    by_cases hd : s.house = .defrost
    · refine ⟨_, _, fun l => ?_, fun _ _ => ⟨rfl, rfl⟩, fun h => ?_⟩
      · exact (if_pos hd).trans (State.leaveDefrost_eq (s := s.setLink .outdoorUnit l) hd)
      · rcases h with h | h
        · exact absurd hd h
        · exact absurd h (by decide)
    · exact ⟨s.command, s.arbiter, fun l => if_neg hd, fun h => absurd h hd, fun _ => ⟨rfl, rfl⟩⟩

/-- DEFROST of the outdoor unit turns HEAT to DEFROST, and is nothing else to the house (R44). -/
theorem State.told_defrost {lo hi : Nat} (hair : s.house = .heat → s.command.airMode = .heat)
    (hlimits : s.airLimits = some (lo, hi)) : ∃ c a,
    (∀ l, (s.setLink .outdoorUnit l).told .outdoorUnit (some .defrost) =
      { s.setLink .outdoorUnit l with command := c, arbiter := a })
      ∧ (s.house = .heat → c = { s.command with airflow := lo, reheat := false, coldBlow := true }
        ∧ a = { s.arbiter with
            house := .defrost
            hold := false
            remembered := some s.command.airflow
            defrostDue := some (s.now + sec 900) })
      ∧ (s.house ≠ .heat → a = s.arbiter ∧ c = s.command) := by
  by_cases hh : s.house = .heat
  · refine ⟨_, _, fun l => ?_, fun _ => ⟨rfl, rfl⟩, fun h => absurd hh h⟩
    exact (if_pos hh).trans (State.enterDefrost_eq (s := s.setLink .outdoorUnit l) (hair hh) hlimits hh)
  · exact ⟨s.command, s.arbiter, fun l => if_neg hh, fun h => absurd h hh, fun _ => ⟨rfl, rfl⟩⟩

end

section
variable {s u v t : State} {dt : Nat} {n : Node} {p : List Byte}

/-- Before its contents are acted on, a status has changed the port and the relay alone. -/
structure HeardAs (s : State) (dt : Nat) (u : State) : Prop where
  now : u.now = s.now + dt
  arbiter : u.arbiter = s.arbiter
  command : u.command = s.command
  links : u.links = s.links
  decoder : u.decoder = s.decoder
  events : u.events = s.events

theorem TakesStatus.heard (T : TakesStatus s dt n p u v t) : HeardAs s dt u := by
  rw [T.before]
  exact ⟨rfl, rfl, rfl, rfl, rfl, rfl⟩

theorem HeardAs.link (H : HeardAs s dt u) (m : Node) : u.link m = s.link m := State.link_congr H.links m

theorem HeardAs.house (H : HeardAs s dt u) : u.house = s.house := State.house_congr H.arbiter

theorem HeardAs.commandedOn (H : HeardAs s dt u) (m : Node) : u.commandedOn m = s.commandedOn m :=
  State.commandedOn_congr H.command m

theorem HeardAs.airLimits (H : HeardAs s dt u) : u.airLimits = s.airLimits := by
  simp only [State.airLimits, H.link]

theorem HeardAs.plantFaultHolds (H : HeardAs s dt u) : u.plantFaultHolds = s.plantFaultHolds :=
  State.plantFaultHolds_congr fun m => by rw [H.link]

theorem TakesStatus.link (T : TakesStatus s dt n p u v t) (m : Node) : t.link m = v.link m := State.link_congr T.links m

theorem TakesStatus.plantFaultHolds (T : TakesStatus s dt n p u v t) : t.plantFaultHolds = v.plantFaultHolds :=
  State.plantFaultHolds_congr fun m => by rw [T.link]

end

/-- Settles O41: both reports go through the same steps of the link; RUNNING may end a DEFROST, and DEFROST a HEAT. -/
theorem runningAndDefrostAreTaken : Obligations.RunningAndDefrostAreTaken := by
  refine ⟨?_, ?_⟩
  · intro s dt b w cls p k v h hexp hready hon hbyte hslot hk hv l
    obtain ⟨u, ut, t, hexec, T⟩ := h.status hexp
    have H := T.heard
    have hst : (plantReportOf w.node p).nodeState = some .running := by
      simp only [plantReportOf, hbyte]
      cases w.node <;> rfl
    obtain ⟨c, a, htold, hback, hkeep⟩ := State.told_running u w.node
    obtain ⟨e, htaken, he⟩ := State.takeStatus_running (.inl (by rw [H.link, hready])) hst (by decide) (by decide) hslot hk hv htold
    rw [if_pos ⟨by rw [H.link, hready], rfl, by rw [H.commandedOn, hon]⟩, H.link, H.now] at htaken
    rw [← T.taken] at htaken he
    have hlink : t.link w.node =
        l.reporting .active .running (nat16 (byteAt p 1) (byteAt p 2)) (s.now + dt + sec 3) k v := by
      rw [T.link, htaken]
      exact State.link_setLink_same u _ _
    have harb : t.arbiter = a := by rw [T.arbiter, htaken]
    have hcom : t.command = c := by rw [T.command, htaken]
    refine ⟨t, hexec, ?_, ?_, ?_, ?_, T.slot, ?_, ?_⟩
    · rw [hlink]
      rfl
    · intro j
      rw [hlink]
      simp only [Link.reporting, look_put]
      split
      · rfl
      · next hj => rw [look_agedBut, if_neg hj]
    · intro hd hn
      obtain ⟨hc, ha⟩ := hback (by rw [H.house, hd]) hn
      rw [H.command] at hc
      rw [H.arbiter] at ha
      refine ⟨by rw [State.house, harb, ha], by rw [hcom, hc], ?_, by rw [harb, ha]⟩
      intro f lo hi hf hlimits
      rw [hcom, hc]
      exact State.returnFlow_remembered (by rw [H.arbiter, hf]) (by rw [H.airLimits, hlimits])
    · intro hno
      obtain ⟨ha, hc⟩ := hkeep (by rwa [H.house])
      exact ⟨by rw [harb, ha, H.arbiter], by rw [hcom, hc, H.command]⟩
    · intro hp
      obtain ⟨hu, ht⟩ := T.short hp
      rw [ht, htaken]
      exact hu
    · have hlinks : t.links = s.links.set w.node (t.link w.node) := by
        rw [hlink, T.links, htaken]
        exact congrArg (fun ls => PerNode.set ls w.node _) H.links
      have hevents : t.events =
          if s.plantFaultHolds = false ∧ t.plantFaultHolds = true then afterRaise s.events .plantFault else s.events := by
        rw [H.plantFaultHolds, H.events, ← T.plantFaultHolds] at he
        rw [T.events, htaken]
        exact he
      rw [← hlinks, ← hevents]
      exact T.rest
  · intro s dt b w cls p lo hi h hexp hnode hholds hstate hbyte hslot1 hslot5 hlimits
    obtain ⟨u, ut, t, hexec, T⟩ := h.status hexp
    have H := T.heard
    rw [hnode] at T
    have hst : (plantReportOf .outdoorUnit p).nodeState = some .defrost := by
      simp only [plantReportOf, hbyte]
      rfl
    obtain ⟨k, hk⟩ : ∃ k : Fin 5, (byteAt p 3).toNat = k.val + 1 := ⟨⟨(byteAt p 3).toNat - 1, by omega⟩, by simp; omega⟩
    obtain ⟨v, hv, -⟩ := annexValueOf_later (n := .outdoorUnit) (k := k) (by omega) (byteAt p 4) (byteAt p 5) (byteAt p 6)
      (byteAt p 7)
    have hair : u.house = .heat → u.command.airMode = .heat := by
      rw [H.house, H.command]
      intro hheat
      have hfits := hholds.airMode
      simpa [airModeFits, hheat, HouseState.airMode] using hfits
    obtain ⟨c, a, htold, hturn, hkeep⟩ := State.told_defrost hair (by rw [H.airLimits, hlimits])
    obtain ⟨e, htaken, he⟩ := State.takeStatus_running (by rwa [H.link]) hst (by decide) (by decide) hk (by omega) hv htold
    rw [if_neg (by simp), H.link, H.now] at htaken
    rw [← T.taken] at htaken
    have hlink : t.link .outdoorUnit = (s.link .outdoorUnit).reporting (s.link .outdoorUnit).state .defrost
        (nat16 (byteAt p 1) (byteAt p 2)) (s.now + dt + sec 3) k v := by
      rw [T.link, htaken]
      rfl
    have harb : t.arbiter = a := by rw [T.arbiter, htaken]
    have hcom : t.command = c := by rw [T.command, htaken]
    refine ⟨t, hexec, by rw [hlink]; rfl, by rw [hlink]; rfl, ?_, ?_, ?_⟩
    · intro hheat
      obtain ⟨hc, ha⟩ := hturn (by rw [H.house, hheat])
      rw [H.command] at hc ha
      rw [H.arbiter, H.now] at ha
      exact ⟨by rw [hcom, hc], by rw [harb, ha]⟩
    · intro hno
      obtain ⟨ha, hc⟩ := hkeep (by rwa [H.house])
      exact ⟨by rw [harb, ha, H.arbiter], by rw [hcom, hc, H.command]⟩
    · have hlinks : t.links = s.links.set .outdoorUnit (t.link .outdoorUnit) := by
        rw [hlink, T.links, htaken]
        exact congrArg (fun ls => PerNode.set ls .outdoorUnit _) H.links
      rw [← hlinks]
      exact T.rest

end Sys2Proof.Machine
end

section
/-! PROOF. The first status of a node that was DOWN, and the one that completes its binding (R117, R141, R153, R155). -/

namespace Sys2Proof.Machine

section
variable {s : State} {n : Node} {x : Status}

/-- A house without a running compressor makes nothing of a report: only the link and the fault event can move. -/
theorem State.reported_idle {l : Link} (heard : s.statusHeard n x.nodeState = s.setLink n l)
    (hstate : l.state = .binding) (hcap : l.cap = none) (hhouse : s.house.compressor = false) :
    ∃ e, s.reported n x = { s.setLink n ((l.recording x).annexed n x) with events := e }
      ∧ e = if (s.setLink n l).plantFaultHolds = false ∧ (s.reported n x).plantFaultHolds = true then
          afterRaise s.events .plantFault else s.events := by
  have hlink : (s.statusHeard n x.nodeState).link n = l := by rw [heard, State.link_setLink_same]
  have havail : l.available = true → x.nodeState ≠ some .locked := by simp [Link.available, hstate]
  obtain ⟨e, hrep, he⟩ := State.reported_eq (c := s.command) (a := s.arbiter) hlink havail (.inr hcap) fun v hv => by
    rw [heard] at hv
    subst hv
    rw [State.told_idle (by exact hhouse)]
    rfl
  rw [heard, State.setLink_setLink] at hrep
  rw [heard] at he
  exact ⟨e, hrep, he⟩

theorem State.plantFaultHolds_of_fault {c : Nat} (h : (s.link n).fault = some c) (hc : c ≠ 0) : s.plantFaultHolds = true := by
  cases n <;> simp [State.plantFaultHolds, h, hc]

/-- A code other than 0 raises PLANT FAULT unless its condition held already (R149). -/
theorem marked_of_fault {e : EventList} {held now : Bool} {old : EventList}
    (he : e = if held = false ∧ now = true then afterRaise old .plantFault else old) (hnow : now = true) :
    marked e.raised .plantFault = true ∨ held = true := by
  cases held with
  | true => exact .inr rfl
  | false =>
    rw [if_pos ⟨rfl, hnow⟩] at he
    rw [he]
    exact .inl (by simp [marked_afterRaise])

theorem Link.stopEndsOn_closed {l : Link} (h : l.stopOpen = false) (st : Option NodeState) : l.stopEndsOn st = false := by
  simp [Link.stopEndsOn, h]

/-! ### The first status (R141, R152, R153) -/

/-- A link that was DOWN, once a status is heard. -/
def Link.awakened (l : Link) (now : Time) : Link :=
  { l with state := .binding, bindDue := some (now + sec 30), stopOpen := false, stopCount := 0, stopDue := none }

theorem State.statusHeard_down (st : Option NodeState) (h : (s.link n).state = .down) :
    s.statusHeard n st = s.setLink n ((s.link n).awakened s.now) := by
  simp only [State.statusHeard, h]
  rw [State.setLinkState_quiet (.inl (by rw [State.link_setLink_same]; simp [LinkState.reachable])), State.link_setLink_same, State.setLink_setLink]
  rfl

/-- The binding run that a first item begins (R153). -/
theorem Link.annexed_firstRun {l : Link} (hstate : l.state = .binding) (hrun : l.runLength = 0) :
    (l.annexed n x).runLength = if x.slot = 1 ∧ (capabilityOf n x.d0 x.d1 x.d2).isSome then 1 else 0 := by
  have hwith : ∀ (l' : Link) (r : Nat), l'.state = .binding → (l'.withRun r).runLength = r := fun l' r h' => by
    simp [Link.withRun, h']
  unfold Link.annexed
  cases hk : annexIndex x.slot with
  | none =>
    have hslot : x.slot ≠ 1 := by rintro he; rw [he] at hk; exact absurd hk (by decide)
    simp only [Link.annexUnknown, hslot, false_and, if_false]
    exact hwith _ _ hstate
  | some k =>
    by_cases h0 : k = 0
    · subst h0
      rw [annexIndex_first hk]
      cases hc : capabilityOf n x.d0 x.d1 x.d2 with
      | none =>
        simp only [annexValueOf, hc, Option.map_none]
        exact hwith _ _ hstate
      | some c =>
        simp only [annexValueOf, hc, Option.map_some, Link.annexTaken]
        refine (hwith _ _ ?_).trans (by simp [runAfter])
        split <;> exact hstate
    · have hslot : x.slot ≠ 1 := by
        rintro he
        rw [he] at hk
        exact h0 (Option.some.inj hk).symm
      have hpos : k.val ≠ 0 := fun h => h0 (Fin.ext h)
      obtain ⟨v, hv, -⟩ := annexValueOf_later (n := n) (Nat.pos_of_ne_zero hpos) x.d0 x.d1 x.d2 x.d3
      simp only [hv, Link.annexTaken, hslot, false_and, if_false]
      refine (hwith _ _ ?_).trans ?_
      · split <;> exact hstate
      · simp [runAfter, hpos, hrun, Ne.symm hpos]

/-- The first status of a node whose link was DOWN moves its link, and raises PLANT FAULT; nothing else. -/
theorem State.takeStatus_down (hstate : (s.link n).state = .down) (hl : LinkHolds (s.link n)) (hhouse : s.house.compressor = false) :
    ∃ e, s.takeStatus n x =
        { s.setLink n ((((s.link n).awakened s.now).recording x).annexed n x) with events := e }
      ∧ (x.fault ≠ 0 → marked e.raised .plantFault = true ∨ s.plantFaultHolds = true) := by
  have hcap : (s.link n).cap = none := by
    have := hl.capability
    rw [hstate] at this
    exact Option.not_isSome_iff_eq_none.mp (by rw [this]; decide)
  obtain ⟨e, hrep, he⟩ := State.reported_idle (State.statusHeard_down x.nodeState hstate) rfl hcap hhouse
  set L := (((s.link n).awakened s.now).recording x).annexed n x with hL
  have hlink : (s.reported n x).link n = L := by
    rw [hrep]
    exact State.link_setLink_same s n L
  have hbinding : L.state = .binding := (Link.annexed_state _ _ _).trans rfl
  have hrun : L.runLength ≤ 1 := by
    have hfirst := Link.annexed_firstRun (l := ((s.link n).awakened s.now).recording x) (n := n) (x := x) rfl (hl.downRun hstate)
    rw [hL, hfirst]
    split <;> omega
  have hclosed : L.stopOpen = false := by
    obtain ⟨-, -, -, -, hopen, -⟩ := (((s.link n).awakened s.now).recording x).annexed_same n x
    exact hopen
  have hcomplete : (s.reported n x).completeBinding n = s.reported n x :=
    State.completeBinding_bound (by rw [hlink]; rintro ⟨-, h5⟩; omega)
  have hactivate : (s.reported n x).activate n x.nodeState = s.reported n x :=
    State.activate_stays (by rw [hlink, hbinding]; rintro ⟨h, -⟩; exact absurd h (by decide))
  have hstop : (s.reported n x).stopOnIdle n x.nodeState = s.reported n x :=
    State.stopOnIdle_stays (by rw [hlink]; exact Link.stopEndsOn_closed hclosed _)
  refine ⟨e, ?_, fun hfault => ?_⟩
  · rw [State.takeStatus_reported, hcomplete, hactivate, hstop, hrep]
  · have hnow : (s.reported n x).plantFaultHolds = true :=
      State.plantFaultHolds_of_fault (n := n) (c := x.fault) (by rw [hlink, hL, Link.annexed_fault]; rfl) hfault
    have hheld : (s.setLink n ((s.link n).awakened s.now)).plantFaultHolds = s.plantFaultHolds := by
      refine State.plantFaultHolds_congr fun m => ?_
      by_cases hm : m = n
      · subst hm
        rw [State.link_setLink_same]
        rfl
      · rw [State.link_setLink_other _ _ hm]
    rw [← hheld]
    exact marked_of_fault he hnow

/-! ### The status that completes the run (R141, R155) -/

/-- The review of SHED leaves the link of an outdoor unit that is not commanded to run. -/
theorem State.reviewShed_off (off : s.commandedOn .outdoorUnit = false) :
    s.reviewShed.link .outdoorUnit = s.link .outdoorUnit ∧ s.reviewShed.commandedOn .outdoorUnit = false := by
  have hshed : s.enterShed.link .outdoorUnit = s.link .outdoorUnit := by
    refine (State.link_congr (by simp [State.enterShed_eq]) _).trans (State.writeCommand_link_off (c := s.shedCommand) off ?_)
    simp [State.commandedOn, Command.outOn, State.shedCommand_outMode]
  unfold State.reviewShed
  split_ifs
  · refine ⟨hshed, ?_⟩
    simp [State.commandedOn, Command.outOn, State.enterShed_command, State.shedCommand_outMode]
  · exact ⟨rfl, off⟩
  · refine ⟨(State.link_congr (by simp) _).trans (State.writeCommand_link_off (c := commandOff) off rfl), ?_⟩
    simp only [State.commandedOn, State.enterHouse_frame, State.writeCommand_command]
    rfl
  · exact ⟨rfl, off⟩

end

end Sys2Proof.Machine
end

section
/-! PROOF. Binding completes with the run's last item (R141, R155), and what the later steps of R147 do to a link alone (R138, R142,
R143, R145). -/

namespace Sys2Proof.Machine

section
variable {s : State} {n : Node} {x : Status}

/-- The fifth item keeps the capability of slot 1. -/
theorem Link.slot1_annexed (l : Link) (v : AnnexValue) :
    Link.slot1 { l with annex := put (agedBut l.annex 4) 4 ⟨some v, 0⟩ } = l.slot1 := by
  have hlook : look (put (agedBut l.annex 4) 4 ⟨some v, 0⟩) 0 = { look l.annex 0 with age := satInc 10 (look l.annex 0).age } := by
    rw [look_put_other _ _ _ _ (by decide), look_agedBut, if_neg (by decide)]
  simp only [Link.slot1, hlook]

/-- The fifth item of a run of four, in order (R153). -/
theorem Link.annexTaken_fifth {l : Link} (hstate : l.state = .binding) (hrun : l.runLength = 4) (hexp : l.expected = some 4)
    (v : AnnexValue) :
    l.annexTaken 4 v = { l with annex := put (agedBut l.annex 4) 4 ⟨some v, 0⟩, expected := some 0, runLength := 5 } := by
  have hord : l.inOrder 4 = true := by simp [Link.inOrder, hexp]
  have hafter : runAfter 4 4 true = 5 := rfl
  simp only [Link.annexTaken, hord, if_true, hrun, hafter]
  exact if_pos hstate

/-- A link whose binding completes (R141). -/
def Link.completed (l : Link) (now : Time) : Link :=
  { l with state := .ready, cap := l.slot1, bindDue := none, lost := false, silenceDue := some (now + sec 3) }

theorem State.completeBinding_run (hstate : (s.link n).state = .binding) (hrun : (s.link n).runLength = 5) :
    s.completeBinding n =
      match n with
      | .outdoorUnit => (s.setLink n ((s.link n).completed s.now)).reviewShed
      | .airHandler => s.setLink n ((s.link n).completed s.now) := by
  have hready : (s.setLink n
      { s.link n with cap := (s.link n).slot1, bindDue := none, lost := false, silenceDue := s.after (sec 3) }).setLinkState n
        .ready = s.setLink n ((s.link n).completed s.now) := by
    rw [State.setLinkState_quiet (.inr rfl), State.link_setLink_same, State.setLink_setLink]
    rfl
  unfold State.completeBinding
  rw [if_pos ⟨hstate, hrun⟩]
  simp only [hready]
  cases n <;> rfl

/-- Completion leaves the link of a node that is not commanded on, and its node not commanded on. -/
theorem State.completeBinding_off (hstate : (s.link n).state = .binding) (hrun : (s.link n).runLength = 5)
    (off : s.commandedOn n = false) :
    (s.completeBinding n).link n = (s.link n).completed s.now ∧ (s.completeBinding n).commandedOn n = false := by
  rw [State.completeBinding_run hstate hrun]
  cases n with
  | airHandler => exact ⟨State.link_setLink_same _ _ _, off⟩
  | outdoorUnit =>
    obtain ⟨hlink, hoff⟩ := State.reviewShed_off (s := s.setLink .outdoorUnit ((s.link .outdoorUnit).completed s.now)) off
    exact ⟨hlink.trans (State.link_setLink_same _ _ _), hoff⟩

/-- An outdoor unit bound with a Cmin above the cap brings SHED (R46, R155). -/
theorem State.completeBinding_sheds {c : Nat} {hp : Bool} (hstate : (s.link .outdoorUnit).state = .binding)
    (hrun : (s.link .outdoorUnit).runLength = 5) (hslot : (s.link .outdoorUnit).slot1 = some (.outdoor c hp)) (hcap : s.cap < c)
    (hu : s.house ≠ .uncommissioned) (hh : s.house ≠ .halt) : (s.completeBinding .outdoorUnit).house = .shed := by
  set y := s.setLink .outdoorUnit ((s.link .outdoorUnit).completed s.now) with hy
  have heq : s.completeBinding .outdoorUnit = y.reviewShed := State.completeBinding_run hstate hrun
  have hcmin : y.cmin = some c := by
    have hlink : (y.link .outdoorUnit).cap = some (.outdoor c hp) := by
      rw [hy, State.link_setLink_same]
      exact hslot
    simp only [State.cmin, hlink]
  have hcond : y.shedCondition = true := State.shedCondition_iff.mpr ⟨c, hcmin, hcap⟩
  rw [heq]
  by_cases hs : s.house = .shed
  · have hstay : y.reviewShed = y := by
      have hno : y.house.sheds = false := by
        have : y.house = .shed := hs
        rw [this]
        rfl
      simp [State.reviewShed, hcond, hno]
    rw [hstay]
    exact hs
  · rw [State.reviewShed_enters hcond ((HouseState.sheds_iff _).mpr ⟨hu, hh, hs⟩)]
    exact (State.enterShed_enters hs).house

theorem State.activate_house (st : Option NodeState) : (s.activate n st).house = s.house := State.house_congr (by simp)

theorem State.stopOnIdle_house (st : Option NodeState) : (s.stopOnIdle n st).house = s.house := State.house_congr (by simp)

/-- The status whose item of slot 5 completes the run (R141, R155). -/
theorem State.takeStatus_binds {v : AnnexValue} {a : Capability} (hstate : (s.link n).state = .binding)
    (hl : LinkHolds (s.link n)) (hhouse : s.house.compressor = false) (off : s.commandedOn n = false)
    (hrun : (s.link n).runLength = 4) (hexp : (s.link n).expected = some 4) (hslot : x.slot.toNat = 5)
    (hv : annexValueOf n 4 x.d0 x.d1 x.d2 x.d3 = some v) (ha : (s.link n).slot1 = some a) :
    (s.takeStatus n x).link n =
        { s.link n with
          state := .ready, lost := false, cap := some a, bindDue := none, silenceDue := some (s.now + sec 3)
          nodeState := x.nodeState.or (s.link n).nodeState
          fault := some x.fault, expected := some 0, runLength := 5
          annex := put (agedBut (s.link n).annex 4) 4 ⟨some v, 0⟩ }
      ∧ ∀ c hp, n = .outdoorUnit → a = .outdoor c hp → s.cap < c → s.house ≠ .uncommissioned → s.house ≠ .halt →
          (s.takeStatus n x).house = .shed := by
  have hcap : (s.link n).cap = none := by
    have := hl.capability
    rw [hstate] at this
    exact Option.not_isSome_iff_eq_none.mp (by rw [this]; decide)
  have hclosed : (s.link n).stopOpen = false := by
    by_contra h
    have := hl.stopBound (by simpa using h)
    rw [hstate] at this
    exact absurd this (by decide)
  have hheard : s.statusHeard n x.nodeState = s.setLink n (s.link n) := by
    rw [State.setLink_self]
    simp only [State.statusHeard, hstate]
  obtain ⟨e, hrep, -⟩ := State.reported_idle hheard hstate hcap hhouse
  set L : Link := { (s.link n).recording x with
    annex := put (agedBut (s.link n).annex 4) 4 ⟨some v, 0⟩, expected := some 0, runLength := 5 } with hL
  have hitem : ((s.link n).recording x).annexed n x = L := by
    rw [Link.annexed_eq (k := 4) hslot hv, Link.annexTaken_fifth (by exact hstate) (by exact hrun) (by exact hexp)]
    rfl
  have hlink : (s.reported n x).link n = L := by
    rw [hrep, hitem]
    exact State.link_setLink_same s n L
  have hnow : (s.reported n x).now = s.now := by rw [hrep]; rfl
  have hslot1 : L.slot1 = some a := (Link.slot1_annexed ((s.link n).recording x) v).trans ha
  have hroff : (s.reported n x).commandedOn n = false := by
    rw [hrep]
    exact (State.commandedOn_congr rfl n).trans off
  obtain ⟨hdone, hdoff⟩ := State.completeBinding_off (s := s.reported n x) (n := n) (by rw [hlink]; exact hstate) (by rw [hlink])
    hroff
  have hactivate : ((s.reported n x).completeBinding n).activate n x.nodeState = (s.reported n x).completeBinding n :=
    State.activate_stays (by rw [hdoff]; simp)
  have hstop : ((s.reported n x).completeBinding n).stopOnIdle n x.nodeState = (s.reported n x).completeBinding n :=
    State.stopOnIdle_stays (Link.stopEndsOn_closed (by rw [hdone, hlink]; exact hclosed) _)
  have htaken : s.takeStatus n x = (s.reported n x).completeBinding n := by
    rw [State.takeStatus_reported, hactivate, hstop]
  refine ⟨?_, ?_⟩
  · rw [htaken, hdone, hlink, hnow, Link.completed, hslot1]
    rfl
  · intro c hp hn hac hcap' hu hh
    rw [htaken]
    subst hn
    have hhouse' : (s.reported .outdoorUnit x).house = s.house := by rw [hrep]; rfl
    have hlevel : (s.reported .outdoorUnit x).cap = s.cap := by rw [hrep]; rfl
    exact State.completeBinding_sheds (c := c) (hp := hp) (by rw [hlink]; exact hstate) (by rw [hlink])
      (by rw [hlink, hslot1, hac]) (by rw [hlevel]; exact hcap') (by rw [hhouse']; exact hu) (by rw [hhouse']; exact hh)

/-! ### The last steps of R147 in the link alone (R138, R142, R143) -/

theorem State.activate_link (st : Option NodeState) :
    (s.activate n st).link n =
      if (s.link n).state = .ready ∧ st = some .running ∧ s.commandedOn n = true then { s.link n with state := .active }
      else s.link n := by
  unfold State.activate
  split
  · exact State.setLinkState_link_same _ _ _
  · rfl

theorem State.stopOnIdle_link (st : Option NodeState) :
    (s.stopOnIdle n st).link n =
      if (s.link n).stopEndsOn st = true then
        { s.link n with
          stopOpen := false, stopDue := none, state := if (s.link n).state = .stopping then .ready else (s.link n).state }
      else s.link n := by
  have hclose : (s.closeStop n).link n = { s.link n with stopOpen := false, stopDue := none } := State.link_setLink_same _ _ _
  unfold State.stopOnIdle
  split
  · simp only [hclose]
    split
    · rw [State.setLinkState_link_same, hclose]
    · exact hclose
  · rfl

end

end Sys2Proof.Machine
end

section
/-! PROOF. A status heard by a SILENT or STOPPING link (R138, R143, R145). -/

namespace Sys2Proof.Machine

/-! ### Node states by their codes (R147) -/

theorem reportedState_idle (n : Node) (b : Byte) : reportedState n b = some .idle ↔ b = 0 := by
  cases n <;> simp only [reportedState, nodeStateOf] <;> split_ifs <;> simp_all

theorem reportedState_running (n : Node) (b : Byte) : reportedState n b = some .running ↔ b = 2 := by
  cases n <;> simp only [reportedState, nodeStateOf] <;> split_ifs <;> simp_all

theorem reportedState_locked (n : Node) (b : Byte) : reportedState n b = some .locked ↔ b = 5 := by
  cases n <;> simp only [reportedState, nodeStateOf] <;> split_ifs <;> simp_all

section
variable {s : State} {n : Node} {x : Status}

/-- A SILENT link comes back (R145). -/
theorem State.statusHeard_silent (st : Option NodeState) (h : (s.link n).state = .silent) :
    (s.statusHeard n st).link n =
      { s.link n with
        silenceDue := some (s.now + sec 3), lossDue := none, state := (s.link n).returnState st (s.commandedOn n) } := by
  simp only [State.statusHeard, h]
  rw [State.setLinkState_link_same, State.link_setLink_same]
  rfl

/-- A link as a report leaves it, from the link that heard it, when the report carries no capability and no LOCKED. -/
def Link.answered (l : Link) (n : Node) (x : Status) (on : Bool) : Link :=
  if l.stopEndsOn x.nodeState = true then
    { (l.recording x).annexed n x with
      stopOpen := false, stopDue := none, state := if l.state = .stopping then .ready else l.state }
  else if l.state = .ready ∧ x.nodeState = some .running ∧ on = true then
    { (l.recording x).annexed n x with state := .active }
  else (l.recording x).annexed n x

theorem State.takeStatus_link {l : Link} (heard : (s.statusHeard n x.nodeState).link n = l) (hstate : l.state ≠ .binding)
    (hlock : x.nodeState ≠ some .locked) (hslot : x.slot ≠ 1) : (s.takeStatus n x).link n = l.answered n x (s.commandedOn n) := by
  have hlink := State.reported_link heard (fun _ => hlock) (.inl hslot)
  have hon := State.reported_commandedOn heard (fun _ => hlock) (.inl hslot)
  obtain ⟨hsame, -, -, -, hopen, hcount, -⟩ := (l.recording x).annexed_same n x
  set M := (l.recording x).annexed n x with hM
  have hMstate : M.state = l.state := hsame
  have hends : M.stopEndsOn x.nodeState = l.stopEndsOn x.nodeState := by
    have hMopen : M.stopOpen = l.stopOpen := hopen
    have hMcount : M.stopCount = l.stopCount := hcount
    simp only [Link.stopEndsOn, hMopen, hMcount]
  have hcomplete : (s.reported n x).completeBinding n = s.reported n x :=
    State.completeBinding_bound (by rw [hlink, hMstate]; rintro ⟨h, -⟩; exact hstate h)
  rw [State.takeStatus_reported, hcomplete, State.stopOnIdle_link, State.activate_link, hlink, hon, hMstate]
  unfold Link.answered
  by_cases hr : l.state = .ready ∧ x.nodeState = some .running ∧ s.commandedOn n = true
  · obtain ⟨-, hrunning, -⟩ := id hr
    have hno : ∀ l' : Link, l'.stopEndsOn x.nodeState = false := fun l' => Link.stopEndsOn_other l' (by rw [hrunning]; decide)
    simp only [hno, if_pos hr]
    rfl
  · simp only [if_neg hr, hends, hMstate]
    rfl

theorem Link.answered_timers (l : Link) (n : Node) (x : Status) (on : Bool) :
    (l.answered n x on).silenceDue = l.silenceDue ∧ (l.answered n x on).lossDue = l.lossDue := by
  obtain ⟨-, -, -, -, -, -, -, -, hsilence, hloss, -⟩ := (l.recording x).annexed_same n x
  unfold Link.answered
  split_ifs <;> exact ⟨hsilence, hloss⟩

/-- IDLE after three STOP commands closes the stop sequence (R138, R143). -/
theorem Link.answered_ends {l : Link} {on : Bool} (h : l.stopEndsOn x.nodeState = true) :
    (l.answered n x on).state = (if l.state = .stopping then .ready else l.state) ∧ (l.answered n x on).stopOpen = false
      ∧ (l.answered n x on).stopDue = none := by
  rw [Link.answered, if_pos h]
  exact ⟨rfl, rfl, rfl⟩

/-- Any other report keeps the stop sequence as it is (R138). -/
theorem Link.answered_goesOn {l : Link} {on : Bool} (h : l.stopEndsOn x.nodeState = false) :
    (l.answered n x on).state = (if l.state = .ready ∧ x.nodeState = some .running ∧ on = true then .active else l.state)
      ∧ (l.answered n x on).stopOpen = l.stopOpen ∧ (l.answered n x on).stopCount = l.stopCount
      ∧ (l.answered n x on).stopDue = l.stopDue := by
  obtain ⟨hstate, -, -, -, hopen, hcount, hdue, -⟩ := (l.recording x).annexed_same n x
  rw [Link.answered, if_neg (by rw [h]; decide)]
  split
  · exact ⟨rfl, hopen, hcount, hdue⟩
  · exact ⟨hstate, hopen, hcount, hdue⟩

/-- A SILENT link comes back to STOPPING while its stop sequence stays open, else to ACTIVE or READY (R145). -/
theorem State.takeStatus_silent (h : (s.link n).state = .silent) (hlock : x.nodeState ≠ some .locked) (hslot : x.slot ≠ 1) :
    ((s.takeStatus n x).link n).silenceDue = some (s.now + sec 3) ∧ ((s.takeStatus n x).link n).lossDue = none
      ∧ ((s.link n).stopOpen = true → (s.link n).stopEndsOn x.nodeState = false →
          ((s.takeStatus n x).link n).state = .stopping ∧ ((s.takeStatus n x).link n).stopOpen = true)
      ∧ ((s.link n).stopOpen = false ∨ (s.link n).stopEndsOn x.nodeState = true →
          ((s.takeStatus n x).link n).state =
            if x.nodeState = some .running ∧ s.commandedOn n = true then .active else .ready) := by
  set r := (s.link n).returnState x.nodeState (s.commandedOn n) with hr
  set l : Link := { s.link n with silenceDue := some (s.now + sec 3), lossDue := none, state := r } with hl
  have hheard : (s.statusHeard n x.nodeState).link n = l := State.statusHeard_silent _ h
  have hbinding : l.state ≠ .binding := by
    have : r ≠ .binding := by
      rw [hr]
      unfold Link.returnState
      split_ifs <;> decide
    exact this
  have hlink := State.takeStatus_link hheard hbinding hlock hslot
  have hends : l.stopEndsOn x.nodeState = (s.link n).stopEndsOn x.nodeState := rfl
  obtain ⟨hsilence, hloss⟩ := l.answered_timers n x (s.commandedOn n)
  rw [hlink]
  refine ⟨hsilence, hloss, fun hopen hno => ?_, fun hover => ?_⟩
  · have hstopping : r = .stopping := by simp [hr, Link.returnState, hopen, hno]
    obtain ⟨hstate, hkept, -⟩ := Link.answered_goesOn (n := n) (on := s.commandedOn n) (hends.trans hno)
    have hnotready : ¬(l.state = .ready ∧ x.nodeState = some .running ∧ s.commandedOn n = true) := by
      rintro ⟨hready, -⟩
      exact absurd (hstopping.symm.trans hready) (by decide)
    rw [if_neg hnotready] at hstate
    exact ⟨hstate.trans hstopping, hkept.trans hopen⟩
  · have hback : r = if x.nodeState = some .running ∧ s.commandedOn n = true then .active else .ready := by
      have hshut : ¬((s.link n).stopOpen && !(s.link n).stopEndsOn x.nodeState) = true := by
        rcases hover with ho | ho <;> simp [ho]
      rw [hr, Link.returnState, if_neg hshut]
    cases he : (s.link n).stopEndsOn x.nodeState with
    | true =>
      obtain ⟨hstate, -⟩ := Link.answered_ends (n := n) (on := s.commandedOn n) (hends.trans he)
      have hnotstopping : l.state ≠ .stopping := by
        have : r ≠ .stopping := by rw [hback]; split <;> decide
        exact this
      rw [if_neg hnotstopping] at hstate
      exact hstate.trans hback
    | false =>
      obtain ⟨hstate, -⟩ := Link.answered_goesOn (n := n) (on := s.commandedOn n) (hends.trans he)
      rw [hstate]
      by_cases hrun : x.nodeState = some .running ∧ s.commandedOn n = true
      · have hactive : l.state = .active := by rw [if_pos hrun] at hback; exact hback
        rw [if_pos hrun, hactive, if_neg (by simp)]
      · have hready : l.state = .ready := by rw [if_neg hrun] at hback; exact hback
        rw [if_neg hrun, hready, if_neg (by tauto)]

/-- IDLE after three STOP commands ends STOPPING; any other report leaves it (R138, R143, R144). -/
theorem State.takeStatus_stopping (h : (s.link n).state = .stopping) (hlock : x.nodeState ≠ some .locked) (hslot : x.slot ≠ 1) :
    ((s.takeStatus n x).link n).silenceDue = some (s.now + sec 3)
      ∧ ((s.link n).stopEndsOn x.nodeState = true → ((s.takeStatus n x).link n).state = .ready
          ∧ ((s.takeStatus n x).link n).stopOpen = false ∧ ((s.takeStatus n x).link n).stopDue = none)
      ∧ ((s.link n).stopEndsOn x.nodeState = false → ((s.takeStatus n x).link n).state = .stopping
          ∧ ((s.takeStatus n x).link n).stopOpen = (s.link n).stopOpen
          ∧ ((s.takeStatus n x).link n).stopCount = (s.link n).stopCount
          ∧ ((s.takeStatus n x).link n).stopDue = (s.link n).stopDue) := by
  set l : Link := { s.link n with silenceDue := some (s.now + sec 3) } with hl
  have hheard : (s.statusHeard n x.nodeState).link n = l := by
    rw [State.statusHeard_running _ (.inr (.inr h)), State.link_setLink_same]
  have hstopping : l.state = .stopping := h
  have hlink := State.takeStatus_link hheard (by rw [hstopping]; decide) hlock hslot
  have hends : l.stopEndsOn x.nodeState = (s.link n).stopEndsOn x.nodeState := rfl
  obtain ⟨hsilence, -⟩ := l.answered_timers n x (s.commandedOn n)
  rw [hlink]
  refine ⟨hsilence, fun he => ?_, fun he => ?_⟩
  · obtain ⟨hstate, hopen, hdue⟩ := Link.answered_ends (n := n) (on := s.commandedOn n) (hends.trans he)
    exact ⟨hstate.trans (if_pos hstopping), hopen, hdue⟩
  · obtain ⟨hstate, hopen, hcount, hdue⟩ := Link.answered_goesOn (n := n) (on := s.commandedOn n) (hends.trans he)
    rw [if_neg (by rw [hstopping]; simp), hstopping] at hstate
    exact ⟨hstate, hopen, hcount, hdue⟩

end

end Sys2Proof.Machine
end

section
/-! PROOF. A bound capability that changes (R52, R156): what the writes of the record leave of the links, and what the house does. -/

namespace Sys2Proof.Machine

/-! ### The capabilities stay as the house turns (R138, R155) -/

/-- Every link keeps its bound capability, and none begins to bind. -/
def LinksKept (s t : State) : Prop :=
  ∀ m, (t.link m).cap = (s.link m).cap ∧ ((t.link m).state = .binding → (s.link m).state = .binding)

namespace LinksKept

variable {s t u : State} {n : Node}

theorem of_links (h : t.links = s.links) : LinksKept s t := fun m => by
  rw [State.link_congr h]
  exact ⟨rfl, id⟩

theorem refl (s : State) : LinksKept s s := of_links rfl

theorem trans (h : LinksKept s t) (h' : LinksKept t u) : LinksKept s u := fun m =>
  ⟨(h' m).1.trans (h m).1, fun hb => (h m).2 ((h' m).2 hb)⟩

theorem ite {p : Prop} [Decidable p] (ht : LinksKept s t) (hu : LinksKept s u) : LinksKept s (if p then t else u) := by
  split
  · exact ht
  · exact hu

theorem setLink {l : Link} (cap : l.cap = (s.link n).cap) (state : l.state = .binding → (s.link n).state = .binding) :
    LinksKept s (s.setLink n l) := fun m => by
  by_cases hm : m = n
  · subst hm
    rw [State.link_setLink_same]
    exact ⟨cap, state⟩
  · rw [State.link_setLink_other _ _ hm]
    exact ⟨rfl, id⟩

theorem setLinkState {st : LinkState} (h : st ≠ .binding) : LinksKept s (s.setLinkState n st) := fun m => by
  by_cases hm : m = n
  · subst hm
    rw [State.setLinkState_link_same]
    exact ⟨rfl, fun hb => absurd hb h⟩
  · rw [State.setLinkState_link_other _ _ hm]
    exact ⟨rfl, id⟩

theorem openStop (s : State) (n : Node) : LinksKept s (s.openStop n) := setLink rfl id

theorem closeStop (s : State) (n : Node) : LinksKept s (s.closeStop n) := setLink rfl id

theorem modeTurnedOff (s : State) (n : Node) : LinksKept s (s.modeTurnedOff n) := by
  have hstopping : LinksKept s ((s.openStop n).setLinkState n .stopping) := (openStop s n).trans (setLinkState (by decide))
  unfold State.modeTurnedOff
  split
  · exact hstopping
  · exact hstopping
  · exact hstopping
  · exact openStop s n
  · exact refl s
  · exact refl s

theorem modeTurnedOn (s : State) (n : Node) : LinksKept s (s.modeTurnedOn n) :=
  ite (ite ((closeStop s n).trans (setLinkState (by decide))) (closeStop s n)) (refl s)

theorem watchMode (s : State) (n : Node) (was is : Bool) : LinksKept s (s.watchMode n was is) :=
  ite (modeTurnedOff s n) (ite (modeTurnedOn s n) (refl s))

theorem writeCommand (s : State) (c : Command) : LinksKept s (s.writeCommand c) := by
  rw [State.writeCommand_eq]
  exact ((of_links (s.recorded_links c)).trans (watchMode _ _ _ _)).trans (watchMode _ _ _ _)

/-- A move of the house touches the links by its write of the record alone. -/
theorem write {c : Command} (h : t.links = (s.writeCommand c).links) : LinksKept s t := (writeCommand s c).trans (of_links h)

theorem goIdle (s : State) : LinksKept s s.goIdle := write (c := commandOff) (by simp [State.goIdle])

theorem fallIdle (s : State) : LinksKept s ((s.writeCommand commandOff).enterHouse .idle) :=
  write (c := commandOff) (by simp)

theorem enterShed (s : State) : LinksKept s s.enterShed := write (c := s.shedCommand) (by simp [State.enterShed_eq])

theorem reviewShed (s : State) : LinksKept s s.reviewShed :=
  ite (ite (enterShed s) (refl s)) (ite (fallIdle s) (refl s))

theorem cminChanged (s : State) : LinksKept s s.cminChanged := by
  simp only [State.cminChanged]
  split
  · exact (reviewShed s).trans (ite (writeCommand _ _) (refl _))
  · exact reviewShed s

theorem heatPumpLost (s : State) : LinksKept s s.heatPumpLost := ite (goIdle s) (refl s)

theorem airLimitsChanged (s : State) : LinksKept s s.airLimitsChanged := by
  unfold State.airLimitsChanged
  split
  · exact ite (writeCommand _ _) (refl s)
  · exact refl s

theorem capabilityChanged (s : State) (old new : Capability) : LinksKept s (s.capabilityChanged old new) := by
  have hcmin : ∀ {p : Prop} [Decidable p], LinksKept s (if p then s.cminChanged else s) := ite (cminChanged s) (refl s)
  have hair : ∀ {p : Prop} [Decidable p], LinksKept s (if p then s.airLimitsChanged else s) := ite (airLimitsChanged s) (refl s)
  unfold State.capabilityChanged
  split
  · exact ite (hcmin.trans (heatPumpLost _)) hcmin
  · exact ite (hair.trans (writeCommand _ _)) hair
  · exact refl s
  · exact refl s

theorem nodeUnavailable (s : State) (n : Node) : LinksKept s (s.nodeUnavailable n) := by
  unfold State.nodeUnavailable
  refine ite (goIdle s) ?_
  cases n with
  | outdoorUnit => exact refl s
  | airHandler => exact ite (fallIdle s) (ite (writeCommand _ _) (refl s))

theorem outdoorReported (s : State) (st : NodeState) : LinksKept s (s.outdoorReported st) := by
  unfold State.outdoorReported
  split
  · exact ite ((writeCommand s _).trans (of_links (by simp [State.enterDefrost]; rfl))) (refl s)
  · exact ite ((writeCommand s _).trans (of_links (by simp [State.leaveDefrost]; rfl))) (refl s)
  all_goals exact refl s

theorem recordNodeState (s : State) (n : Node) (st : NodeState) : LinksKept s (s.recordNodeState n st) := by
  have hset : LinksKept s (s.setLink n { s.link n with nodeState := some st }) := setLink rfl id
  simp only [State.recordNodeState]
  have hgone : ∀ {p : Prop} [Decidable p], LinksKept s (if p then
      (s.setLink n { s.link n with nodeState := some st }).nodeUnavailable n
      else s.setLink n { s.link n with nodeState := some st }) := ite (hset.trans (nodeUnavailable _ n)) hset
  cases n with
  | outdoorUnit => exact hgone.trans (outdoorReported _ st)
  | airHandler => exact hgone

theorem statusHeard (st : Option NodeState) (h : (s.link n).state ≠ .down) : LinksKept s (s.statusHeard n st) := by
  have hrestarted : LinksKept s (s.setLink n { s.link n with silenceDue := s.after (sec 3) }) := setLink rfl id
  have hsilent : LinksKept s (s.setLink n { s.link n with silenceDue := s.after (sec 3), lossDue := none }) := setLink rfl id
  have hreturn : ∀ l : Link, ∀ on, l.returnState st on ≠ .binding := fun l on => by
    unfold Link.returnState
    split_ifs <;> decide
  simp only [State.statusHeard]
  split
  · next hd => exact absurd hd h
  · exact refl s
  · exact hrestarted
  · exact hrestarted
  · exact hrestarted
  · exact hsilent.trans (setLinkState (hreturn _ _))

theorem nodeTaken (x : Status) (h : (s.link n).state ≠ .down) : LinksKept s (s.nodeTaken n x) := by
  have hheard := statusHeard x.nodeState h
  unfold State.nodeTaken
  split
  · exact hheard.trans (recordNodeState _ n _)
  · exact hheard

theorem recordFault (s : State) (n : Node) (code : Nat) : LinksKept s (s.recordFault n code) := by
  rw [State.recordFault_eq]
  exact LinksKept.trans (setLink (l := { s.link n with fault := some code }) rfl id) (of_links rfl)

theorem activate (s : State) (n : Node) (st : Option NodeState) : LinksKept s (s.activate n st) :=
  ite (setLinkState (by decide)) (refl s)

theorem stopOnIdle (s : State) (n : Node) (st : Option NodeState) : LinksKept s (s.stopOnIdle n st) :=
  ite (ite ((closeStop s n).trans (setLinkState (by decide))) (closeStop s n)) (refl s)

end LinksKept

/-! ### A change of the outdoor unit's capability (R46, R52) -/

section
variable {s : State}

theorem State.cmin_congr {t : State} (h : LinksKept s t) : t.cmin = s.cmin := by
  simp only [State.cmin, (h .outdoorUnit).1]

theorem State.cminChanged_eq {c : Nat} (hc : s.cmin = some c) :
    s.cminChanged =
      if s.reviewShed.house.compressor && decide (s.reviewShed.command.capacity < c) then
        s.reviewShed.writeCommand { s.reviewShed.command with capacity := c } else s.reviewShed := by
  have hkept : s.reviewShed.cmin = some c := (State.cmin_congr (.reviewShed s)).trans hc
  simp only [State.cminChanged, hkept]

theorem State.cminChanged_house {c : Nat} (hc : s.cmin = some c) : s.cminChanged.house = s.reviewShed.house := by
  rw [State.cminChanged_eq hc]
  split
  · exact congrArg Arbiter.house (by simp)
  · rfl

/-- No compressor state is left with a capacity below the new Cmin. -/
theorem State.cminChanged_capacity {c : Nat} (hc : s.cmin = some c) (hrun : s.cminChanged.house.compressor = true) :
    c ≤ s.cminChanged.command.capacity := by
  rw [State.cminChanged_house hc] at hrun
  rw [State.cminChanged_eq hc]
  split
  · simp
  · next h =>
    rw [hrun, Bool.true_and, decide_eq_true_eq] at h
    exact Nat.not_lt.mp h

/-- A Cmin above the cap brings SHED to every house that can enter it. -/
theorem State.cminChanged_sheds {c : Nat} (hc : s.cmin = some c) (hcap : s.cap < c) (hu : s.house ≠ .uncommissioned)
    (hh : s.house ≠ .halt) : s.cminChanged.house = .shed := by
  have hcond : s.shedCondition = true := State.shedCondition_iff.mpr ⟨c, hc, hcap⟩
  rw [State.cminChanged_house hc]
  by_cases hs : s.house = .shed
  · have hno : ¬s.house.sheds = true := by rw [hs]; decide
    rw [State.reviewShed, if_pos hcond, if_neg hno, hs]
  · rw [State.reviewShed_enters hcond ((HouseState.sheds_iff _).mpr ⟨hu, hh, hs⟩)]
    exact (State.enterShed_enters hs).house

theorem State.heatPumpLost_house : s.heatPumpLost.house ≠ .heat ∧ s.heatPumpLost.house ≠ .defrost := by
  unfold State.heatPumpLost
  split
  · have hidle : s.goIdle.house = .idle := by simp [State.goIdle, State.house]
    rw [hidle]
    decide
  · next h => exact ⟨fun he => h (.inl he), fun he => h (.inr he)⟩

theorem State.heatPumpLost_stays (h : s.heatPumpLost.house.compressor = true ∨ s.house = .shed) : s.heatPumpLost = s := by
  refine if_neg fun hh => ?_
  have hidle : s.heatPumpLost.house = .idle := by
    have heq : s.heatPumpLost = s.goIdle := if_pos hh
    rw [heq]
    simp [State.goIdle, State.house]
  rcases h with h | h
  · rw [hidle] at h
    exact absurd h (by decide)
  · rcases hh with hh | hh <;> exact absurd (h.symm.trans hh) (by decide)

theorem State.capabilityChanged_outdoor {c c' : Nat} {hp hp' : Bool} (hc : s.cmin = some c') :
    (c ≠ c' → s.cap < c' → s.house ≠ .uncommissioned → s.house ≠ .halt →
        (s.capabilityChanged (.outdoor c hp) (.outdoor c' hp')).house = .shed)
      ∧ (c ≠ c' → (s.capabilityChanged (.outdoor c hp) (.outdoor c' hp')).house.compressor = true →
          c' ≤ (s.capabilityChanged (.outdoor c hp) (.outdoor c' hp')).command.capacity)
      ∧ (hp = true → hp' = false → (s.capabilityChanged (.outdoor c hp) (.outdoor c' hp')).house ≠ .heat
          ∧ (s.capabilityChanged (.outdoor c hp) (.outdoor c' hp')).house ≠ .defrost) := by
  set y := if c ≠ c' then s.cminChanged else s with hy
  have heq : s.capabilityChanged (.outdoor c hp) (.outdoor c' hp') = if hp && !hp' then y.heatPumpLost else y := rfl
  rw [heq]
  refine ⟨fun hne hcap hu hh => ?_, fun hne hrun => ?_, fun h1 h2 => ?_⟩
  · have hshed : y.house = .shed := by
      rw [hy, if_pos hne]
      exact State.cminChanged_sheds hc hcap hu hh
    split
    · rw [State.heatPumpLost_stays (.inr hshed), hshed]
    · exact hshed
  · have hstays : (if hp && !hp' then y.heatPumpLost else y) = y := by
      split at hrun
      · next h => rw [if_pos h, State.heatPumpLost_stays (.inl hrun)]
      · next h => rw [if_neg h]
    rw [hstays] at hrun ⊢
    rw [hy, if_pos hne] at hrun ⊢
    exact State.cminChanged_capacity hc hrun
  · rw [if_pos (by simp [h1, h2])]
    exact State.heatPumpLost_house

/-! ### A change of the air handler's capability (R52) -/

theorem State.airLimitsChanged_eq {lo hi : Nat} (h : s.airLimits = some (lo, hi)) (hon : s.command.airOn = true) :
    s.airLimitsChanged =
      s.writeCommand { s.command with airflow := if s.house = .defrost then lo else clampNat lo hi s.command.airflow } := by
  simp only [State.airLimitsChanged, h]
  exact if_pos hon

/-- A running air handler is moved into its new limits, in DEFROST to Qmin. -/
theorem State.airLimitsChanged_airflow {lo hi : Nat} (h : s.airLimits = some (lo, hi)) (hle : lo ≤ hi)
    (hon : s.airLimitsChanged.command.airMode ≠ .off) :
    lo ≤ s.airLimitsChanged.command.airflow ∧ s.airLimitsChanged.command.airflow ≤ hi
      ∧ (s.airLimitsChanged.house = .defrost → s.airLimitsChanged.command.airflow = lo) := by
  have hwas : s.command.airOn = true := by
    by_contra hoff
    have heq : s.airLimitsChanged = s := by
      simp only [State.airLimitsChanged, h]
      exact if_neg hoff
    rw [heq] at hon
    exact hoff (decide_eq_true hon)
  have hhouse : s.airLimitsChanged.house = s.house := by
    rw [State.airLimitsChanged_eq h hwas]
    exact congrArg Arbiter.house (by simp)
  rw [hhouse, State.airLimitsChanged_eq h hwas, State.writeCommand_command]
  by_cases hd : s.house = .defrost
  · simp [hd, hle]
  · simp [hd, clampNat, hle]

theorem State.capabilityChanged_air {lo hi lo' hi' : Nat} {r r' : Bool} (hlimits : s.airLimits = some (lo', hi')) (hle : lo' ≤ hi') :
    let t := s.capabilityChanged (.air lo hi r) (.air lo' hi' r')
    (lo ≠ lo' ∨ hi ≠ hi' → t.command.airMode ≠ .off →
        lo' ≤ t.command.airflow ∧ t.command.airflow ≤ hi' ∧ (t.house = .defrost → t.command.airflow = lo'))
      ∧ (r = true → r' = false → t.command.reheat = false) := by
  intro t
  set y := if lo ≠ lo' ∨ hi ≠ hi' then s.airLimitsChanged else s with hy
  have heq : t = if r && !r' then y.reheatLost else y := rfl
  have hmode : t.command.airMode = y.command.airMode ∧ t.command.airflow = y.command.airflow ∧ t.house = y.house := by
    rw [heq]
    split
    · refine ⟨?_, ?_, congrArg Arbiter.house ?_⟩ <;> simp [State.reheatLost]
    · exact ⟨rfl, rfl, rfl⟩
  obtain ⟨hair, hflow, hhouse⟩ := hmode
  refine ⟨fun hne => ?_, fun h1 h2 => ?_⟩
  · rw [hair, hflow, hhouse, hy, if_pos hne]
    exact State.airLimitsChanged_airflow hlimits hle
  · rw [heq, if_pos (by simp [h1, h2])]
    simp [State.reheatLost]

end

end Sys2Proof.Machine
end

section
/-! PROOF. Another capability in slot 1 (R52, R156), and the obligation on the statuses that move a link. -/

namespace Sys2Proof.Machine

section
variable {s : State} {n : Node} {x : Status}

/-- A house that is commissioned and not halted stays so. -/
def StaysInPlay (s t : State) : Prop :=
  s.house ≠ .uncommissioned → s.house ≠ .halt → t.house ≠ .uncommissioned ∧ t.house ≠ .halt

theorem StaysInPlay.same {t : State} (h : t.house = s.house) : StaysInPlay s t := fun hu hh => by
  rw [h]
  exact ⟨hu, hh⟩

theorem StaysInPlay.turned {t : State} {h : HouseState} (ht : t.house = h) (hu : h ≠ .uncommissioned) (hh : h ≠ .halt) :
    StaysInPlay s t := fun _ _ => by
  rw [ht]
  exact ⟨hu, hh⟩

theorem StaysInPlay.trans {t u : State} (h : StaysInPlay s t) (h' : StaysInPlay t u) : StaysInPlay s u := fun hu hh => by
  obtain ⟨hu', hh'⟩ := h hu hh
  exact h' hu' hh'

theorem StaysInPlay.ite {t u : State} {p : Prop} [Decidable p] (ht : StaysInPlay s t) (hu : StaysInPlay s u) :
    StaysInPlay s (if p then t else u) := by
  split
  · exact ht
  · exact hu

theorem StaysInPlay.nodeUnavailable (s : State) (n : Node) : StaysInPlay s (s.nodeUnavailable n) := by
  unfold State.nodeUnavailable
  refine ite (turned (h := .idle) (by simp [State.goIdle, State.house]) (by decide) (by decide)) ?_
  cases n with
  | outdoorUnit => exact same rfl
  | airHandler =>
    exact ite (turned (h := .idle) (by simp [State.house]) (by decide) (by decide))
      (ite (same (by simp [State.house])) (same rfl))

theorem StaysInPlay.outdoorReported (s : State) (st : NodeState) : StaysInPlay s (s.outdoorReported st) := by
  unfold State.outdoorReported
  split
  · exact ite (turned (h := .defrost) (by simp [State.enterDefrost, State.house]) (by decide) (by decide)) (same rfl)
  · exact ite (turned (h := .heat) (by simp [State.leaveDefrost, State.house]) (by decide) (by decide)) (same rfl)
  all_goals exact same rfl

theorem StaysInPlay.nodeTaken (s : State) (n : Node) (x : Status) : StaysInPlay s (s.nodeTaken n x) := by
  have hheard : StaysInPlay s (s.statusHeard n x.nodeState) := same (State.house_congr (by simp))
  unfold State.nodeTaken
  split
  · refine hheard.trans ?_
    set u := s.statusHeard n x.nodeState
    next st _ =>
    have hset : StaysInPlay u (u.setLink n { u.link n with nodeState := some st }) := same rfl
    have hgone : ∀ {p : Prop} [Decidable p], StaysInPlay u (if p then
        (u.setLink n { u.link n with nodeState := some st }).nodeUnavailable n
        else u.setLink n { u.link n with nodeState := some st }) := ite (hset.trans (nodeUnavailable _ n)) hset
    simp only [State.recordNodeState]
    cases n with
    | outdoorUnit => exact hgone.trans (outdoorReported _ st)
    | airHandler => exact hgone
  · exact hheard

theorem State.nodeTaken_decoder (s : State) (n : Node) (x : Status) : (s.nodeTaken n x).decoder = s.decoder := by
  unfold State.nodeTaken
  split <;> simp

/-- What a bound link's other capability brings: the house acts on the state `y` in which it stands bound and is raised. -/
theorem State.takeStatus_capability {old new : Capability} (hcap : (s.link n).cap = some old) (hdown : (s.link n).state ≠ .down)
    (hbinding : (s.link n).state ≠ .binding) (hslot : x.slot = 1) (hc : capabilityOf n x.d0 x.d1 x.d2 = some new)
    (hne : old ≠ new) :
    ∃ y : State, (y.link n).cap = some new ∧ y.cap = s.cap ∧ marked y.events.raised .capabilityChange = true
      ∧ StaysInPlay s y ∧ ((s.takeStatus n x).link n).cap = some new
      ∧ (s.takeStatus n x).command = (y.capabilityChanged old new).command
      ∧ (s.takeStatus n x).house = (y.capabilityChanged old new).house
      ∧ (s.takeStatus n x).events = (y.capabilityChanged old new).events := by
  set r := (s.nodeTaken n x).recordFault n x.fault with hr
  have hkept : LinksKept s r := (LinksKept.nodeTaken x hdown).trans (.recordFault _ n _)
  obtain ⟨hrcap, hrbinding⟩ := hkept n
  set L := (r.link n).annexTaken 0 (.capability new) with hL
  have hLsame := (r.link n).annexTaken_same 0 (.capability new)
  obtain ⟨hLstate, -, -, hLcap, -⟩ := hLsame
  set y := (r.setLink n { L with cap := some new }).raise .capabilityChange with hy
  have hylink : y.link n = { L with cap := some new } := by
    rw [hy, State.raise_link, State.link_setLink_same]
  have htaken : s.reported n x = y.capabilityChanged old new := by
    have hindex : annexIndex x.slot = some 0 := by rw [hslot]; rfl
    have hvalue : annexValueOf n 0 x.d0 x.d1 x.d2 x.d3 = some (.capability new) := by simp [annexValueOf, hc]
    have hbound : L.cap = some old := by rw [hL, hLcap, hrcap, hcap]
    rw [State.reported, ← hr, State.takeAnnex]
    simp only [hindex, hvalue, ← hL, State.compareCapability, hbound, AnnexValue.capability?, if_neg hne, State.setLink_setLink,
      State.link_setLink_same]
    rfl
  have hzkept : LinksKept y (s.reported n x) := by
    rw [htaken]
    exact .capabilityChanged y old new
  obtain ⟨hzcap, hzbinding⟩ := hzkept n
  have hcomplete : (s.reported n x).completeBinding n = s.reported n x := by
    refine State.completeBinding_bound ?_
    rintro ⟨hb, -⟩
    have hyb := hzbinding hb
    rw [hylink] at hyb
    exact hbinding (hrbinding (hLstate.symm.trans hyb))
  have hv : s.takeStatus n x = ((y.capabilityChanged old new).activate n x.nodeState).stopOnIdle n x.nodeState := by
    rw [State.takeStatus_reported, hcomplete, htaken]
  have hvcap : ((s.takeStatus n x).link n).cap = (y.link n).cap := by
    rw [hv]
    exact (((LinksKept.capabilityChanged y old new).trans (.activate _ n _)).trans (.stopOnIdle _ n _) n).1
  refine ⟨y, by rw [hylink], ?_, State.marked_raise _ _, ?_, ?_, ?_, ?_, ?_⟩
  · have hdec : y.decoder = s.decoder := by simp [hy, hr, State.nodeTaken_decoder]
    simp only [State.cap, hdec]
  · exact (StaysInPlay.nodeTaken s n x).trans (.same (State.house_congr (by simp [hy, hr])))
  · rw [hvcap, hylink]
  · rw [hv]; simp
  · rw [hv, State.stopOnIdle_house, State.activate_house]
  · rw [hv]; simp

end

/-- The limits of a capability in range do not cross (R151). -/
theorem capabilityOf_air {n : Node} {a b c : Byte} {lo hi : Nat} {r : Bool} (h : capabilityOf n a b c = some (.air lo hi r)) :
    n = .airHandler ∧ lo ≤ hi := by
  cases n with
  | outdoorUnit =>
    simp only [capabilityOf] at h
    split_ifs at h
    simp at h
  | airHandler =>
    simp only [capabilityOf] at h
    split_ifs at h with hr
    simp only [Option.some.injEq, Capability.air.injEq] at h
    exact ⟨rfl, by omega⟩

theorem capabilityOf_outdoor {n : Node} {a b c : Byte} {cmin : Nat} {hp : Bool}
    (h : capabilityOf n a b c = some (.outdoor cmin hp)) : n = .outdoorUnit := by
  cases n with
  | outdoorUnit => rfl
  | airHandler =>
    simp only [capabilityOf] at h
    split_ifs at h
    simp at h

section
variable {s : State} {dt : Nat} {b : Burst} {w : PlantWait} {cls : Byte} {p : List Byte}

/-- The first clause of O40: DOWN to BINDING. -/
theorem HearsPlant.begins (h : HearsPlant s dt b w cls p) (hexp : w.expects = .status) (hstate : (s.link w.node).state = .down)
    (hl : LinkHolds (s.link w.node)) (hlen : p.length < 14) (hhouse : s.house.compressor = false) :
    ∃ t, exec (.plantStatus dt b) s = .next t
      ∧ t = { s.elapse dt with
          plant := plantAfter s.plant (s.now + dt) (oneGood s.plant.counters) t.plant.slot
          links := s.links.set w.node (t.link w.node)
          events := t.events }
      ∧ follows s.plant.slot t.plant.slot
      ∧ t.link w.node =
          (((s.link w.node).awakened (s.now + dt)).recording (plantReportOf w.node p)).annexed w.node (plantReportOf w.node p)
      ∧ ((plantReportOf w.node p).fault ≠ 0 → marked t.events.raised .plantFault = true ∨ s.plantFaultHolds = true) := by
  obtain ⟨u, v, t, hexec, T⟩ := h.status hexp
  have H := T.heard
  obtain ⟨e, htaken, hfault⟩ := State.takeStatus_down (x := plantReportOf w.node p) (by rw [H.link, hstate])
    (by rw [H.link]; exact hl) (by rw [H.house, hhouse])
  rw [← T.taken, H.link, H.now] at htaken
  obtain ⟨hu, ht⟩ := T.short hlen
  have hlink : t.link w.node =
      (((s.link w.node).awakened (s.now + dt)).recording (plantReportOf w.node p)).annexed w.node (plantReportOf w.node p) := by
    rw [T.link, htaken]
    exact State.link_setLink_same u _ _
  have hlinks : t.links = s.links.set w.node (t.link w.node) := by
    rw [hlink, T.links, htaken]
    exact congrArg (fun ls => PerNode.set ls w.node _) H.links
  have harb : t.arbiter = s.arbiter := by rw [T.arbiter, htaken, ← H.arbiter]; rfl
  have hcom : t.command = s.command := by rw [T.command, htaken, ← H.command]; rfl
  have hrelay : t.relay = s.relay := by rw [ht, htaken, ← hu]; rfl
  refine ⟨t, hexec, ?_, T.slot, hlink, ?_⟩
  · rw [← hlinks]
    have hrest := T.rest
    rw [harb, hcom, hrelay] at hrest
    exact hrest
  · rw [T.events, htaken, ← H.plantFaultHolds]
    exact hfault

/-- A status with an item of slots 2 to 5 and another node state than LOCKED brings no capability and takes no node away. -/
theorem plantReportOf_later {n : Node} (hlock : byteAt p 0 ≠ 5) (hslot : 2 ≤ (byteAt p 3).toNat) :
    (plantReportOf n p).nodeState ≠ some .locked ∧ (plantReportOf n p).slot ≠ 1 := by
  refine ⟨fun he => hlock ((reportedState_locked n _).mp he), ?_⟩
  rintro he
  have hone : (byteAt p 3).toNat = 1 := congrArg BitVec.toNat he
  omega

end

/-- Settles O40: each clause is the link's own move under the status, carried through the reply. -/
theorem statusesMoveTheLink : Obligations.StatusesMoveTheLink := by
  refine ⟨?_, ?_, ?_, ?_⟩
  · intro s dt b w cls p h hexp hstate hl hlen hhouse
    obtain ⟨t, hexec, hrest, hslot, hlink, hfault⟩ := h.begins hexp hstate hl hlen hhouse
    obtain ⟨hst, hns, hf, hcap, hopen, -, -, hbind, -⟩ :=
      (((s.link w.node).awakened (s.now + dt)).recording (plantReportOf w.node p)).annexed_same w.node (plantReportOf w.node p)
    rw [← hlink] at hst hns hf hcap hopen hbind
    have hunbound : (s.link w.node).cap = none := by
      have hbound := hl.capability
      rw [hstate] at hbound
      exact Option.not_isSome_iff_eq_none.mp (by rw [hbound]; decide)
    refine ⟨t, hexec, hrest, hslot, hst, hbind, hf, ?_, hopen, hcap.trans hunbound, ?_, hfault⟩
    · intro st hreported
      have hstate' : (plantReportOf w.node p).nodeState = some st := hreported
      rw [hns]
      simp only [Link.recording, hstate', Option.some_or]
    · rw [hlink]
      exact Link.annexed_firstRun rfl (hl.downRun hstate)
  · intro s dt b w cls p v a h hexp hl hhouse off hstate hrun hexpected hslot hv ha
    obtain ⟨u, ut, t, hexec, T⟩ := h.status hexp
    have H := T.heard
    have hlinku := H.link w.node
    obtain ⟨hlink, hshed⟩ := State.takeStatus_binds (s := u) (n := w.node) (x := plantReportOf w.node p) (v := v) (a := a)
      (by rw [hlinku, hstate]) (by rw [hlinku]; exact hl) (by rw [H.house, hhouse]) (by rw [H.commandedOn, off])
      (by rw [hlinku, hrun]) (by rw [hlinku, hexpected]) (by simp only [plantReportOf, hslot]; rfl) hv (by rw [hlinku, ha])
    rw [← T.taken, ← T.link, hlinku, H.now] at hlink
    refine ⟨t, hexec, ?_, ?_, ?_⟩
    · rw [hlink]
      rfl
    · rw [hlink]
      exact (Link.slot1_annexed (s.link w.node) v).trans ha
    · intro c hp hn hac hcap hu hh
      have hlevel : u.cap = s.cap := congrArg (fun d : Decoder => d.level.cap) H.decoder
      have hhouse' : t.house = ut.house := State.house_congr T.arbiter
      rw [hhouse', T.taken]
      exact hshed c hp hn hac (by rw [hlevel]; exact hcap) (by rw [H.house]; exact hu) (by rw [H.house]; exact hh)
  · intro s dt b w cls p h hexp hlock hslot2 hslot5 l closes running
    obtain ⟨u, ut, t, hexec, T⟩ := h.status hexp
    have H := T.heard
    have hlinku := H.link w.node
    obtain ⟨hunlocked, hlater⟩ := plantReportOf_later (p := p) (n := w.node) hlock hslot2
    have hends : l.stopOpen = true → (l.stopEndsOn (plantReportOf w.node p).nodeState = true ↔ closes) := fun ho => by
      simp only [Link.stopEndsOn, ho, Bool.true_and, Bool.and_eq_true, decide_eq_true_eq]
      exact and_comm.trans (and_congr_left' (reportedState_idle w.node _))
    have hrunning : (plantReportOf w.node p).nodeState = some .running ∧ u.commandedOn w.node = true ↔ running := by
      rw [H.commandedOn]
      exact and_congr_left' (reportedState_running w.node _)
    refine ⟨t, hexec, fun hstate => ?_, fun hstate hopen => ?_⟩
    · obtain ⟨hsilence, hloss, hstays, hreturns⟩ := State.takeStatus_silent (s := u) (n := w.node) (x := plantReportOf w.node p)
        (by rw [hlinku]; exact hstate) hunlocked hlater
      rw [← T.taken, ← T.link] at hsilence hloss hstays hreturns
      rw [hlinku] at hstays hreturns
      rw [H.now] at hsilence
      have hreturned : l.stopOpen = false ∨ closes → (t.link w.node).state =
          if (plantReportOf w.node p).nodeState = some .running ∧ u.commandedOn w.node = true then .active else .ready := by
        intro ho
        refine hreturns ?_
        cases hopen : l.stopOpen with
        | false => exact .inl rfl
        | true =>
          rcases ho with ho | hc
          · exact absurd (hopen.symm.trans ho) (by decide)
          · exact .inr ((hends hopen).mpr hc)
      refine ⟨hsilence, hloss, fun hopen hno => ?_, fun ho hr => ?_, fun ho hr => ?_⟩
      · exact hstays hopen (Bool.eq_false_iff.mpr (mt (hends hopen).mp hno))
      · rw [hreturned ho, if_pos (hrunning.mpr hr)]
      · rw [hreturned ho, if_neg (mt hrunning.mp hr)]
    · obtain ⟨hsilence, hcloses, hstays⟩ := State.takeStatus_stopping (s := u) (n := w.node) (x := plantReportOf w.node p)
        (by rw [hlinku]; exact hstate) hunlocked hlater
      rw [← T.taken, ← T.link] at hsilence hcloses hstays
      rw [hlinku] at hcloses hstays
      rw [H.now] at hsilence
      refine ⟨hsilence, fun hc => hcloses ((hends hopen).mpr hc), fun hno => ?_⟩
      obtain ⟨hst, ho, hcount, hdue⟩ := hstays (Bool.eq_false_iff.mpr (mt (hends hopen).mp hno))
      exact ⟨hst, ho.trans hopen, hcount, hdue⟩
  · intro s dt b w cls p x a h hexp _ hlinks hcap hslot hc hne
    obtain ⟨u, ut, t, hexec, T⟩ := h.status hexp
    have H := T.heard
    have hlinku := H.link w.node
    have hbound : (s.link w.node).state.bound = true := by
      rw [← (hlinks w.node).capability, hcap]
      rfl
    obtain ⟨y, hycap, hylevel, hmark, hplay, htcap, htcommand, hthouse, htevents⟩ :=
      State.takeStatus_capability (s := u) (n := w.node) (x := plantReportOf w.node p) (old := x) (new := a)
        (by rw [hlinku, hcap]) (by rw [hlinku]; intro hd; rw [hd] at hbound; exact absurd hbound (by decide))
        (by rw [hlinku]; intro hd; rw [hd] at hbound; exact absurd hbound (by decide)) hslot hc (Ne.symm hne)
    rw [← T.taken] at htcap htcommand hthouse htevents
    have hlevel : y.cap = s.cap := hylevel.trans (congrArg (fun d : Decoder => d.level.cap) H.decoder)
    have hhouse : t.house = (y.capabilityChanged x a).house := (State.house_congr T.arbiter).trans hthouse
    have hcommand : t.command = (y.capabilityChanged x a).command := T.command.trans htcommand
    refine ⟨t, hexec, by rw [T.link, htcap], ?_, ?_, ?_⟩
    · rw [T.events, htevents]
      exact (HouseKept.capabilityChanged y x a).marks _ hmark
    · rintro c hp c' hp' rfl rfl
      have hn := capabilityOf_outdoor hc
      rw [hn] at hycap
      have hcmin : y.cmin = some c' := by simp only [State.cmin, hycap]
      obtain ⟨hsheds, hcapacity, hpump⟩ := State.capabilityChanged_outdoor (c := c) (hp := hp) (hp' := hp') hcmin
      rw [hhouse, hcommand, ← hlevel]
      refine ⟨fun hcc hover hu hh => ?_, fun hcc _ hrun => hcapacity hcc hrun, hpump⟩
      obtain ⟨hyu, hyh⟩ := hplay (by rw [H.house]; exact hu) (by rw [H.house]; exact hh)
      exact hsheds hcc hover hyu hyh
    · rintro lo hi r lo' hi' r' rfl rfl
      obtain ⟨hn, hle⟩ := capabilityOf_air hc
      rw [hn] at hycap
      have hlimits : y.airLimits = some (lo', hi') := by simp only [State.airLimits, hycap]
      rw [hhouse, hcommand]
      exact State.capabilityChanged_air hlimits hle

end Sys2Proof.Machine
end

section
/-! PROOF. The spill order and the spill walk (R65, R66): the order is that of rank and zone number, and a zone spills exactly when the
airflow, with all that the order lists before it, lies below Qmin. -/

namespace Sys2Proof.Machine

/-! ### Sums over the zones (R1) -/

theorem sumIx_eq_sum {n : Nat} (f : Fin n → Nat) : sumIx f = ∑ i, f i := by
  rw [Fin.sum_univ_def]
  rfl

/-- A sum over chosen indices, with one more index chosen. -/
theorem sum_ite_insert {n : Nat} {p q : Fin n → Prop} [DecidablePred p] [DecidablePred q] {g : Fin n → Nat} {x : Fin n} (hx : ¬p x)
    (hq : ∀ z, q z ↔ z = x ∨ p z) : (∑ z, if q z then g z else 0) = g x + ∑ z, if p z then g z else 0 := by
  have hterm : ∀ z, (if q z then g z else 0) = (if z = x then g z else 0) + if p z then g z else 0 := by
    intro z
    by_cases hz : z = x
    · subst hz
      simp [hq, hx]
    · simp [hq, hz]
  simp only [hterm, Finset.sum_add_distrib, Finset.sum_ite_eq', Finset.mem_univ, if_true]

/-! ### The spill order (R65) -/

/-- The order in which zones spill: by rank, then by zone number (R65). -/
def State.spillsBefore (s : State) (a b : ZoneId) : Bool :=
  decide ((s.zoneCfg a).spillRank < (s.zoneCfg b).spillRank)
    || (decide ((s.zoneCfg a).spillRank = (s.zoneCfg b).spillRank) && decide (a < b))

section
variable {s : State} {a b : ZoneId} {served : Vector Bool 8}

theorem State.spillsBefore_iff : s.spillsBefore a b = true ↔ (s.zoneCfg a).spillRank < (s.zoneCfg b).spillRank
    ∨ ((s.zoneCfg a).spillRank = (s.zoneCfg b).spillRank ∧ a < b) := by
  simp [State.spillsBefore]

theorem State.spillsBefore_asymm (h : s.spillsBefore a b = true) : s.spillsBefore b a = false := by
  rw [State.spillsBefore_iff] at h
  rw [Bool.eq_false_iff, ne_eq, State.spillsBefore_iff]
  rintro (hr | ⟨hr, hba⟩)
  · omega
  · rcases h with h | ⟨-, hab⟩
    · omega
    · exact absurd hab (Fin.lt_asymm hba)

theorem State.spillsBefore_irrefl : s.spillsBefore a a = false := by
  simp [State.spillsBefore]

theorem State.mem_spillOrder {z : ZoneId} : z ∈ s.spillOrder served ↔ s.maySpill served z = true := by
  have hrank : s.maySpill served z = true → 1 ≤ (s.zoneCfg z).spillRank ∧ (s.zoneCfg z).spillRank ≤ 8 := by
    simp only [State.maySpill, Bool.and_eq_true, decide_eq_true_eq]
    rintro ⟨⟨⟨⟨hranked, -⟩, -⟩, -⟩, -⟩
    exact hranked
  simp only [State.spillOrder, List.mem_flatMap, List.mem_filter, List.mem_finRange, true_and, Bool.and_eq_true, decide_eq_true_eq]
  constructor
  · rintro ⟨r, -, -, h⟩
    exact h
  · intro h
    obtain ⟨hlow, hhigh⟩ := hrank h
    exact ⟨_, by simp only [List.mem_cons, List.not_mem_nil, or_false]; omega, rfl, h⟩

theorem State.spillOrder_sorted : (s.spillOrder served).Pairwise fun a b => s.spillsBefore a b = true := by
  rw [State.spillOrder, List.pairwise_flatMap]
  refine ⟨fun r _ => ?_, ?_⟩
  · rw [List.pairwise_filter]
    refine (List.pairwise_lt_finRange 8).imp fun {a b} hab ha hb => ?_
    simp only [Bool.and_eq_true, decide_eq_true_eq] at ha hb
    exact State.spillsBefore_iff.2 (.inr ⟨ha.1.trans hb.1.symm, hab⟩)
  · refine List.Pairwise.imp (R := (· < ·)) (fun {i j} hij a ha b hb => ?_) (by decide)
    simp only [List.mem_filter, Bool.and_eq_true, decide_eq_true_eq] at ha hb
    exact State.spillsBefore_iff.2 (.inl (by omega))

/-! ### The walk (R66) -/

/-- The airflow that a zone adds when it spills (R66). -/
def State.spillGain (s : State) (z : ZoneId) : Nat := (s.zoneCfg z).qd * (s.zoneCfg z).psp / 100

/-- The airflow that a set of zones adds when they all spill. -/
def State.spillSum (s : State) (g : ZoneId → Bool) : Nat := ∑ z : ZoneId, if g z then s.spillGain z else 0

theorem State.spillSum_insert {g g' : ZoneId → Bool} {x : ZoneId} (hx : g x = false) (hg : ∀ z, g' z = true ↔ z = x ∨ g z = true) :
    s.spillSum g' = s.spillGain x + s.spillSum g :=
  sum_ite_insert (by simp [hx]) hg

theorem State.spillSum_none {g : ZoneId → Bool} (h : ∀ z, g z = false) : s.spillSum g = 0 := by
  simp [State.spillSum, h]

/-- What a walk has come to from an airflow and a set of openings: the zones of the spill set have added their air and stand at
their spill openings. -/
structure Walk.From (s : State) (air : Nat) (base : Vector Nat 8) (w : Walk) : Prop where
  airflow : w.airflow = air + s.spillSum (look w.spill)
  openings : ∀ z, look w.openings z = if look w.spill z then (s.zoneCfg z).psp else look base z

theorem Walk.From.start (air : Nat) (base : Vector Nat 8) : Walk.From s air base ⟨air, base, Vector.replicate 8 false⟩ where
  airflow := by rw [State.spillSum_none fun z => look_replicate false z]; rfl
  openings z := by simp

theorem Walk.From.spillZone {air : Nat} {base : Vector Nat 8} {w : Walk} {x : ZoneId} (h : Walk.From s air base w)
    (hx : look w.spill x = false) : Walk.From s air base (s.spillZone w x) where
  airflow := by
    have hsum : s.spillSum (look (put w.spill x true)) = s.spillGain x + s.spillSum (look w.spill) :=
      State.spillSum_insert hx fun z => by
        rw [look_put]
        split <;> simp_all
    have hw := h.airflow
    change w.airflow + s.spillGain x = air + s.spillSum (look (put w.spill x true))
    omega
  openings z := by
    change look (put w.openings x _) z = if look (put w.spill x true) z then _ else _
    rw [look_put, look_put]
    split
    · next hz => rw [hz]; rfl
    · exact h.openings z

theorem Walk.From.spillWalk {air : Nat} {base : Vector Nat 8} {qmin : Nat} {zs : List ZoneId} {w : Walk} (h : Walk.From s air base w)
    (hzs : zs.Nodup) (hnew : ∀ z ∈ zs, look w.spill z = false) : Walk.From s air base (s.spillWalk qmin zs w) := by
  induction zs generalizing w with
  | nil => exact h
  | cons x zs ih =>
    obtain ⟨hx, hzs⟩ := List.nodup_cons.1 hzs
    unfold State.spillWalk
    split
    · exact h
    · refine ih (h.spillZone (hnew x List.mem_cons_self)) hzs fun z hz => ?_
      have hne : z ≠ x := fun e => hx (e ▸ hz)
      exact (look_put_other _ _ _ _ hne).trans (hnew z (List.mem_cons_of_mem x hz))

/-- A sorted walk spills a zone exactly when the airflow, with all the zones before it, lies below Qmin: the walk adds, so it has not
stopped before. -/
theorem State.spillWalk_spill {qmin : Nat} {zs : List ZoneId} {w : Walk} (hzs : zs.Pairwise fun a b => s.spillsBefore a b = true)
    (z : ZoneId) : look (s.spillWalk qmin zs w).spill z = true ↔
      look w.spill z = true ∨ (z ∈ zs ∧ w.airflow + s.spillSum (fun y => decide (y ∈ zs) && s.spillsBefore y z) < qmin) := by
  induction zs generalizing w with
  | nil => simp [State.spillWalk]
  | cons x zs ih =>
    obtain ⟨hfirst, hzs⟩ := List.pairwise_cons.1 hzs
    have hx : x ∉ zs := fun hm => by simpa [State.spillsBefore_irrefl] using hfirst x hm
    unfold State.spillWalk
    split
    · next hmin =>
      have hno : ∀ k, ¬w.airflow + k < qmin := fun k => by omega
      simp [hno]
    · next hmin =>
      rw [ih hzs, show (s.spillZone w x).spill = put w.spill x true from rfl, look_put,
        show (s.spillZone w x).airflow = w.airflow + s.spillGain x from rfl]
      by_cases hz : z = x
      · subst hz
        have hnone : s.spillSum (fun y => decide (y ∈ z :: zs) && s.spillsBefore y z) = 0 :=
          State.spillSum_none fun y => by
            by_cases hy : y = z
            · simp [hy, State.spillsBefore_irrefl]
            · by_cases hm : y ∈ zs
              · simp [State.spillsBefore_asymm (hfirst y hm)]
              · simp [hy, hm]
        rw [hnone, Nat.add_zero, if_pos rfl]
        exact iff_of_true (.inl rfl) (.inr ⟨List.mem_cons_self, Nat.not_le.1 hmin⟩)
      · rw [if_neg hz]
        have hmem : z ∈ x :: zs ↔ z ∈ zs := by simp [hz]
        rw [hmem]
        refine or_congr_right (and_congr_right fun hm => ?_)
        have hsum : s.spillSum (fun y => decide (y ∈ x :: zs) && s.spillsBefore y z)
            = s.spillGain x + s.spillSum (fun y => decide (y ∈ zs) && s.spillsBefore y z) :=
          State.spillSum_insert (by simp [hx]) fun y => by
            by_cases hy : y = x
            · simp [hy, hfirst z hm]
            · simp [hy]
        rw [hsum, Nat.add_assoc]

end

end Sys2Proof.Machine
end

section
/-! PROOF. The computation (R54 to R68): the served set, the capacity, the openings, the airflow and the reheat, figure by figure. -/

namespace Sys2Proof.Machine

section
variable {s : State} {h : HouseState} {f : Figures}

/-! ### The capacity (R55, R57 to R59) -/

/-- The figures of a computation, with the raw capacity and the capacity that its house state gives. -/
theorem State.compute_eq_figures (hf : s.compute h = some f) :
    ∃ raw c, f = s.figures h raw c
      ∧ (h.conditions = true → raw = some (s.rawCapacity (s.servedSet h))
          ∧ c = min (max (s.rawCapacity (s.servedSet h)) (s.cmin.getD 0)) s.cap ∧ s.cmin.getD 0 ≤ c)
      ∧ (h.conditions = false → raw = none ∧ c = 0) := by
  cases hc : h.conditions with
  | false =>
    rw [State.compute_fan hc] at hf
    exact ⟨none, 0, (Option.some.inj hf).symm, fun h' => (nomatch h'), fun _ => ⟨rfl, rfl⟩⟩
  | true =>
    simp only [State.compute, if_pos hc] at hf
    split at hf
    · cases hf
    · next hmin =>
      exact ⟨_, _, (Option.some.inj hf).symm, fun _ => ⟨rfl, rfl, Nat.not_lt.1 hmin⟩, fun h' => (nomatch h')⟩

/-- A zone that is served in COOL, HEAT or DRY calls, so it is in play and enabled (R17, R55). -/
theorem State.enabled_of_served (hplay : CallsInPlay s) (hc : h.conditions = true) {z : ZoneId}
    (hz : look (s.servedSet h) z = true) : (s.zoneCfg z).enabled = true := by
  have hcall : (s.zone z).call ≠ .none := by
    intro hnone
    cases h <;> simp_all [State.servedSet, HouseState.conditions]
  exact ((State.inPlay_iff s z).1 (hplay.plays z hcall)).1

theorem State.rawCapacity_eq (served : Vector Bool 8) :
    s.rawCapacity served = (∑ z : ZoneId, if look served z then (s.zone z).demand * (s.zoneCfg z).qd else 0)
      / ∑ z : ZoneId, if (s.zoneCfg z).enabled then (s.zoneCfg z).qd else 0 := by
  simp only [State.rawCapacity, State.qAll, sumIx_eq_sum]

/-- No demand is above 100, so the served zones ask for at most the whole house (R21, R57). -/
theorem State.rawCapacity_le (hcalls : CallsHold s) {served : Vector Bool 8}
    (hserved : ∀ z, look served z = true → (s.zoneCfg z).enabled = true) : s.rawCapacity served ≤ 100 := by
  rw [State.rawCapacity_eq]
  refine Nat.div_le_of_le_mul ?_
  rw [Nat.mul_comm, Finset.mul_sum]
  refine Finset.sum_le_sum fun z _ => ?_
  split
  · next hz =>
    obtain ⟨-, hdemand, -⟩ := hcalls z
    rw [if_pos (hserved z hz)]
    exact Nat.mul_le_mul_right _ hdemand
  · exact Nat.zero_le _

theorem State.servedSet_iff (z : ZoneId) :
    (h = .cool → (look (s.servedSet h) z = true ↔ (s.zone z).call = .cool))
      ∧ (h = .heat → (look (s.servedSet h) z = true ↔ (s.zone z).call = .heat))
      ∧ (h = .dry → (look (s.servedSet h) z = true ↔ (s.zone z).call = .dry))
      ∧ (h = .fan ∨ h = .shed → (look (s.servedSet h) z = true ↔ (s.zone z).fan = true ∧ s.inPlay z = true)) := by
  refine ⟨?_, ?_, ?_, ?_⟩
  · rintro rfl
    simp [State.servedSet]
  · rintro rfl
    simp [State.servedSet]
  · rintro rfl
    simp [State.servedSet]
  · rintro (rfl | rfl) <;> simp [State.servedSet, State.fanCounts]

/-! ### Openings (R60, R61) -/

theorem ZoneCfg.valid_airflow {c : ZoneCfg} (h : c.valid = true) : c.pmin ≤ 60 ∧ c.spillRank ≤ 8 ∧ c.psp ≤ 100 := by
  simp only [ZoneCfg.valid, Bool.and_eq_true, decide_eq_true_eq] at h
  obtain ⟨⟨⟨⟨⟨⟨⟨⟨-, hpmin⟩, hrank⟩, hpsp⟩, -⟩, -⟩, -⟩, -⟩, -⟩ := h
  exact ⟨hpmin, hrank, hpsp.2⟩

theorem TablesHold.zone_valid (htab : TablesHold s) (z : ZoneId) : (s.zoneCfg z).valid = true := by
  obtain ⟨-, hzones, -⟩ := (Tables.valid_iff _).1 htab
  exact hzones z

/-- The opening of a zone before any spill (R60, R61). -/
def State.baseOpening (s : State) (h : HouseState) (z : ZoneId) : Nat :=
  if (s.channel z).state = .fault then
    if (s.channel z).homed then (s.channel z).count * 100 / (s.damperCfg z).stroke else 100
  else if look (s.servedSet h) z then
    if h.conditions then (s.zoneCfg z).pmin + (100 - (s.zoneCfg z).pmin) * (s.zone z).demand / 100 else 100
  else 0

theorem State.look_baseOpenings (z : ZoneId) : look (s.baseOpenings h (s.servedSet h)) z = s.baseOpening h z := by
  have hassumed : s.assumedOpening z
      = if (s.channel z).homed then (s.channel z).count * 100 / (s.damperCfg z).stroke else 100 := by
    unfold State.assumedOpening State.reportedOpening
    split <;> rfl
  simp only [State.baseOpenings, look_tab, State.baseOpening, State.faulted, decide_eq_true_eq, hassumed, servedOpening]

theorem State.baseOpening_le (htab : TablesHold s) (hcalls : CallsHold s) (hpos : PositionsHold s) (z : ZoneId) :
    s.baseOpening h z ≤ 100 := by
  obtain ⟨hpmin, -, -⟩ := ZoneCfg.valid_airflow (htab.zone_valid z)
  obtain ⟨-, hdemand, -⟩ := hcalls z
  unfold State.baseOpening
  split_ifs
  · exact Nat.div_le_of_le_mul (Nat.mul_le_mul_right 100 (hpos.counts z))
  · exact Nat.le_refl _
  · have hpart : (100 - (s.zoneCfg z).pmin) * (s.zone z).demand / 100 ≤ 100 - (s.zoneCfg z).pmin := by
      refine Nat.div_le_of_le_mul ?_
      rw [Nat.mul_comm 100]
      exact Nat.mul_le_mul_left _ hdemand
    omega
  · exact Nat.le_refl _
  · exact Nat.zero_le _

/-! ### Airflow, spill and reheat (R62 to R68) -/

/-- The airflow of step 4: what the openings before any spill pass, in DRY scaled once (R62, R63). -/
def State.airBefore (s : State) (h : HouseState) : Nat :=
  let air := ∑ z : ZoneId, (s.zoneCfg z).qd * s.baseOpening h z / 100
  if h = .dry then air * s.profile.dryFactor / 100 else air

theorem State.dryScaled_airSum : s.dryScaled h (s.airSum (s.baseOpenings h (s.servedSet h))) = s.airBefore h := by
  simp only [State.dryScaled, State.airBefore, State.airSum, sumIx_eq_sum, State.look_baseOpenings]

/-- The spill walk of a computation between two limits. -/
def State.walked (s : State) (h : HouseState) (lo hi : Nat) : Walk :=
  s.spillWalk lo (s.spillOrder (s.servedSet h))
    ⟨min (s.airBefore h) hi, s.baseOpenings h (s.servedSet h), Vector.replicate 8 false⟩

theorem State.walked_from (lo hi : Nat) :
    Walk.From s (min (s.airBefore h) hi) (s.baseOpenings h (s.servedSet h)) (s.walked h lo hi) := by
  refine (Walk.From.start _ _).spillWalk ?_ fun z _ => look_replicate false z
  refine State.spillOrder_sorted.imp fun {a b} hab e => ?_
  rw [e, State.spillsBefore_irrefl] at hab
  cases hab

theorem State.walked_spill (lo hi : Nat) (z : ZoneId) :
    look (s.walked h lo hi).spill z = true ↔ s.maySpill (s.servedSet h) z = true
      ∧ min (s.airBefore h) hi + s.spillSum (fun y => s.maySpill (s.servedSet h) y && s.spillsBefore y z) < lo := by
  rw [State.walked, State.spillWalk_spill State.spillOrder_sorted]
  simp [State.mem_spillOrder]

/-- The figures of steps 3 to 6, with the limits that the walk takes: those of the air handler while they are bound (R1, R64). -/
theorem State.figures_walked (raw : Option Nat) (c : Nat) :
    ∃ lo hi, (∀ lo' hi', s.airLimits = some (lo', hi') → lo = lo' ∧ hi = hi')
      ∧ (s.figures h raw c).record =
        { served := s.servedSet h, raw, capacity := some c, airSum := some (s.airBefore h)
          commanded := some (s.figures h raw c).commanded, spill := (s.walked h lo hi).spill
          short := decide ((s.walked h lo hi).airflow < lo), openings := some (s.walked h lo hi).openings }
      ∧ (s.figures h raw c).commanded =
        if (s.walked h lo hi).airflow < lo then lo else min (s.walked h lo hi).airflow hi := by
  refine ⟨(s.airLimits.getD (0, s.airBefore h)).1, (s.airLimits.getD (0, s.airBefore h)).2, fun lo' hi' hl => ?_, ?_, ?_⟩
  · rw [hl]
    exact ⟨rfl, rfl⟩
  · simp only [State.figures, State.dryScaled_airSum]
    rfl
  · simp only [State.figures, State.dryScaled_airSum, decide_eq_true_eq]
    rfl

theorem State.decideReheat_iff : s.decideReheat h = true ↔ h = .dry ∧ s.reheatPresent = true
    ∧ ∃ z t, (s.zone z).call = .dry ∧ (s.zone z).t = some t ∧ t < (s.zone z).sh + 15 := by
  have hzone : ∀ z : ZoneId, (match (s.zone z).t with | some t => decide (t < (s.zone z).sh + 15) | none => false) = true
      ↔ ∃ t, (s.zone z).t = some t ∧ t < (s.zone z).sh + 15 := by
    intro z
    cases (s.zone z).t <;> simp
  simp only [State.decideReheat, Bool.and_eq_true, decide_eq_true_eq, anyIx_iff, and_assoc]
  refine and_congr_right fun _ => and_congr_right fun _ => exists_congr fun z => ?_
  rw [exists_and_left]
  exact and_congr_right fun _ => hzone z

/-- With valid tables the spill order lists every zone of rank 1 and up that may spill (R65). -/
theorem State.maySpill_eq (htab : TablesHold s) (served : Vector Bool 8) (z : ZoneId) :
    s.maySpill served z = (decide (1 ≤ (s.zoneCfg z).spillRank) && !look served z && (s.zoneCfg z).enabled && !s.isLost z
      && !s.faulted z) := by
  obtain ⟨-, hrank, -⟩ := ZoneCfg.valid_airflow (htab.zone_valid z)
  simp only [State.maySpill, hrank, and_true]

end

/-- Settles O49: the capacity by its fit, the openings and the airflow by what the walk has come to, the spill set by its order. -/
theorem computationKeepsItsLimits : Obligations.ComputationKeepsItsLimits := by
  intro s h f htab hcalls hplay hpos hf
  obtain ⟨raw, c, rfl, hrun, hoff⟩ := State.compute_eq_figures hf
  obtain ⟨lo, hi, hlimits, hrecord, hcommanded⟩ := State.figures_walked (s := s) (h := h) raw c
  have hbase : ∀ z, s.baseOpening h z ≤ 100 := State.baseOpening_le htab hcalls hpos
  have hwalk := State.walked_from (s := s) (h := h) lo hi
  intro served spilled faulted base air scaled listed before added
  have hserved : served = look (s.servedSet h) := rfl
  have hspilled : spilled = look (s.walked h lo hi).spill := by
    funext z
    exact congrArg (fun r : Computation => look r.spill z) hrecord
  have hbaseEq : base = s.baseOpening h := by
    funext z
    simp only [base, faulted, hserved, State.baseOpening, decide_eq_true_eq]
  have hscaled : scaled = s.airBefore h := by
    simp only [scaled, air, hbaseEq, State.airBefore]
  have hlisted : listed = s.maySpill (s.servedSet h) := by
    funext z
    exact (State.maySpill_eq htab _ z).symm
  have hadded : added = s.spillSum := rfl
  have hbefore : before = s.spillsBefore := rfl
  rw [hspilled, hscaled, hlisted, hbaseEq, hadded, hbefore, hserved, hrecord]
  refine ⟨fun hc => ?_, fun hc => (hoff hc).symm, rfl, rfl, State.servedSet_iff, rfl, fun lo' hi' hl hle => ?_, ⟨_, rfl, fun z => ?_⟩,
    State.decideReheat_iff⟩
  · obtain ⟨hraw, hfit, hmin⟩ := hrun hc
    refine ⟨hmin, ?_, _, hraw, ?_, hfit, State.rawCapacity_eq _⟩
    · exact hfit.trans_le (Nat.min_le_right _ _)
    · exact State.rawCapacity_le hcalls fun z => State.enabled_of_served hplay hc
  · obtain ⟨rfl, rfl⟩ := hlimits lo' hi' hl
    rw [hcommanded, ← hwalk.airflow]
    refine ⟨?_, ?_, State.walked_spill lo hi, decide_eq_true_iff, ?_⟩
    · split <;> omega
    · split <;> omega
    · simp only [decide_eq_true_eq]
  · rw [hwalk.openings, State.look_baseOpenings]
    obtain ⟨-, -, hpsp⟩ := ZoneCfg.valid_airflow (htab.zone_valid z)
    refine ⟨?_, rfl⟩
    split
    · exact hpsp
    · exact hbase z

end Sys2Proof.Machine
end

section
/-! PROOF. START-UP HOMING JOIN (R82, R84, R99, R102): the channels join for HOME one behind the other, and grants take them from the
head. -/

namespace Sys2Proof.Machine

/-! ### Grants and the queue (R84) -/

section
variable {s : State} {c : ChannelId}

/-- Grants take channels from the head of the queue. -/
theorem State.grantLoop_queue (s : State) (n : Nat) : ∃ m, (s.grantLoop n).queue = s.queue.drop m := by
  induction n generalizing s with
  | zero => exact ⟨0, rfl⟩
  | succ n ih =>
    unfold State.grantLoop
    split
    · obtain ⟨m, hm⟩ := ih s.grantHead
      exact ⟨m + 1, by rw [hm, State.grantHead_queue, List.drop_tail]⟩
    · exact ⟨0, rfl⟩

theorem State.serveQueue_queue (s : State) : ∃ m, s.serveQueue.queue = s.queue.drop m := by
  obtain ⟨m, hm⟩ := s.settleLimit.grantLoop_queue s.settleLimit.queue.length
  exact ⟨m, hm.trans (by simp)⟩

theorem State.mem_of_mem_serveQueue (h : c ∈ s.serveQueue.queue) : c ∈ s.queue := by
  obtain ⟨m, hm⟩ := s.serveQueue_queue
  exact List.mem_of_mem_drop (hm ▸ h)

/-- In SAG nothing is granted (R84, R175). -/
theorem State.serveQueue_queue_of_sag (h : s.supply.supply = .sag) : s.serveQueue.queue = s.queue := by
  have hgrant : s.settleLimit.mayGrant = false := by simp [State.mayGrant, h]
  have hloop : ∀ n, s.settleLimit.grantLoop n = s.settleLimit := fun n => by
    cases n with
    | zero => rfl
    | succ n => simp [State.grantLoop, hgrant]
  rw [State.serveQueue, hloop]
  simp

/-! ### Channels that join in order (R82, R102) -/

/-- A channel above all that wait joins at the tail. -/
theorem State.queueWith_tail (h : ∀ k ∈ s.queue, k < c) : s.queueWith c = s.queue ++ [c] := by
  have hahead : ∀ k ∈ s.queue, (!s.standsBehind c k) = true := fun k hk => by
    simp [State.standsBehind, le_of_lt (h k hk)]
  rw [State.queueWith, List.takeWhile_eq_self_iff.2 hahead, List.dropWhile_eq_nil_iff.2 hahead]

theorem State.joinQueue_channel (s : State) (c : ChannelId) (g : Goal) :
    (s.joinQueue c g).channel c = { s.channel c with state := .queued, goal := some g, joined := s.now } :=
  State.channel_setChannel_same s c _

/-- An UNHOMED channel that may join for HOME does so when it comes to join. -/
theorem State.comeToJoin_home (hstate : (s.channel c).state = .unhomed) (h : s.MayHome c) :
    s.comeToJoin c = s.joinQueue c .home := by
  obtain ⟨hlatch, hhoming, hrun⟩ := h
  have hcan : s.canJoin c = true := (s.canJoin_iff c).2 ⟨hlatch, hrun⟩
  have hjoin : s.joinHome c = s.joinQueue c .home := State.joinHome_joins hstate ⟨hlatch, hhoming, hrun⟩
  simp [State.comeToJoin, Channel.settleOver, State.joinsNow, State.tryJoin, Channel.idleWaiting, hstate, hcan, hhoming, hjoin]

/-- Channels that may all join for HOME, in order and above all that wait, wait behind them in that order. -/
theorem State.homeAll_queue {l : List ChannelId} (hl : l.Pairwise (· < ·)) (hq : ∀ k ∈ s.queue, ∀ c ∈ l, k < c)
    (hhome : ∀ c ∈ l, (s.channel c).state = .unhomed ∧ s.MayHome c) :
    (l.foldl (fun t c => t.comeToJoin c) s).queue = s.queue ++ l := by
  induction l generalizing s with
  | nil => simp
  | cons c l ih =>
    obtain ⟨hfirst, hl⟩ := List.pairwise_cons.1 hl
    obtain ⟨hstate, hmay⟩ := hhome c List.mem_cons_self
    have hqueue : (s.joinQueue c .home).queue = s.queue ++ [c] :=
      State.queueWith_tail fun k hk => hq k hk c List.mem_cons_self
    rw [List.foldl_cons, State.comeToJoin_home hstate hmay, ih hl ?_ ?_, hqueue, List.append_assoc, List.singleton_append]
    · intro k hk x hx
      rw [hqueue] at hk
      rcases List.mem_append.1 hk with hk | hk
      · exact hq k hk x (List.mem_cons_of_mem c hx)
      · rw [List.mem_singleton.1 hk]
        exact hfirst x hx
    · intro x hx
      obtain ⟨hxstate, hxmay⟩ := hhome x (List.mem_cons_of_mem c hx)
      have hchannel : (s.joinQueue c .home).channel x = s.channel x :=
        (State.joinQueue_other .home (Fin.ne_of_gt (hfirst x hx))).1
      unfold State.MayHome at hxmay ⊢
      rw [hchannel]
      simpa using ⟨hxstate, hxmay⟩

end

/-! ### The homing join as a whole (R102) -/

section
variable {s : State} (h : ∀ c : ChannelId, (s.channel c).state = .unhomed ∧ (s.channel c).lastOff + ms (s.channel c).restMs ≤ s.now)
include h

theorem State.startHoming_latched (hq : s.queue = []) (hlatch : s.supply.latch = true) :
    s.startHoming.queue = [] ∧ s.startHoming.channels = s.channels := by
  obtain ⟨u, hu⟩ : ∃ u, u = { s with homingDue := none } := ⟨_, rfl⟩
  have hrests : (u.forIx fun c t => t.comeToJoin c) = u :=
    State.forIx_induct (fun t => t = u) _ u rfl fun c t ht => by
      subst ht
      refine State.comeToJoin_of_not_comes fun hcomes => ?_
      rcases hcomes with ⟨hclear, -⟩ | ⟨hsettles, -⟩
      · rw [hu] at hclear
        exact Bool.false_ne_true (hclear.symm.trans hlatch)
      · rw [hu] at hsettles
        obtain ⟨hstate, -⟩ := h c
        exact absurd (hstate.symm.trans hsettles) (by decide)
  have hqueue : u.queue = [] := by rw [hu]; exact hq
  have hserve : s.startHoming = u.serveQueue := by rw [← hrests, hu]; rfl
  rw [hserve]
  refine ⟨?_, look_ext fun c => ?_⟩
  · obtain ⟨m, hm⟩ := u.serveQueue_queue
    rw [hm, hqueue, List.drop_nil]
  · refine (State.serveQueue_channel (c := c) (by simp [hqueue])).trans ?_
    rw [hu]
    rfl

theorem State.startHoming_joins (hlatch : s.supply.latch = false) (c : ChannelId) :
    JoinedFor (s.startHoming.channel c) .home := by
  obtain ⟨u, hu⟩ : ∃ u, u = { s with homingDue := none } := ⟨_, rfl⟩
  obtain ⟨v, ⟨hnow, hsupply, hhoming⟩, hchannel, hat⟩ := State.forIx_at (fun t => t.channel c)
    (fun t => t.now = s.now ∧ t.supply = s.supply ∧ t.homingDue = none) (fun c t => t.comeToJoin c) c u
    (by rw [hu]; exact ⟨rfl, rfl, rfl⟩) (fun j t ht => by simpa using ht) (fun j t hj _ => t.comeToJoin_other j c (Ne.symm hj))
  have hcu : v.channel c = s.channel c := hchannel.trans (by rw [hu]; rfl)
  obtain ⟨hstate, hrun⟩ := h c
  have hcome : v.comeToJoin c = v.joinQueue c .home :=
    State.comeToJoin_home (by rw [hcu]; exact hstate) ⟨by rw [hsupply]; exact hlatch, hhoming, by rw [hcu, hnow]; exact hrun⟩
  have hserve : s.startHoming = (u.forIx fun c t => t.comeToJoin c).serveQueue := by rw [hu]; rfl
  rw [hserve]
  refine State.serveQueue_keeps JoinedFor.granted_home ?_
  rw [hat, hcome, State.joinQueue_channel]
  exact ⟨rfl, .inl rfl⟩

theorem State.startHoming_queue (hq : s.queue = []) (hlatch : s.supply.latch = false) :
    (∃ n, s.startHoming.queue = (List.finRange 8).drop n)
      ∧ (s.supply.supply = .sag → s.startHoming.queue = List.finRange 8) := by
  have hall : (State.forIx (n := 8) (fun c t => t.comeToJoin c) { s with homingDue := none }).queue = List.finRange 8 := by
    refine (State.homeAll_queue (s := { s with homingDue := none }) (List.pairwise_lt_finRange 8) ?_ fun c _ => ?_).trans ?_
    · intro k hk
      change k ∈ s.queue at hk
      rw [hq] at hk
      cases hk
    · obtain ⟨hstate, hrun⟩ := h c
      exact ⟨hstate, hlatch, rfl, hrun⟩
    · change s.queue ++ _ = _
      rw [hq, List.nil_append]
  unfold State.startHoming
  refine ⟨?_, fun hsag => ?_⟩
  · obtain ⟨m, hm⟩ := State.serveQueue_queue (State.forIx (n := 8) (fun c t => t.comeToJoin c) { s with homingDue := none })
    exact ⟨m, by rw [hm, hall]⟩
  · rw [State.serveQueue_queue_of_sag (by simpa using hsag), hall]

end

end Sys2Proof.Machine
end

section
/-! PROOF. A published opening set (R70, R77 to R81, R92): what each channel makes of its own opening, by its state. -/

namespace Sys2Proof.Machine

/-! ### A channel takes its opening (R77) -/

/-- A channel with a published opening as a pending target that it has not taken (R77). -/
def Channel.given (r : Channel) (p : Nat) : Channel := { r with target := some p, taken := false }

/-- What a publication makes of one channel: it takes its opening, and goes on if its time to join has come. -/
def State.handOpening (s : State) (c : ChannelId) (p : Nat) : State := (s.takeTarget c p).comeToJoin c

section
variable {s : State} {c k : ChannelId} {p : Nat}

@[simp] theorem State.setChannel_setChannel (s : State) (c : ChannelId) (r r' : Channel) :
    (s.setChannel c r).setChannel c r' = s.setChannel c r' := by
  simp [State.setChannel]

/-- A channel that is not homed, or at rest for another reason than IDLE, keeps its opening as a target not taken. -/
theorem State.takeTarget_keeps (h : (s.channel c).homed = false ∨ (s.channel c).state = .settling ∨ (s.channel c).state = .fault) :
    s.takeTarget c p = s.setChannel c ((s.channel c).given p) := by
  rcases h with h | h | h <;> simp [State.takeTarget, Channel.given, h]

theorem State.takeTarget_idle (hh : (s.channel c).homed = true) (h : (s.channel c).state = .idle) :
    s.takeTarget c p = (s.setChannel c ((s.channel c).given p)).adopt c := by
  simp [State.takeTarget, Channel.given, hh, h]

theorem State.takeTarget_queued (hh : (s.channel c).homed = true) (h : (s.channel c).state = .queued) :
    s.takeTarget c p = (s.setChannel c ((s.channel c).given p)).retargetQueued c (goalFor (s.damperCfg c) p) := by
  simp [State.takeTarget, Channel.given, hh, h]
  rfl

theorem State.takeTarget_driving (hh : (s.channel c).homed = true) (h : (s.channel c).driving = true) :
    s.takeTarget c p = (s.setChannel c ((s.channel c).given p)).retargetDriving c (goalFor (s.damperCfg c) p) := by
  have hstate : (s.channel c).state = .moving ∨ (s.channel c).state = .seeking := by simpa [Channel.driving] using h
  rcases hstate with h | h
  · simp [State.takeTarget, Channel.given, hh, h]
    rfl
  · simp [State.takeTarget, Channel.given, hh, h]
    rfl

theorem State.retargetQueued_other (g : Goal) (h : k ≠ c) :
    (s.retargetQueued c g).channel k = s.channel k ∧ (k ∈ (s.retargetQueued c g).queue ↔ k ∈ s.queue) := by
  have hset : ∀ r, (s.setChannel c r).channel k = s.channel k := fun r => State.channel_setChannel_other s c k r h
  simp only [State.retargetQueued]
  split
  · exact ⟨hset _, .rfl⟩
  · refine ⟨(State.channel_setChannel_other _ c k _ h).trans (hset _), ?_⟩
    simp [State.leaveQueue, h]

theorem State.retargetDriving_other (g : Goal) (h : k ≠ c) :
    (s.retargetDriving c g).channel k = s.channel k ∧ (k ∈ (s.retargetDriving c g).queue ↔ k ∈ s.queue) := by
  have hset : ∀ r, (s.setChannel c r).channel k = s.channel k := fun r => State.channel_setChannel_other s c k r h
  simp only [State.retargetDriving]
  split
  · split
    · exact ⟨hset _, .rfl⟩
    · exact ⟨hset _, .rfl⟩
  · exact ⟨rfl, .rfl⟩

/-- The four ways in which a channel takes its opening (R77 to R81). -/
theorem State.takeTarget_cases (s : State) (c : ChannelId) (p : Nat) :
    let u := s.setChannel c ((s.channel c).given p)
    s.takeTarget c p = u ∨ s.takeTarget c p = u.adopt c ∨ (∃ g, s.takeTarget c p = u.retargetQueued c g)
      ∨ ∃ g, s.takeTarget c p = u.retargetDriving c g := by
  dsimp only
  unfold State.takeTarget Channel.given
  dsimp only
  split
  · split
    · exact .inr (.inl rfl)
    · exact .inr (.inr (.inl ⟨_, rfl⟩))
    · exact .inr (.inr (.inr ⟨_, rfl⟩))
    · exact .inr (.inr (.inr ⟨_, rfl⟩))
    all_goals exact .inl rfl
  · exact .inl rfl

theorem State.takeTarget_other (h : k ≠ c) :
    (s.takeTarget c p).channel k = s.channel k ∧ (k ∈ (s.takeTarget c p).queue ↔ k ∈ s.queue) := by
  have hset : (s.setChannel c ((s.channel c).given p)).channel k = s.channel k := State.channel_setChannel_other s c k _ h
  rcases s.takeTarget_cases c p with hu | hu | ⟨g, hu⟩ | ⟨g, hu⟩ <;> rw [hu]
  · exact ⟨hset, .rfl⟩
  · exact ⟨(State.adopt_other h).trans hset, State.adopt_queue_other (s := s.setChannel c _) h⟩
  · obtain ⟨hchannel, hqueue⟩ := State.retargetQueued_other (s := s.setChannel c ((s.channel c).given p)) g h
    exact ⟨hchannel.trans hset, hqueue⟩
  · obtain ⟨hchannel, hqueue⟩ := State.retargetDriving_other (s := s.setChannel c ((s.channel c).given p)) g h
    exact ⟨hchannel.trans hset, hqueue⟩

theorem State.handOpening_other (h : k ≠ c) :
    (s.handOpening c p).channel k = s.channel k ∧ (k ∈ (s.handOpening c p).queue ↔ k ∈ s.queue) := by
  obtain ⟨hchannel, hqueue⟩ := State.takeTarget_other (s := s) (p := p) h
  exact ⟨(State.comeToJoin_other _ c k h).trans hchannel, (State.comeToJoin_queue_other h).trans hqueue⟩

/-! ### One channel in a publication (R70) -/

/-- What stands of a channel once the grants that follow a state have been made. -/
structure GrantsFollow (u : State) (c : ChannelId) (r : Channel) (q : List ChannelId) : Prop where
  rests : c ∉ u.queue → r = u.channel c ∧ c ∉ q
  keeps : ∀ P : Channel → Prop, KeptByGrants P → P (u.channel c) → P r

/-- Nothing that the damper drives read beside the channels and the queue distinguishes two states. -/
def DrivesAlike (s t : State) : Prop :=
  t.now = s.now ∧ t.supply = s.supply ∧ t.tables = s.tables ∧ t.homingDue = s.homingDue

theorem State.publish_eq (s : State) (v : Vector Nat 8) :
    s.publish v = (s.forIx fun (c : ChannelId) t => t.handOpening c (look v c)).serveQueue := rfl

/-- In a publication each channel meets a state in which the others have left it as it was, and grants follow. -/
theorem State.publish_at (s : State) (v : Vector Nat 8) (c : ChannelId) :
    ∃ u : State, DrivesAlike s u ∧ u.channel c = s.channel c ∧ (c ∈ u.queue ↔ c ∈ s.queue)
      ∧ GrantsFollow (u.handOpening c (look v c)) c ((s.publish v).channel c) (s.publish v).queue := by
  obtain ⟨u, hu, hsame, hat⟩ := State.forIx_at (fun t => (t.channel c, c ∈ t.queue)) (DrivesAlike s)
    (fun (c : ChannelId) t => t.handOpening c (look v c)) c s ⟨rfl, rfl, rfl, rfl⟩
    (fun j t ht => by simpa [DrivesAlike, State.handOpening] using ht)
    (fun j t hj _ => Prod.ext (State.handOpening_other (Ne.symm hj)).1 (propext (State.handOpening_other (Ne.symm hj)).2))
  obtain ⟨hchannel, hqueue⟩ := Prod.mk.inj hsame
  obtain ⟨hchannel', hqueue'⟩ := Prod.mk.inj hat
  rw [State.publish_eq]
  refine ⟨u, hu, hchannel, iff_of_eq hqueue, fun hout => ?_, fun P hP hr => ?_⟩
  · have hrests := fun hm => hout (hqueue'.mp hm)
    exact ⟨(State.serveQueue_channel hrests).trans hchannel', fun hm => hrests (State.mem_of_mem_serveQueue hm)⟩
  · exact State.serveQueue_keeps hP (by rw [hchannel']; exact hr)

end

end Sys2Proof.Machine
end

section
/-! PROOF. What a published opening makes of one channel, state by state (R77 to R82, R92). -/

namespace Sys2Proof.Machine

section
variable {s : State} {c : ChannelId} {p : Nat}

/-! ### Whose time to join has not come (R82, R92) -/

theorem Channel.settleOver_iff {r : Channel} {now : Time} :
    r.settleOver now = true ↔ r.state = .settling ∧ ∃ d, r.deadDue = some d ∧ d ≤ now := by
  cases hd : r.deadDue <;> simp [Channel.settleOver, due, hd]

theorem Channel.state_of_settleOver {r : Channel} {now : Time} (h : r.settleOver now = true) : r.state = .settling := by
  obtain ⟨hstate, -⟩ := Channel.settleOver_iff.1 h
  exact hstate

theorem Channel.settleOver_of_state {r : Channel} {now : Time} (h : r.state ≠ .settling) : r.settleOver now = false :=
  Bool.eq_false_iff.2 (mt Channel.state_of_settleOver h)

/-- A channel comes to join UNHOMED, IDLE with a target not taken, or at its settle end (R82, R92). -/
theorem not_comesToJoin {now : Time} (hu : (s.channel c).state ≠ .unhomed)
    (hi : (s.channel c).state = .idle → (s.channel c).taken = true)
    (hs : (s.channel c).settleOver now = false) : ¬ComesToJoin s now c := by
  rintro (⟨-, -, ⟨hunhomed, -⟩ | ⟨hidle, -, htaken⟩⟩ | hsettles)
  · exact hu hunhomed
  · exact Bool.false_ne_true (htaken.symm.trans (hi hidle))
  · exact Bool.false_ne_true (hs.symm.trans (Channel.settleOver_iff.2 hsettles))

/-- A record is written that leaves its channel nothing to join for. -/
theorem State.setChannel_comeToJoin {r : Channel} (hu : r.state ≠ .unhomed) (hi : r.state = .idle → r.taken = true)
    (hs : r.settleOver s.now = false) : (s.setChannel c r).comeToJoin c = s.setChannel c r :=
  State.comeToJoin_of_not_comes
    (not_comesToJoin (by rwa [State.channel_setChannel_same]) (by rwa [State.channel_setChannel_same])
      (by rwa [State.channel_setChannel_same]))

/-! ### An opening kept pending (R77) -/

theorem State.handOpening_keeps
    (h : (s.channel c).homed = false ∨ (s.channel c).state = .settling ∨ (s.channel c).state = .fault)
    (hu : (s.channel c).state ≠ .unhomed) (hi : (s.channel c).state ≠ .idle) (hs : (s.channel c).settleOver s.now = false) :
    s.handOpening c p = s.setChannel c ((s.channel c).given p) := by
  rw [State.handOpening, State.takeTarget_keeps h]
  exact State.setChannel_comeToJoin hu (fun hidle => absurd hidle hi) hs

/-! ### A channel to be homed (R82, R92) -/

/-- A channel that holds a target that it has not taken, and is not homed. -/
def Channel.Unplaced (p : Nat) (r : Channel) : Prop := r.target = some p ∧ r.taken = false ∧ r.homed = false

/-- Such a channel waits UNHOMED, outside the queue, or has joined for HOME. -/
theorem State.joinHome_unplaced (hq : c ∉ s.queue) (hstate : (s.channel c).state = .unhomed) (h : (s.channel c).Unplaced p) :
    ((s.joinHome c).channel c).Unplaced p
      ∧ ((((s.joinHome c).channel c).state = .unhomed ∧ c ∉ (s.joinHome c).queue) ∨ JoinedFor ((s.joinHome c).channel c) .home) := by
  by_cases hmay : s.MayHome c
  · rw [State.joinHome_joins hstate hmay, State.joinQueue_channel]
    exact ⟨h, .inr ⟨rfl, .inl rfl⟩⟩
  · rw [State.joinHome_stays hmay]
    exact ⟨h, .inl ⟨hstate, hq⟩⟩

theorem State.comeToJoin_unplaced (hq : c ∉ s.queue) (hstate : (s.channel c).state = .unhomed ∨ (s.channel c).settleOver s.now = true)
    (h : (s.channel c).Unplaced p) :
    let t := s.comeToJoin c
    (t.channel c).Unplaced p ∧ (((t.channel c).state = .unhomed ∧ c ∉ t.queue) ∨ JoinedFor (t.channel c) .home) := by
  obtain ⟨htarget, htaken, hhomed⟩ := h
  dsimp only
  rcases hstate with hstate | hover
  · have hcome : s.comeToJoin c = s.joinHome c := by
      by_cases hmay : s.MayHome c
      · rw [State.comeToJoin_home hstate hmay, State.joinHome_joins hstate hmay]
      · have hno : ¬ComesToJoin s s.now c := by
          rintro (⟨hlatch, hrun, ⟨-, hhoming⟩ | ⟨hidle, -⟩⟩ | ⟨hsettles, -⟩)
          · exact hmay ⟨hlatch, hhoming, hrun⟩
          · exact absurd (hstate.symm.trans hidle) (by decide)
          · exact absurd (hstate.symm.trans hsettles) (by decide)
        rw [State.comeToJoin_of_not_comes hno, State.joinHome_stays hmay]
    rw [hcome]
    exact State.joinHome_unplaced hq hstate ⟨htarget, htaken, hhomed⟩
  · have hcome : s.comeToJoin c
        = (s.setChannel c { s.channel c with deadDue := none, state := .unhomed, taken := false }).joinHome c := by
      simp [State.comeToJoin, hover, State.endSettling, hhomed]
    rw [hcome]
    refine State.joinHome_unplaced (s := s.setChannel c _) hq ?_ ?_
    · rw [State.channel_setChannel_same]
    · rw [State.channel_setChannel_same]
      exact ⟨htarget, rfl, hhomed⟩

theorem State.handOpening_unplaced (hq : c ∉ s.queue) (hhomed : (s.channel c).homed = false)
    (hstate : (s.channel c).state = .unhomed ∨ (s.channel c).settleOver s.now = true) :
    let t := s.handOpening c p
    (t.channel c).Unplaced p ∧ (((t.channel c).state = .unhomed ∧ c ∉ t.queue) ∨ JoinedFor (t.channel c) .home) := by
  have hchannel := State.channel_setChannel_same s c ((s.channel c).given p)
  simp only [State.handOpening, State.takeTarget_keeps (.inl hhomed)]
  refine State.comeToJoin_unplaced (s := s.setChannel c _) hq ?_ ?_
  · rw [hchannel]
    exact hstate
  · rw [hchannel]
    exact ⟨rfl, rfl, hhomed⟩

/-! ### A target adopted at rest (R78, R92) -/

/-- A channel that has adopted its target has nothing more to join for: it waits in the queue, is at its goal, or cannot join. -/
theorem State.adopt_comeToJoin (hidle : (s.channel c).state = .idle) (ht : (s.channel c).target = some p) :
    (s.adopt c).comeToJoin c = s.adopt c := by
  by_cases hm : TargetMoves (s.damperCfg c) p (s.channel c).count
  · cases hj : s.canJoin c with
    | true =>
      obtain ⟨⟨-, hstate⟩, -, htaken, -⟩ := State.adopt_joins ht hm hj
      obtain ⟨hhomes, hsettles⟩ : ((s.adopt c).channel c).state ≠ .unhomed ∧ ((s.adopt c).channel c).state ≠ .settling := by
        rcases hstate with h | h
        · rw [h]; decide
        · rw [h]; split <;> decide
      exact State.comeToJoin_of_not_comes (not_comesToJoin hhomes (fun _ => htaken) (Channel.settleOver_of_state hsettles))
    | false =>
      rw [State.adopt_waits ht hm hj]
      refine State.comeToJoin_of_not_comes ?_
      rintro (⟨hlatch, hrun, -⟩ | ⟨hsettles, -⟩)
      · rw [State.channel_setChannel_same] at hrun
        exact Bool.false_ne_true (hj.symm.trans ((s.canJoin_iff c).2 ⟨hlatch, hrun⟩))
      · rw [State.channel_setChannel_same] at hsettles
        exact absurd (hidle.symm.trans hsettles) (by decide)
  · rw [State.adopt_rests ht hm]
    exact State.setChannel_comeToJoin (by simp [hidle]) (fun _ => rfl) (by simp [Channel.settleOver, hidle])

/-- At its settle end a homed channel adopts a target that it has not taken (R92). -/
theorem State.comeToJoin_adopts (hover : (s.channel c).settleOver s.now = true) (hhomed : (s.channel c).homed = true)
    (ht : (s.channel c).target = some p ∧ (s.channel c).taken = false) :
    s.comeToJoin c = (s.setChannel c { s.channel c with deadDue := none, state := .idle }).adopt c := by
  simp [State.comeToJoin, hover, State.endSettling, hhomed, ht]

/-- A homed channel that is IDLE, or SETTLING with its settle end at this moment, adopts its opening as an IDLE one. -/
theorem State.handOpening_adopts (hhomed : (s.channel c).homed = true) {r : Channel}
    (h : ((s.channel c).state = .idle ∧ r = s.channel c)
      ∨ ((s.channel c).settleOver s.now = true ∧ r = { s.channel c with deadDue := none })) :
    s.handOpening c p = (s.setChannel c { r with state := .idle, target := some p, taken := false }).adopt c := by
  rcases h with ⟨hidle, rfl⟩ | ⟨hover, rfl⟩
  · have hgiven : (s.channel c).given p = { s.channel c with state := .idle, target := some p, taken := false } := by
      rw [Channel.given, ← hidle]
    rw [State.handOpening, State.takeTarget_idle hhomed hidle, hgiven]
    exact State.adopt_comeToJoin (p := p) (by rw [State.channel_setChannel_same]) (by rw [State.channel_setChannel_same])
  · obtain ⟨hstate, -⟩ := Channel.settleOver_iff.1 hover
    have hchannel := State.channel_setChannel_same s c ((s.channel c).given p)
    rw [State.handOpening, State.takeTarget_keeps (.inr (.inl hstate)), State.comeToJoin_adopts (p := p)]
    · rw [hchannel, State.setChannel_setChannel]
      rfl
    all_goals rw [hchannel]
    · exact hover
    · exact hhomed
    · exact ⟨rfl, rfl⟩

/-- What becomes of an IDLE channel with a target, once it has adopted it and grants have followed (R78, R82, R86). -/
theorem GrantsFollow.adopts {r y : Channel} {q : List ChannelId} (h : GrantsFollow (s.adopt c) c y q) (hq : c ∉ s.queue)
    (hr : s.channel c = { r with state := .idle, target := some p, taken := false }) :
    AdoptsTarget s.supply.latch s.now (s.damperCfg c) p r y := by
  have ht : (s.channel c).target = some p := by rw [hr]
  have hcount : (s.channel c).count = r.count := by rw [hr]
  have hjoin : s.canJoin c = true ↔ s.supply.latch = false ∧ r.lastOff + ms r.restMs ≤ s.now := by
    rw [State.canJoin_iff, hr]
  refine ⟨fun hm => ?_, fun hm hno => ?_, fun hm hlatch hrun => ?_⟩
  · have hadopt := State.adopt_rests ht (hcount ▸ hm)
    obtain ⟨hy, -⟩ := h.rests (by rw [hadopt]; exact hq)
    rw [hy, hadopt, State.channel_setChannel_same, hr]
  · have hwait : s.canJoin c = false := by
      rw [← Bool.not_eq_true, hjoin]
      rintro ⟨hlatch, hrun⟩
      rcases hno with hno | hno
      · exact Bool.false_ne_true (hlatch.symm.trans hno)
      · exact absurd hrun (Nat.not_le.2 hno)
    have hadopt := State.adopt_waits ht (hcount ▸ hm) hwait
    obtain ⟨hy, -⟩ := h.rests (by rw [hadopt]; exact hq)
    rw [hy, hadopt, State.channel_setChannel_same, hr]
  · have hjoined := State.adopt_joins ht (hcount ▸ hm) (hjoin.2 ⟨hlatch, hrun⟩)
    rw [hr] at hjoined
    exact h.keeps _ (Channel.JoinedForTarget.granted _ p _) hjoined

/-! ### A channel in the queue (R79) -/

/-- A goal that needs motion takes the place of the old one in the queue. -/
theorem State.retargetQueued_moves {g : Goal} (hm : (s.damperCfg c).needsMotion g (s.channel c).count = true) :
    s.retargetQueued c g = s.setChannel c { s.channel c with goal := some g, taken := true } := by
  have hmotion : ((s.setChannel c { s.channel c with goal := some g, taken := true }).damperCfg c).needsMotion g
      (s.channel c).count = true := hm
  simp only [State.retargetQueued, if_pos hmotion]

/-- A goal that needs none takes its channel out of the queue. -/
theorem State.retargetQueued_rests {g : Goal} (hm : (s.damperCfg c).needsMotion g (s.channel c).count = false) :
    s.retargetQueued c g = (s.setChannel c { s.channel c with goal := some g, taken := true }).leaveQueue c := by
  have hmotion : ¬((s.setChannel c { s.channel c with goal := some g, taken := true }).damperCfg c).needsMotion g
      (s.channel c).count = true := by
    rw [Bool.not_eq_true]
    exact hm
  simp only [State.retargetQueued, if_neg hmotion]

section
variable (hhomed : (s.channel c).homed = true) (hstate : (s.channel c).state = .queued)
include hhomed hstate

theorem State.handOpening_queued_moves (hm : TargetMoves (s.damperCfg c) p (s.channel c).count) :
    (s.handOpening c p).channel c =
      { s.channel c with goal := some (goalFor (s.damperCfg c) p), target := some p, taken := true } := by
  have hmotion := (needsMotion_iff _ _ _).2 hm
  rw [State.handOpening, State.takeTarget_queued hhomed hstate, State.retargetQueued_moves, State.channel_setChannel_same,
    State.setChannel_comeToJoin, State.channel_setChannel_same]
  · rfl
  · simp [Channel.given, hstate]
  · exact fun _ => rfl
  · simp [Channel.settleOver, Channel.given, hstate]
  · rw [State.channel_setChannel_same]
    exact hmotion

theorem State.handOpening_queued_rests (hm : ¬TargetMoves (s.damperCfg c) p (s.channel c).count) :
    c ∉ (s.handOpening c p).queue ∧ (s.handOpening c p).channel c =
      { s.channel c with state := .idle, goal := none, target := some p, taken := true, retry := false } := by
  have hmotion : (s.damperCfg c).needsMotion (goalFor (s.damperCfg c) p) (s.channel c).count = false := by
    rw [← Bool.not_eq_true]
    exact fun h => hm ((needsMotion_iff _ _ _).1 h)
  obtain ⟨u, hu⟩ : ∃ u, u = (s.setChannel c ((s.channel c).given p)).retargetQueued c (goalFor (s.damperCfg c) p) := ⟨_, rfl⟩
  have hleave := hu
  rw [State.retargetQueued_rests (by rw [State.channel_setChannel_same]; exact hmotion), State.channel_setChannel_same] at hleave
  have hchannel : u.channel c =
      { s.channel c with state := .idle, goal := none, target := some p, taken := true, retry := false } := by
    rw [hleave]
    refine (State.channel_setChannel_same _ c _).trans ?_
    rw [State.channel_setChannel_same]
    rfl
  have hrests : u.comeToJoin c = u :=
    State.comeToJoin_of_not_comes (not_comesToJoin (by simp [hchannel]) (fun _ => by rw [hchannel])
      (by simp [hchannel, Channel.settleOver]))
  rw [State.handOpening, State.takeTarget_queued hhomed hstate, ← hu, hrests]
  refine ⟨?_, hchannel⟩
  rw [hleave]
  simp [State.leaveQueue]

end

/-! ### A channel that drives (R80, R81) -/

/-- A goal is ahead of a drive when it needs motion in the direction of the drive (R76). -/
theorem ahead_iff (cfg : DamperCfg) (count : Nat) (d : Dir) :
    cfg.ahead (goalFor cfg p) count d = true ↔ TargetMoves cfg p count ∧ d = (goalFor cfg p).dirFrom count := by
  rw [← needsMotion_iff]
  simp only [DamperCfg.ahead, Bool.and_eq_true, decide_eq_true_eq, eq_comm (a := d)]
  rfl

theorem State.retargetDriving_ahead {g : Goal} {d : Dir} (hdir : (s.channel c).dir = some d)
    (h : (s.damperCfg c).ahead g (s.channel c).count d = true) :
    s.retargetDriving c g = s.setChannel c ((s.channel c).retargetAhead (s.damperCfg c) s.now g) := by
  simp only [State.retargetDriving, hdir, if_pos h]

theorem State.retargetDriving_ends {g : Goal} {d : Dir} (hdir : (s.channel c).dir = some d)
    (h : ¬(s.damperCfg c).ahead g (s.channel c).count d = true) :
    s.retargetDriving c g = s.setChannel c { (s.channel c).settleFor (s.damperCfg c) s.now with taken := false } := by
  simp only [State.retargetDriving, hdir, if_neg h]

section
variable {d : Dir} (hhomed : (s.channel c).homed = true) (hdrives : (s.channel c).driving = true)
  (hdir : (s.channel c).dir = some d)
include hhomed hdrives hdir

/-- A goal ahead replaces the old one without a stop (R80). -/
theorem State.handOpening_ahead (h : TargetMoves (s.damperCfg c) p (s.channel c).count
      ∧ d = (goalFor (s.damperCfg c) p).dirFrom (s.channel c).count) :
    s.handOpening c p = s.setChannel c
      (((s.channel c).given p).retargetAhead (s.damperCfg c) s.now (goalFor (s.damperCfg c) p)) := by
  have hchannel := State.channel_setChannel_same s c ((s.channel c).given p)
  rw [State.handOpening, State.takeTarget_driving hhomed hdrives,
    State.retargetDriving_ahead (d := d) (by rw [hchannel]; exact hdir) (by rw [hchannel]; exact (ahead_iff _ _ _).2 h),
    hchannel, State.setChannel_setChannel]
  refine State.setChannel_comeToJoin ?_ ?_ ?_
  all_goals
    simp only [Channel.retargetAhead, Channel.settleOver]
    split <;> simp

/-- Any other goal ends the stroke (R81); the channel settles for its dead time from now on (R92). -/
theorem State.handOpening_ends (hdead : 0 < (s.damperCfg c).deadMs) (h : ¬(TargetMoves (s.damperCfg c) p (s.channel c).count
      ∧ d = (goalFor (s.damperCfg c) p).dirFrom (s.channel c).count)) :
    s.handOpening c p = s.setChannel c
      { ((s.channel c).given p).settleFor (s.damperCfg c) s.now with taken := false } := by
  have hchannel := State.channel_setChannel_same s c ((s.channel c).given p)
  have hlater : decide (s.now + ms (s.damperCfg c).deadMs ≤ s.now) = false :=
    decide_eq_false (Nat.not_le.2 (Nat.lt_add_of_pos_right (Nat.mul_pos (by decide) hdead)))
  rw [State.handOpening, State.takeTarget_driving hhomed hdrives,
    State.retargetDriving_ends (d := d) (by rw [hchannel]; exact hdir) (by rw [hchannel]; exact mt (ahead_iff _ _ _).1 h),
    hchannel, State.setChannel_setChannel]
  refine State.setChannel_comeToJoin (by simp [Channel.settleFor]) (fun hidle => absurd hidle (by simp [Channel.settleFor])) ?_
  exact hlater

end

end

end Sys2Proof.Machine
end

section
/-! PROOF. Every channel takes its published opening by its state (R77 to R81), whatever the grants that follow. -/

namespace Sys2Proof.Machine

/-- What a publication makes of a channel `r`: the record `y` that stands after it, and whether it waits in the queue then. -/
structure TakesOpening (latch : Bool) (now : Time) (cfg : DamperCfg) (p : Nat) (r y : Channel) (waits : Prop) : Prop where
  faulted : r.state = .fault → y = r.given p
  unplaced : r.homed = false → y.Unplaced p
  homes : r.homed = false → r.state = .unhomed ∨ r.settleOver now = true → y.state = .unhomed ∨ JoinedFor y .home
  waitsForHome : r.homed = false → r.state = .queued → JoinedFor y .home
  unhomedKeeps : r.homed = false → r.state ≠ .unhomed → r.state ≠ .queued → r.settleOver now = false → y = r.given p
  idles : r.homed = true → r.state = .idle → AdoptsTarget latch now cfg p r y
  settles : r.homed = true → r.settleOver now = true → AdoptsTarget latch now cfg p { r with deadDue := none } y
  settlingKeeps : r.state = .settling → r.settleOver now = false → y = r.given p
  waitsOn : r.homed = true → r.state = .queued → TargetMoves cfg p r.count →
    JoinedFor y (goalFor cfg p) ∧ y.target = some p ∧ y.taken = true
  leaves : r.homed = true → r.state = .queued → ¬TargetMoves cfg p r.count →
    ¬waits ∧ y = { r with state := .idle, goal := none, target := some p, taken := true, retry := false }
  drivesOn : r.homed = true → ∀ d, r.dir = some d → (TargetMoves cfg p r.count ∧ d = (goalFor cfg p).dirFrom r.count) →
    y = (r.given p).retargetAhead cfg now (goalFor cfg p)
  ends : r.homed = true → ∀ d, r.dir = some d → ¬(TargetMoves cfg p r.count ∧ d = (goalFor cfg p).dirFrom r.count) →
    y = { (r.given p).settleFor cfg now with taken := false }

/-- A channel that waits for HOME, or has had its stroke granted, with its target not taken. -/
def Channel.UnplacedHome (p : Nat) (r : Channel) : Prop := r.Unplaced p ∧ JoinedFor r .home

theorem Channel.UnplacedHome.granted (p : Nat) : KeptByGrants (Channel.UnplacedHome p) :=
  fun r cfg now g hg ⟨hunplaced, hjoined⟩ => ⟨hunplaced, JoinedFor.granted_home r cfg now g hg hjoined⟩

/-- A channel that has a goal for a target that it has taken, waiting or granted. -/
def Channel.TakesGoal (g : Goal) (p : Nat) (r : Channel) : Prop := JoinedFor r g ∧ r.target = some p ∧ r.taken = true

theorem Channel.TakesGoal.granted (g : Goal) (p : Nat) : KeptByGrants (Channel.TakesGoal g p) := by
  rintro r cfg now g' hg ⟨⟨hgoal, -⟩, htaken⟩
  obtain rfl : g' = g := Option.some.inj (hg.symm.trans hgoal)
  exact ⟨⟨hg, .inr rfl⟩, htaken⟩

section
variable {s : State} {c : ChannelId} {p : Nat} {y : Channel} {q : List ChannelId}
  (h : GrantsFollow (s.handOpening c p) c y q)
include h

theorem GrantsFollow.written {r : Channel} (hset : s.handOpening c p = s.setChannel c r) (hq : c ∉ s.queue) : y = r := by
  obtain ⟨hy, -⟩ := h.rests (by rw [hset]; exact hq)
  rw [hy, hset, State.channel_setChannel_same]

theorem GrantsFollow.unplaced (hq : c ∉ s.queue) (hhomed : (s.channel c).homed = false)
    (hstate : (s.channel c).state = .unhomed ∨ (s.channel c).settleOver s.now = true) :
    y.Unplaced p ∧ (y.state = .unhomed ∨ JoinedFor y .home) := by
  obtain ⟨hunplaced, ⟨hunhomed, hout⟩ | hjoined⟩ := State.handOpening_unplaced (p := p) hq hhomed hstate
  · obtain ⟨rfl, -⟩ := h.rests hout
    exact ⟨hunplaced, .inl hunhomed⟩
  · obtain ⟨hunplaced, hjoined⟩ := h.keeps _ (Channel.UnplacedHome.granted p) ⟨hunplaced, hjoined⟩
    exact ⟨hunplaced, .inr hjoined⟩

theorem GrantsFollow.waitsForHome (hhomed : (s.channel c).homed = false) (hstate : (s.channel c).state = .queued)
    (hgoal : (s.channel c).goal = some .home) : y.UnplacedHome p := by
  have hover : (s.channel c).settleOver s.now = false := by simp [Channel.settleOver, hstate]
  refine h.keeps _ (Channel.UnplacedHome.granted p) ?_
  rw [State.handOpening_keeps (.inl hhomed) (by simp [hstate]) (by simp [hstate]) hover, State.channel_setChannel_same]
  exact ⟨⟨rfl, rfl, hhomed⟩, hgoal, .inl hstate⟩

theorem GrantsFollow.adoptsOpening (hq : c ∉ s.queue) (hhomed : (s.channel c).homed = true) {r : Channel}
    (hr : ((s.channel c).state = .idle ∧ r = s.channel c)
      ∨ ((s.channel c).settleOver s.now = true ∧ r = { s.channel c with deadDue := none })) :
    AdoptsTarget s.supply.latch s.now (s.damperCfg c) p r y := by
  rw [State.handOpening_adopts hhomed hr] at h
  exact GrantsFollow.adopts (s := s.setChannel c _) h hq (State.channel_setChannel_same _ _ _)

end

section
variable {r : Channel} (h : ChannelHolds r)
include h

theorem ChannelHolds.goal_home (hh : r.homed = false) (hs : r.state = .queued) : r.goal = some .home := by
  obtain ⟨-, hhome⟩ := h.queuedGoal hs
  exact hhome.1 hh

theorem ChannelHolds.not_idle (hh : r.homed = false) : r.state ≠ .idle := fun hs =>
  Bool.false_ne_true (hh.symm.trans (h.idleHomed hs))

theorem ChannelHolds.driving_of_dir {d : Dir} (hd : r.dir = some d) : r.driving = true := by
  rw [← h.drives, hd]
  rfl

theorem ChannelHolds.not_queued_of_dir {d : Dir} (hd : r.dir = some d) : r.state ≠ .queued := fun hs => by
  have hdrives := h.driving_of_dir hd
  simp [Channel.driving, hs] at hdrives

end

section
variable {s : State} {c : ChannelId} {p : Nat} {y : Channel} {q : List ChannelId}
  (h : GrantsFollow (s.handOpening c p) c y q) (hr : ChannelHolds (s.channel c)) (hq : (s.channel c).state ≠ .queued → c ∉ s.queue)
include h hq

/-- A channel to be homed, UNHOMED or at its settle end, is not in the queue. -/
theorem GrantsFollow.homes (hh : (s.channel c).homed = false)
    (hs : (s.channel c).state = .unhomed ∨ (s.channel c).settleOver s.now = true) :
    y.Unplaced p ∧ (y.state = .unhomed ∨ JoinedFor y .home) := by
  refine h.unplaced (hq ?_) hh hs
  rcases hs with hs | hs
  · simp [hs]
  · simp [Channel.state_of_settleOver hs]

include hr

theorem GrantsFollow.unhomedKeeps (hh : (s.channel c).homed = false) (hu : (s.channel c).state ≠ .unhomed)
    (hs : (s.channel c).state ≠ .queued) (ho : (s.channel c).settleOver s.now = false) : y = (s.channel c).given p :=
  h.written (State.handOpening_keeps (.inl hh) hu (hr.not_idle hh) ho) (hq hs)

/-- A channel that is not homed holds its opening pending, whatever its state. -/
theorem GrantsFollow.staysUnplaced (hh : (s.channel c).homed = false) : y.Unplaced p := by
  by_cases hs : (s.channel c).state = .unhomed ∨ (s.channel c).settleOver s.now = true
  · obtain ⟨hunplaced, -⟩ := h.homes hq hh hs
    exact hunplaced
  · obtain ⟨hu, ho⟩ := not_or.1 hs
    by_cases hs : (s.channel c).state = .queued
    · obtain ⟨hunplaced, -⟩ := h.waitsForHome hh hs (hr.goal_home hh hs)
      exact hunplaced
    · rw [h.unhomedKeeps hr hq hh hu hs (Bool.eq_false_iff.2 ho)]
      exact ⟨rfl, rfl, hh⟩

/-- A channel that agrees with R75, and is in the queue when QUEUED alone, takes its opening by its state. -/
theorem GrantsFollow.takesOpening (hdead : 0 < (s.damperCfg c).deadMs) :
    TakesOpening s.supply.latch s.now (s.damperCfg c) p (s.channel c) y (c ∈ q) where
  faulted hs := h.written (State.handOpening_keeps (.inr (.inr hs)) (by simp [hs]) (by simp [hs])
    (Channel.settleOver_of_state (by simp [hs]))) (hq (by simp [hs]))
  unplaced hh := h.staysUnplaced hr hq hh
  homes hh hs := by
    obtain ⟨-, hhomes⟩ := h.homes hq hh hs
    exact hhomes
  waitsForHome hh hs := by
    obtain ⟨-, hjoined⟩ := h.waitsForHome hh hs (hr.goal_home hh hs)
    exact hjoined
  unhomedKeeps := h.unhomedKeeps hr hq
  idles hh hs := h.adoptsOpening (hq (by simp [hs])) hh (.inl ⟨hs, rfl⟩)
  settles hh hs := h.adoptsOpening (hq (by simp [Channel.state_of_settleOver hs])) hh (.inr ⟨hs, rfl⟩)
  settlingKeeps hs ho := h.written (State.handOpening_keeps (.inr (.inl hs)) (by simp [hs]) (by simp [hs]) ho) (hq (by simp [hs]))
  waitsOn hh hs hm := by
    refine h.keeps _ (Channel.TakesGoal.granted (goalFor (s.damperCfg c) p) p) ?_
    rw [State.handOpening_queued_moves hh hs hm]
    exact ⟨⟨rfl, .inl hs⟩, rfl, rfl⟩
  leaves hh hs hm := by
    obtain ⟨hnotin, hchannel⟩ := State.handOpening_queued_rests hh hs hm
    obtain ⟨hy, hwaits⟩ := h.rests hnotin
    exact ⟨hwaits, hy.trans hchannel⟩
  drivesOn hh _ hd ha := h.written (State.handOpening_ahead hh (hr.driving_of_dir hd) hd ha) (hq (hr.not_queued_of_dir hd))
  ends hh _ hd ha := h.written (State.handOpening_ends hh (hr.driving_of_dir hd) hd hdead ha) (hq (hr.not_queued_of_dir hd))

end

theorem DamperCfg.valid_dead {cfg : DamperCfg} (h : cfg.valid = true) : 0 < cfg.deadMs := by
  simp only [DamperCfg.valid, Bool.and_eq_true, decide_eq_true_eq] at h
  omega

end Sys2Proof.Machine
end

section
/-! PROOF. Which expiries publish an opening set (R54, R56, R59, R70, R71): the house after an expiry tells whether it has made a
computation. -/

namespace Sys2Proof.Machine

/-! ### The house that a decision leaves (R37 to R43, R47) -/

/-- A house that has just made a computation: COOL, DRY or HEAT without hold, FAN, or SHED with its fan, which was SHED before. -/
def Published (before after : HouseState) (hold : Bool) (air : AirMode) : Prop :=
  (after.conditions = true ∧ hold = false) ∨ after = .fan ∨ (before = .shed ∧ after = .shed ∧ air = .fan)

/-- The decision `d` of a house state turns the house to a state that computes exactly when the computation is to be made. -/
structure TurnsHouse (h : HouseState) (d : State × Bool) : Prop where
  computes : d.2 = true → (d.1.house.conditions = true ∧ d.1.arbiter.hold = false ∧ h ≠ .shed) ∨ d.1.house = .fan
    ∨ (h = .shed ∧ d.1.house = .shed)
  rests : d.2 = false → ¬Published h d.1.house d.1.arbiter.hold d.1.command.airMode

theorem not_published_of_still {h k : HouseState} {hold : Bool} {air : AirMode} (hk : k.computes = false) :
    ¬Published h k hold air := by
  rintro (⟨hrun, -⟩ | rfl | ⟨-, rfl, -⟩)
  · simp [HouseState.computes, hrun] at hk
  · cases hk
  · cases hk

section
variable {s x : State} {h k : HouseState}

theorem TurnsHouse.still (hx : x.house = k) (hk : k.computes = false) : TurnsHouse h (x, false) where
  computes hd := nomatch hd
  rests _ := not_published_of_still (hx ▸ hk)

theorem TurnsHouse.goesOn (hx : x.house.conditions = true) (hold : x.arbiter.hold = false) (hs : h ≠ .shed) :
    TurnsHouse h (x, true) where
  computes _ := .inl ⟨hx, hold, hs⟩
  rests hd := nomatch hd

theorem TurnsHouse.fans (hx : x.house = .fan) : TurnsHouse h (x, true) where
  computes _ := .inr (.inl hx)
  rests hd := nomatch hd

/-- A target is entered from a state without compressor, so hold is cleared (R36, R39). -/
theorem TurnsHouse.enters (hx : x.house = k) (hk : k.conditions = false) (hs : h ≠ .shed) (t : Target) :
    TurnsHouse h (x.enterTarget t, true) := by
  have ht : t.house.conditions = true := by cases t <;> rfl
  have hne : x.arbiter.house ≠ t.house := by
    intro he
    have hxt : x.house = t.house := he
    rw [← hx, hxt, ht] at hk
    cases hk
  exact .goesOn ht (if_neg hne) hs

theorem State.decideIdle_turns (hs : s.house = .idle) : TurnsHouse s.house s.decideIdle := by
  have hne : s.house ≠ .shed := by simp [hs]
  simp only [State.decideIdle]
  split_ifs
  · exact .enters (x := s.setTarget _) hs rfl hne _
  · exact .still (x := s.setTarget _) hs rfl
  · exact .fans rfl
  · exact .still (x := s.setTarget _) hs rfl

theorem State.decideFan_turns (hs : s.house = .fan) : TurnsHouse s.house s.decideFan := by
  have hne : s.house ≠ .shed := by simp [hs]
  have hfan : ∀ t, TurnsHouse s.house (s.setTarget t).fanOrIdle := fun t => by
    simp only [State.fanOrIdle]
    split_ifs
    · exact .fans hs
    · exact .still (k := .idle) rfl rfl
  simp only [State.decideFan]
  split_ifs
  · exact .enters (x := s.setTarget _) hs rfl hne _
  · exact hfan _
  · exact hfan _

/-- An expiry in hold makes no computation (R39, R56). -/
theorem TurnsHouse.holds (hc : s.house.conditions = true) : TurnsHouse s.house (s.holdOn, false) where
  computes hd := nomatch hd
  rests _ := by
    have hhouse : s.holdOn.house = s.house := by simp [State.holdOn, State.house]
    rintro (⟨-, hold⟩ | hfan | ⟨hshed, -⟩)
    · rw [State.holdOn_arbiter] at hold
      cases hold
    · rw [← hhouse, hfan] at hc
      cases hc
    · rw [hshed] at hc
      cases hc

theorem State.decideCooling_turns (hc : s.house.conditions = true) : TurnsHouse s.house s.decideCooling := by
  obtain ⟨-, -, -, -, hne⟩ := HouseState.conditions_cases hc
  simp only [State.decideCooling]
  split_ifs
  · exact .still (k := .changeover) rfl rfl
  · exact .still (k := .idle) rfl rfl
  · exact .holds hc
  · exact .goesOn rfl rfl hne
  · exact .goesOn rfl rfl hne

theorem State.decideHeating_turns (hc : s.house.conditions = true) : TurnsHouse s.house s.decideHeating := by
  obtain ⟨-, -, -, -, hne⟩ := HouseState.conditions_cases hc
  simp only [State.decideHeating]
  split_ifs
  · exact .still (k := .changeover) rfl rfl
  · exact .still (k := .changeover) rfl rfl
  · exact .still (k := .idle) rfl rfl
  · exact .holds hc
  · exact .goesOn hc rfl hne

theorem State.decideChangeover_turns (hs : s.house = .changeover) : TurnsHouse s.house s.decideChangeover := by
  have hne : s.house ≠ .shed := by simp [hs]
  simp only [State.decideChangeover]
  split
  · split_ifs
    · exact .still (k := .idle) rfl rfl
    · exact .still hs rfl
  · split_ifs
    · exact .still (k := .idle) rfl rfl
    · exact .enters hs rfl hne _
    · exact .still (x := s.setTarget _) hs rfl
    · exact .still (x := s.setTarget _) hs rfl

/-- SHED computes for its fan, and is otherwise commanded OFF (R47). -/
theorem State.decideShed_turns (hs : s.house = .shed) : TurnsHouse s.house s.decideShed := by
  simp only [State.decideShed]
  split_ifs
  · exact ⟨fun _ => .inr (.inr ⟨hs, hs⟩), fun hd => nomatch hd⟩
  · have hhouse : (s.writeCommand commandOff).house = .shed := by simp [State.house, ← hs]
    refine ⟨fun hd => (nomatch hd), fun _ => ?_⟩
    rintro (⟨hrun, -⟩ | hfan | ⟨-, -, hair⟩)
    · rw [hhouse] at hrun
      cases hrun
    · rw [hhouse] at hfan
      cases hfan
    · rw [State.writeCommand_command] at hair
      cases hair

theorem State.decision_turnsHouse (s : State) : TurnsHouse s.house s.decision := by
  unfold State.decision
  split
  case h_1 hs => exact .still hs rfl
  case h_2 hs => exact .still hs rfl
  case h_3 hs => exact hs ▸ State.decideIdle_turns hs
  case h_4 hs => exact hs ▸ State.decideFan_turns hs
  case h_5 hs => exact hs ▸ State.decideCooling_turns (by rw [hs]; rfl)
  case h_6 hs => exact hs ▸ State.decideCooling_turns (by rw [hs]; rfl)
  case h_7 hs => exact hs ▸ State.decideHeating_turns (by rw [hs]; rfl)
  case h_8 hs => exact .still hs rfl
  case h_9 hs => exact hs ▸ State.decideChangeover_turns hs
  case h_10 hs => exact hs ▸ State.decideShed_turns hs

end

/-! ### The expiry (R34, R56, R59, R70) -/

theorem Arbiter.atOutMode_hold {x : Arbiter} (h : x.hold = false) (now : Time) (a b : OutMode) :
    (x.atOutMode now a b).hold = false := by
  unfold Arbiter.atOutMode
  split_ifs
  · exact h
  · rfl
  · exact h

/-- The drives as an expiry finds them are those of `s`, an opening set `v` is published to them, and `t` holds what they make of it. -/
structure Publishes (s t y : State) (v : Vector Nat 8) : Prop where
  alike : DrivesAlike s y
  channels : y.channels = s.channels
  queue : y.queue = s.queue
  openings : t.computation.openings = some v
  taken : t.channels = (y.publish v).channels
  waiting : t.queue = (y.publish v).queue

theorem State.publishFigures_publishes (s : State) {h : HouseState} {f : Figures} (hf : s.compute h = some f) :
    ∃ y v, Publishes s (s.publishFigures f) y v := by
  obtain ⟨raw, c, rfl, -, -⟩ := State.compute_eq_figures hf
  obtain ⟨v, hv⟩ : ∃ v, (s.figures h raw c).record.openings = some v := ⟨_, rfl⟩
  simp only [State.publishFigures, hv]
  refine ⟨_, v, ⟨?_, ?_, ?_, ?_, rfl, rfl⟩⟩
  · split <;> simp [DrivesAlike]
  · split <;> simp
  · split <;> simp
  · simpa using hv

theorem Publishes.congr {s s' t y : State} {v : Vector Nat 8} (h : Publishes s' t y v) (alike : DrivesAlike s s')
    (channels : s'.channels = s.channels) (queue : s'.queue = s.queue) : Publishes s t y v := by
  obtain ⟨hnow, hsupply, htables, hhoming⟩ := alike
  obtain ⟨⟨hnow', hsupply', htables', hhoming'⟩, hchannels, hqueue, hopenings, htaken, hwaiting⟩ := h
  exact ⟨⟨hnow'.trans hnow, hsupply'.trans hsupply, htables'.trans htables, hhoming'.trans hhoming⟩,
    hchannels.trans channels, hqueue.trans queue, hopenings, htaken, hwaiting⟩

/-- The house after an expiry is one that has computed exactly when an opening set has been published; otherwise the drives are as
they were. -/
theorem State.decided_publishes (s : State) :
    let t := s.decided
    (¬Published s.house t.house t.arbiter.hold t.command.airMode ∧ t.channels = s.channels ∧ t.queue = s.queue)
      ∨ (Published s.house t.house t.arbiter.hold t.command.airMode ∧ ∃ y v, Publishes s t y v) := by
  obtain ⟨hcomputes, hrests⟩ := s.evaluateZones.decision_turnsHouse
  have hhouse : s.evaluateZones.house = s.house := rfl
  rw [hhouse] at hcomputes hrests
  have halike : DrivesAlike s s.evaluateZones.decision.1 := by simp [DrivesAlike]
  have hchannels : s.evaluateZones.decision.1.channels = s.channels := by simp
  have hqueue : s.evaluateZones.decision.1.queue = s.queue := by simp
  obtain ⟨⟨x, b⟩, hx⟩ : ∃ d, s.evaluateZones.decision = d := ⟨_, rfl⟩
  rw [hx] at hcomputes hrests halike hchannels hqueue
  dsimp only at hcomputes hrests halike hchannels hqueue ⊢
  cases b with
  | false =>
    left
    rw [State.decided_rests hx]
    exact ⟨hrests rfl, hchannels, hqueue⟩
  | true =>
    rw [State.decided_computes hx]
    unfold State.computeAndPublish
    cases hf : x.compute x.house with
    | none =>
      left
      have hrun : x.house.conditions = true := by
        rw [← Bool.not_eq_false]
        intro hc
        rw [State.compute_fan hc] at hf
        cases hf
      have hne : s.house ≠ .shed := by
        rcases hcomputes rfl with ⟨-, -, hne⟩ | hfan | ⟨-, hshed⟩
        · exact hne
        · rw [hfan] at hrun
          cases hrun
        · rw [hshed] at hrun
          cases hrun
      refine ⟨?_, by simpa using hchannels, by simpa using hqueue⟩
      have hshed : x.noComputation.enterShed.house = .shed := rfl
      rintro (⟨hshedRun, -⟩ | hfan | ⟨hbefore, -⟩)
      · cases hshedRun
      · cases hfan
      · exact hne hbefore
    | some f =>
      right
      obtain ⟨y, v, hp⟩ := x.publishFigures_publishes hf
      refine ⟨?_, y, v, hp.congr halike hchannels hqueue⟩
      have harbiter := x.publishFigures_arbiter f
      have hsame : (x.publishFigures f).house = x.house := by simp [State.house, harbiter]
      dsimp only
      rw [hsame, x.publishFigures_command, harbiter, State.writeCommand_arbiter]
      rcases hcomputes rfl with ⟨hrun, hold, -⟩ | hfan | ⟨hbefore, hshed⟩
      · exact .inl ⟨hrun, Arbiter.atOutMode_hold hold _ _ _⟩
      · exact .inr (.inl hfan)
      · exact .inr (.inr ⟨hbefore, hshed, by rw [hshed]; rfl⟩)

/-- The same of the whole cycle. -/
theorem State.cycle_publishes (s : State) :
    let t := s.cycle
    (¬Published s.house t.house t.arbiter.hold t.command.airMode ∧ t.channels = s.channels ∧ t.queue = s.queue)
      ∨ (Published s.house t.house t.arbiter.hold t.command.airMode ∧ ∃ y v, Publishes s t y v) := by
  obtain ⟨hcommand, harbiter, hchannels, hqueue, hcomputation, -⟩ := s.cycle_leaves
  have hhouse : s.cycle.house = s.decided.house := by simp only [State.house, harbiter]
  have hold : s.cycle.arbiter.hold = s.decided.arbiter.hold := by rw [harbiter]
  have hdecided := s.decided_publishes
  dsimp only at hdecided ⊢
  rw [hcommand, hhouse, hold, hchannels, hqueue]
  rcases hdecided with hrests | ⟨hp, y, v, halike, hchannels', hqueue', hopenings, htaken, hwaiting⟩
  · exact .inl hrests
  · exact .inr ⟨hp, y, v, halike, hchannels', hqueue', by rw [hcomputation, hopenings], hchannels.trans htaken,
      hqueue.trans hwaiting⟩

/-- Every channel that agrees with R75 and R82 takes its part of a published opening set by its state (R70, R77). -/
theorem Publishes.takesOpening {s t y : State} {v : Vector Nat 8} (h : Publishes s t y v) (htab : TablesHold s)
    {c : ChannelId} (hr : ChannelHolds (s.channel c)) (hq : c ∈ s.queue ↔ (s.channel c).state = .queued) :
    TakesOpening s.supply.latch s.now (s.damperCfg c) (look v c) (s.channel c) (t.channel c) (c ∈ t.queue) := by
  obtain ⟨⟨hnow, hsupply, htables, -⟩, hchannels, hqueue, -, htaken, hwaiting⟩ := h
  obtain ⟨u, ⟨hnow', hsupply', htables', -⟩, hchannel, hmem, hfollow⟩ := y.publish_at v c
  obtain ⟨-, -, hdampers, -⟩ := (Tables.valid_iff _).1 htab
  have hcfg : u.damperCfg c = s.damperCfg c := State.damperCfg_congr (htables'.trans htables) c
  have hsame : u.channel c = s.channel c := hchannel.trans (State.channel_congr hchannels c)
  have htakes := hfollow.takesOpening (by rw [hsame]; exact hr)
    (by rw [hsame, hmem, hqueue]; exact mt hq.1) (by rw [hcfg]; exact DamperCfg.valid_dead (hdampers c))
  rwa [hsupply', hsupply, hnow', hnow, hcfg, hsame, ← State.channel_congr htaken, ← hwaiting] at htakes

end Sys2Proof.Machine
end

section
/-! PROOF. The obligation on the homing join and on publications. -/

namespace Sys2Proof.Machine

/-- Settles O54: the homing join by its queue, and an expiry by whether it has published, channel by channel. -/
theorem channelsJoinAndAdopt : Obligations.ChannelsJoinAndAdopt := by
  refine ⟨fun s dt d hrun hdue hle hq hhome => ?_, fun s dt x hrun hdue hle htab _ hd => ?_⟩
  · have hguard := running_and_elapse dt hrun (due_of_le hdue hle)
    have hhome' : ∀ c : ChannelId, ((s.elapse dt).channel c).state = .unhomed
        ∧ ((s.elapse dt).channel c).lastOff + ms ((s.elapse dt).channel c).restMs ≤ (s.elapse dt).now := hhome
    have hlatched := State.startHoming_latched hhome' hq
    have hjoins := State.startHoming_joins hhome'
    have hqueue := State.startHoming_queue hhome' hq
    refine ⟨(s.elapse dt).startHoming, congrArg Host.Outcome.next (if_pos hguard), ?_, hlatched, fun hlatch =>
      ⟨hjoins hlatch, hqueue hlatch⟩⟩
    ext1
    case homingDue => simp [State.startHoming]
    all_goals simp
  · refine ⟨(s.elapse dt).cycle, exec_cycleExpiry hrun hdue hle, ?_⟩
    intro now published
    rcases (s.elapse dt).cycle_publishes with ⟨hno, hchannels, hqueue⟩ | ⟨hyes, y, v, hp⟩
    · exact ⟨fun _ => ⟨hchannels, hqueue⟩, fun hpub => absurd hpub hno⟩
    · refine ⟨fun hno => absurd hyes hno, fun _ => ⟨v, hp.openings, fun c => ?_⟩⟩
      have htakes := hp.takesOpening htab (hd.channels c) (hd.queueStates c)
      intro r u cfg p kept settled g ahead
      have hsettled : r.settleOver (s.now + dt) = true ↔ settled := Channel.settleOver_iff
      have hsettles : ¬settled → r.settleOver (s.now + dt) = false := fun h => Bool.eq_false_iff.2 (mt hsettled.1 h)
      refine ⟨htakes.faulted, fun _ hh => ?_, fun _ hh => ⟨htakes.idles hh, fun hs => htakes.settles hh (hsettled.2 hs),
        fun hs hn => htakes.settlingKeeps hs (hsettles hn), htakes.waitsOn hh, htakes.leaves hh, fun _ ha => ?_, fun hd hn => ?_⟩⟩
      · obtain ⟨htarget, htaken, hhomed⟩ := htakes.unplaced hh
        exact ⟨htarget, htaken, hhomed, fun hs => htakes.homes hh (hs.imp_right hsettled.2), htakes.waitsForHome hh,
          fun hu hq hn => htakes.unhomedKeeps hh hu hq (hsettles hn)⟩
      · obtain ⟨hmoves, hdir⟩ := ha
        exact htakes.drivesOn hh _ hdir ⟨hmoves, rfl⟩
      · obtain ⟨d, hdir⟩ := Option.isSome_iff_exists.1 hd
        exact htakes.ends hh d hdir fun ⟨hmoves, he⟩ => hn ⟨hmoves, hdir.trans (congrArg some he)⟩

end Sys2Proof.Machine
end

section
/-! PROOF. A channel that comes to join at its turn, and the grant of the head of the queue (R82, R84, R86): what stands of the one
channel, of the others and of the queue. -/

namespace Sys2Proof.Machine

/-! ### The grants that follow (R84, R86) -/

section
variable {s : State} {c k : ChannelId}

theorem KeptByGrants.and {P Q : Channel → Prop} (hP : KeptByGrants P) (hQ : KeptByGrants Q) : KeptByGrants fun r => P r ∧ Q r :=
  fun r cfg now g hg ⟨hp, hq⟩ => ⟨hP r cfg now g hg hp, hQ r cfg now g hg hq⟩

theorem State.serveQueue_follows (s : State) (c : ChannelId) :
    GrantsFollow s c (s.serveQueue.channel c) s.serveQueue.queue where
  rests hout := ⟨State.serveQueue_channel hout, fun hm => hout (State.mem_of_mem_serveQueue hm)⟩
  keeps _ hP hc := State.serveQueue_keeps hP hc

/-- With every condition of R84 met, the head of the queue has its stroke begun, and the grants behind it leave it so. -/
theorem State.serveQueue_head {rest : List ChannelId} {g : Goal} (hq : s.queue = c :: rest) (hrest : c ∉ rest)
    (hg : (s.channel c).goal = some g) (hnormal : s.supply.supply = .normal) (hlatch : s.supply.latch = false)
    (hslots : s.drivingCount < s.profile.slots) :
    s.serveQueue.channel c = (s.channel c).granted (s.damperCfg c) s.now g ∧ ∃ m, s.serveQueue.queue = rest.drop m := by
  obtain ⟨u, hu⟩ : ∃ u, u = { s with slotLimit := s.profile.slots } := ⟨_, rfl⟩
  have hsettle : s.settleLimit = u := hu ▸ if_pos (le_of_lt hslots)
  have hmay : u.mayGrant = true := by
    have hcount : u.drivingCount < u.profile.slots := by rw [hu]; exact hslots
    have hlimit : u.slotLimit = u.profile.slots := by rw [hu]; rfl
    have hsupply : u.supply = s.supply := by rw [hu]
    simp [State.mayGrant, hlimit, hcount, hsupply, hnormal, hlatch]
  have huq : u.queue = c :: rest := by rw [hu]; exact hq
  have hserve : s.serveQueue = u.grantHead.grantLoop rest.length := by
    simp only [State.serveQueue, hsettle, huq, List.length_cons, State.grantLoop, hmay]
    rfl
  have htail : u.grantHead.queue = rest := by rw [State.grantHead_queue, huq]; rfl
  have hgrant : u.grantHead.channel c = (s.channel c).granted (s.damperCfg c) s.now g := by
    have hug : (u.channel c).goal = some g := by rw [hu]; exact hg
    simp only [State.grantHead, huq, hug, State.channel_setChannel_same]
    rw [hu]
    rfl
  obtain ⟨m, hm⟩ := u.grantHead.grantLoop_queue rest.length
  rw [hserve]
  exact ⟨(State.grantLoop_channel _ (htail ▸ hrest)).trans hgrant, m, by rw [hm, htail]⟩

/-- In SAG no grant is made (R84, R175). -/
theorem State.serveQueue_of_sag (h : s.supply.supply = .sag) : s.serveQueue = s.settleLimit := by
  have hgrant : s.settleLimit.mayGrant = false := by simp [State.mayGrant, h]
  simp only [State.serveQueue]
  cases s.settleLimit.queue.length with
  | zero => rfl
  | succ n => simp [State.grantLoop, hgrant]

theorem State.serveQueue_channel_of_sag (h : s.supply.supply = .sag) (c : ChannelId) : s.serveQueue.channel c = s.channel c := by
  rw [State.serveQueue_of_sag h]
  exact State.channel_congr (by simp) c

/-! ### The place of a channel that joins (R82) -/

theorem State.standsBehind_iff (s : State) (c k : ChannelId) :
    s.standsBehind c k = true ↔ (s.channel k).joined = s.now ∧ c < k := by
  simp [State.standsBehind]

/-- With no higher channel that joined at this same moment, a channel joins at the tail. -/
theorem State.queueWith_last (h : ∀ k ∈ s.queue, s.standsBehind c k = false) : s.queueWith c = s.queue ++ [c] := by
  have hahead : ∀ k ∈ s.queue, (!s.standsBehind c k) = true := fun k hk => by simp [h k hk]
  rw [State.queueWith, List.takeWhile_eq_self_iff.2 hahead, List.dropWhile_eq_nil_iff.2 hahead]

/-- A channel joins before the first higher one that joined at this same moment. -/
theorem State.queueWith_before {xs ys : List ChannelId} (hq : s.queue = xs ++ k :: ys)
    (hxs : ∀ x ∈ xs, s.standsBehind c x = false) (hk : s.standsBehind c k = true) : s.queueWith c = xs ++ c :: k :: ys := by
  have hahead : ∀ x ∈ xs, (!s.standsBehind c x) = true := fun x hx => by simp [hxs x hx]
  rw [State.queueWith, hq, List.takeWhile_append_of_pos hahead, List.dropWhile_append_of_pos hahead]
  simp [hk]

/-! ### A channel that comes to join at its turn (R82, R92) -/

theorem State.joinBelow_alike (s : State) (c : ChannelId) : DrivesAlike s (s.joinBelow c) := by simp [DrivesAlike]

/-- With no lower channel to join, a channel is the first to join. -/
theorem State.joinBelow_alone (h : ∀ k, k < c → ¬ComesToJoin s s.now k) : s.joinBelow c = s :=
  State.forIx_induct (fun t => t = s) _ s rfl fun k t ht => by
    subst ht
    split
    · next hk => exact State.comeToJoin_of_not_comes (h k hk)
    · rfl

/-- With one lower channel to join, that one joins first. -/
theorem State.joinBelow_one {a : ChannelId} (ha : a < c) (h : ∀ k, k < c → k ≠ a → ¬ComesToJoin s s.now k) :
    s.joinBelow c = s.comeToJoin a := by
  obtain ⟨u, -, hu, hjoin⟩ := State.forIx_at id (fun t => DrivesAlike s t ∧ ∀ k, k ≠ a → t.channel k = s.channel k)
    (fun k t => if k < c then t.comeToJoin k else t) a s ⟨⟨rfl, rfl, rfl, rfl⟩, fun _ _ => rfl⟩
    (fun j t ⟨halike, hchannel⟩ => by
      split
      · next hj =>
        refine ⟨by simpa [DrivesAlike] using halike, fun k hk => ?_⟩
        by_cases hkj : k = j
        · subst hkj
          obtain ⟨hnow, hsupply, -, hhoming⟩ := halike
          rw [State.comeToJoin_of_not_comes fun hc => h k hj hk (hnow ▸ hc.congr hsupply hhoming (hchannel k hk))]
          exact hchannel k hk
        · exact (t.comeToJoin_other j k hkj).trans (hchannel k hk)
      · exact ⟨halike, hchannel⟩)
    (fun j t hj ⟨⟨hnow, hsupply, _, hhoming⟩, hchannel⟩ => by
      split
      · next hjc => exact State.comeToJoin_of_not_comes fun hc => h j hjc hj (hnow ▸ hc.congr hsupply hhoming (hchannel j hj))
      · rfl)
  have hat : s.joinBelow c = if a < c then u.comeToJoin a else u := hjoin
  rw [hat, if_pos ha, show u = s from hu]

theorem State.joinInOrder_other (hk : k ≠ c) (hq : k ∉ s.queue) (h : c < k ∨ ¬ComesToJoin s s.now k) :
    (s.joinInOrder c).channel k = s.channel k := by
  obtain ⟨hchannel, hqueue⟩ := State.joinBelow_rests (h.imp_left le_of_lt)
  rw [State.joinInOrder, State.serveQueue_channel fun hm => hq (hqueue.1 ((State.comeToJoin_queue_other hk).1 hm)),
    State.comeToJoin_other _ _ _ hk, hchannel]

/-- A channel that does not wait meets its turn as it was. -/
theorem State.joinInOrder_at (hq : c ∉ s.queue) :
    ∃ u : State, DrivesAlike s u ∧ u.channel c = s.channel c ∧ c ∉ u.queue
      ∧ GrantsFollow (u.comeToJoin c) c ((s.joinInOrder c).channel c) (s.joinInOrder c).queue := by
  obtain ⟨hchannel, hqueue⟩ := State.joinBelow_rests (s := s) (.inl (le_refl c))
  exact ⟨s.joinBelow c, s.joinBelow_alike c, hchannel, mt hqueue.1 hq, State.serveQueue_follows _ c⟩

end

end Sys2Proof.Machine
end

section
/-! PROOF. SETTLE END and DEAD TIME ELAPSED (R73, R78, R82, R84, R86, R90, R92, R96, R99, R102). -/

namespace Sys2Proof.Machine

section
variable {s : State} {c : ChannelId}

/-! ### A settle end (R92) -/

/-- At its settle end a homed channel with nothing to adopt is IDLE. -/
theorem State.comeToJoin_idles (hover : (s.channel c).settleOver s.now = true) (hhomed : (s.channel c).homed = true)
    (ht : (s.channel c).target = none ∨ (s.channel c).taken = true) :
    s.comeToJoin c = s.setChannel c { s.channel c with state := .idle, deadDue := none } := by
  have hnothing : ((s.channel c).target.isSome && !(s.channel c).taken) = false := by
    rcases ht with ht | ht <;> simp [ht]
  simp [State.comeToJoin, hover, State.endSettling, hhomed, hnothing]

/-- At its settle end a channel that is not homed is UNHOMED, and joins for HOME if it can. -/
theorem State.comeToJoin_unhomes (hover : (s.channel c).settleOver s.now = true) (hhomed : (s.channel c).homed = false) :
    s.comeToJoin c = (s.setChannel c { s.channel c with state := .unhomed, deadDue := none, taken := false }).joinHome c := by
  simp [State.comeToJoin, hover, State.endSettling, hhomed]

theorem State.mayHome_setChannel {r : Channel} (hoff : r.lastOff = (s.channel c).lastOff)
    (hrest : r.restMs = (s.channel c).restMs) : (s.setChannel c r).MayHome c ↔ s.MayHome c := by
  unfold State.MayHome
  rw [State.channel_setChannel_same, hoff, hrest]
  rfl

theorem State.MayHome.congr {t : State} (h : DrivesAlike s t) (hc : t.channel c = s.channel c) : t.MayHome c ↔ s.MayHome c := by
  obtain ⟨hnow, hsupply, -, hhoming⟩ := h
  unfold State.MayHome
  rw [hnow, hsupply, hhoming, hc]

/-! ### The dead time of a channel that waits UNHOMED (R73, R82) -/

theorem State.joinsNow_unhomed (hstate : (s.channel c).state = .unhomed) : s.joinsNow c = true ↔ s.MayHome c := by
  simp [State.joinsNow, State.canJoin_iff, Channel.idleWaiting, hstate, State.MayHome, and_comm, and_left_comm]

theorem State.joinInOrder_alone (halone : ∀ k, k < c → ¬ComesToJoin s s.now k) (hstate : (s.channel c).state = .unhomed)
    (hmay : s.MayHome c) : s.joinInOrder c = (s.joinQueue c .home).serveQueue := by
  rw [State.joinInOrder, State.joinBelow_alone halone, State.comeToJoin_home hstate hmay]

/-- A channel that joins drives no more than before. -/
theorem State.drivingCount_joinQueue (g : Goal) (h : (s.channel c).driving = false) :
    (s.joinQueue c g).drivingCount = s.drivingCount := by
  refine congrArg countIx (funext fun k => ?_)
  by_cases hk : k = c
  · subst hk
    rw [State.joinQueue_channel, h]
    rfl
  · rw [(State.joinQueue_other g hk).1]

/-- What a settle end makes of its channel, once the grants have followed (R78, R92, R99). -/
structure EndsSettling (s : State) (c : ChannelId) (y : Channel) : Prop where
  rests : (s.channel c).homed = true → (s.channel c).target = none ∨ (s.channel c).taken = true →
    y = { s.channel c with state := .idle, deadDue := none }
  adopts : (s.channel c).homed = true → ∀ p, (s.channel c).target = some p → (s.channel c).taken = false →
    AdoptsTarget s.supply.latch s.now (s.damperCfg c) p { s.channel c with deadDue := none } y
  waits : (s.channel c).homed = false → ¬s.MayHome c →
    y = { s.channel c with state := .unhomed, deadDue := none, taken := false }
  homes : (s.channel c).homed = false → s.MayHome c → JoinedFor y .home

theorem GrantsFollow.endsSettling {y : Channel} {q : List ChannelId} (h : GrantsFollow (s.comeToJoin c) c y q) (hq : c ∉ s.queue)
    (hover : (s.channel c).settleOver s.now = true) : EndsSettling s c y where
  rests hhomed ht := by
    have hcome := State.comeToJoin_idles hover hhomed ht
    obtain ⟨hy, -⟩ := h.rests (by rw [hcome]; exact hq)
    rw [hy, hcome, State.channel_setChannel_same]
  adopts hhomed p htarget htaken := by
    rw [State.comeToJoin_adopts hover hhomed ⟨htarget, htaken⟩] at h
    refine GrantsFollow.adopts (s := s.setChannel c _) h hq ?_
    rw [State.channel_setChannel_same, ← htarget, ← htaken]
  waits hhomed hmay := by
    have hcome := State.comeToJoin_unhomes hover hhomed
    rw [State.joinHome_stays (mt (State.mayHome_setChannel (by rfl) (by rfl)).1 hmay)] at hcome
    obtain ⟨hy, -⟩ := h.rests (by rw [hcome]; exact hq)
    rw [hy, hcome, State.channel_setChannel_same]
  homes hhomed hmay := by
    refine h.keeps _ JoinedFor.granted_home ?_
    rw [State.comeToJoin_unhomes hover hhomed, State.joinHome_joins (by rw [State.channel_setChannel_same])
      ((State.mayHome_setChannel (by rfl) (by rfl)).2 hmay), State.joinQueue_channel]
    exact ⟨rfl, .inl rfl⟩

/-- At its settle end a channel that can be homed joins at the tail, with no higher one that joined at this same moment. -/
theorem State.comeToJoin_last (hover : (s.channel c).settleOver s.now = true) (hhomed : (s.channel c).homed = false)
    (hmay : s.MayHome c) (hlast : ∀ k ∈ s.queue, s.standsBehind c k = false) : (s.comeToJoin c).queue = s.queue ++ [c] := by
  rw [State.comeToJoin_unhomes hover hhomed, State.joinHome_joins (by rw [State.channel_setChannel_same])
    ((State.mayHome_setChannel (by rfl) (by rfl)).2 hmay)]
  refine State.queueWith_last (s := s.setChannel c _) fun k hk => ?_
  by_cases hkc : k = c
  · simp [State.standsBehind, hkc]
  · rw [State.standsBehind, State.channel_setChannel_other _ _ _ _ hkc]
    exact hlast k hk

theorem State.joinInOrder_settles (hq : c ∉ s.queue) (hover : (s.channel c).settleOver s.now = true) :
    EndsSettling s c ((s.joinInOrder c).channel c) := by
  obtain ⟨u, halike, hchannel, hout, hfollow⟩ := State.joinInOrder_at hq
  have hmay := State.MayHome.congr halike hchannel
  obtain ⟨hnow, hsupply, htables, -⟩ := halike
  obtain ⟨hrests, hadopts, hwaits, hhomes⟩ := hfollow.endsSettling hout (by rw [hchannel, hnow]; exact hover)
  rw [hchannel] at hrests hadopts hwaits hhomes
  rw [hsupply, hnow, State.damperCfg_congr htables] at hadopts
  rw [hmay] at hwaits hhomes
  exact ⟨hrests, hadopts, hwaits, hhomes⟩

/-! ### A channel that waits UNHOMED, in SAG and in NORMAL (R82, R84, R86) -/

section
variable (hstate : (s.channel c).state = .unhomed) (hmay : s.MayHome c)
include hstate hmay

/-- In SAG a channel with no lower one to join takes its place in the queue, and no other channel changes. -/
theorem State.joinInOrder_sag (halone : ∀ k, k < c → ¬ComesToJoin s s.now k) (hsag : s.supply.supply = .sag) :
    (s.joinInOrder c).channel c = { s.channel c with state := .queued, goal := some .home, joined := s.now }
      ∧ (∀ k, k ≠ c → (s.joinInOrder c).channel k = s.channel k) ∧ (s.joinInOrder c).queue = s.queueWith c := by
  have hjoined : (s.joinQueue c .home).supply.supply = .sag := by simpa using hsag
  rw [State.joinInOrder_alone halone hstate hmay]
  simp only [State.serveQueue_channel_of_sag hjoined, State.serveQueue_queue_of_sag hjoined]
  exact ⟨State.joinQueue_channel s c _, fun k hk => (State.joinQueue_other _ hk).1, rfl⟩

/-- In SAG a channel joins behind a lower one whose settle end falls at the same moment. -/
theorem State.joinInOrder_behind {a : ChannelId} (hsag : s.supply.supply = .sag) (ha : a < c)
    (hover : (s.channel a).settleOver s.now = true) (hhomed : (s.channel a).homed = false)
    (hrun : (s.channel a).lastOff + ms (s.channel a).restMs ≤ s.now) (hlast : ∀ k ∈ s.queue, s.standsBehind a k = false)
    (hothers : ∀ k, k < c → k ≠ a → ¬ComesToJoin s s.now k) : (s.joinInOrder c).queue = s.queue ++ [a, c] := by
  have hfirst : (s.comeToJoin a).queue = s.queue ++ [a] := by
    obtain ⟨hlatch, hhoming, -⟩ := hmay
    exact State.comeToJoin_last hover hhomed ⟨hlatch, hhoming, hrun⟩ hlast
  have halike : DrivesAlike s (s.comeToJoin a) := by simp [DrivesAlike]
  have hchannel : ∀ k, k ≠ a → (s.comeToJoin a).channel k = s.channel k := fun k => s.comeToJoin_other a k
  rw [State.joinInOrder, State.joinBelow_one ha hothers]
  obtain ⟨u, hu⟩ : ∃ u, u = s.comeToJoin a := ⟨_, rfl⟩
  rw [← hu] at hfirst halike hchannel ⊢
  have hsecond : u.comeToJoin c = u.joinQueue c .home :=
    State.comeToJoin_home (by rw [hchannel c (Fin.ne_of_gt ha)]; exact hstate)
      ((State.MayHome.congr halike (hchannel c (Fin.ne_of_gt ha))).2 hmay)
  obtain ⟨hnow, hsupply, -⟩ := halike
  have htail : u.queueWith c = u.queue ++ [c] := by
    refine State.queueWith_last fun k hk => ?_
    rw [Bool.eq_false_iff, Ne, State.standsBehind_iff]
    rintro ⟨hjoined, hck⟩
    have hka : k ≠ a := Fin.ne_of_gt (ha.trans hck)
    have hks : k ∈ s.queue := by simpa [hfirst, hka] using hk
    rw [hchannel k hka, hnow] at hjoined
    exact Bool.false_ne_true ((hlast k hks).symm.trans ((s.standsBehind_iff a k).2 ⟨hjoined, ha.trans hck⟩))
  rw [hsecond, State.serveQueue_queue_of_sag (by simpa [hsupply] using hsag),
    show (u.joinQueue c .home).queue = u.queueWith c from rfl, htail, hfirst, List.append_assoc]
  rfl

/-- In NORMAL with a slot free and nothing waiting, a channel is granted its stroke as it joins. -/
theorem State.joinInOrder_granted (halone : ∀ k, k < c → ¬ComesToJoin s s.now k) (hnormal : s.supply.supply = .normal)
    (hq : s.queue = []) (hslots : s.drivingCount < s.profile.slots) :
    (s.joinInOrder c).channel c = Channel.granted
        { s.channel c with state := .queued, goal := some .home, joined := s.now } (s.damperCfg c) s.now .home
      ∧ (s.joinInOrder c).queue = [] ∧ ∀ k, k ≠ c → (s.joinInOrder c).channel k = s.channel k := by
  have hjq : (s.joinQueue c .home).queue = [c] := by
    change s.queueWith c = _
    rw [State.queueWith_last (by simp [hq]), hq]
    rfl
  have hidle : (s.channel c).driving = false := by simp [Channel.driving, hstate]
  have hchannel := State.joinQueue_channel s c .home
  have ⟨hlatch, _⟩ := hmay
  obtain ⟨hgranted, m, hm⟩ := State.serveQueue_head hjq (by simp) (by rw [hchannel]) (by simpa using hnormal)
    (by simpa using hlatch) (by rw [State.drivingCount_joinQueue _ hidle]; simpa [State.profile] using hslots)
  have hcfg : (s.joinQueue c .home).damperCfg c = s.damperCfg c := State.damperCfg_congr (by simp) c
  rw [State.joinInOrder_alone halone hstate hmay]
  refine ⟨?_, by rw [hm, List.drop_nil], fun k hk => ?_⟩
  · rw [hgranted, hchannel, hcfg]
    simp
  · rw [State.serveQueue_channel (by rw [hjq]; simpa using hk), (State.joinQueue_other _ hk).1]

end

end

/-- Settles O53: a settle end by the homed mark and the target; a waiting channel by its dead time, the supply and those below
it. -/
theorem settledAndWaitingChannels : Obligations.SettledAndWaitingChannels := by
  refine ⟨fun s dt c d hrun hq hstate hdue hle => ?_, fun s dt c hrun hstate hhoming hlatch => ?_⟩
  · have hover : ((s.elapse dt).channel c).settleOver (s.elapse dt).now = true :=
      Channel.settleOver_iff.2 ⟨hstate, d, hdue, hle⟩
    have hends := State.joinInOrder_settles (s := s.elapse dt) hq hover
    refine ⟨(s.elapse dt).joinInOrder c, congrArg Host.Outcome.next (if_pos (running_and_elapse dt hrun hover)), ?_,
      hends.rests, hends.adopts, fun hhomed hlatch => hends.waits hhomed ?_,
      fun hhomed hlatch hhoming hruns => hends.homes hhomed ⟨hlatch, hhoming, hruns⟩,
      fun c' hne hq' hc' => State.joinInOrder_other (s := s.elapse dt) hne hq' hc'⟩
    · ext1 <;> simp
    · rintro ⟨hclear, -⟩
      exact Bool.false_ne_true (hclear.symm.trans hlatch)
  · intro now runs alone justJoined
    have hmay : (s.elapse dt).MayHome c ↔ runs := by
      refine ⟨fun ⟨_, _, h⟩ => h, fun h => ⟨hlatch, hhoming, h⟩⟩
    have hjoins := (State.joinsNow_unhomed (s := s.elapse dt) (c := c) hstate).trans hmay
    refine ⟨fun hno => congrArg Host.Outcome.next (if_neg ?_), fun hruns => ?_⟩
    · rw [Bool.and_eq_true, hjoins]
      exact fun h => hno h.2
    · have hcan := hmay.2 hruns
      have hbehind : ∀ a k, (s.elapse dt).standsBehind a k = false ↔ ¬justJoined a k := fun a k => by
        rw [← Bool.not_eq_true, State.standsBehind_iff]
        exact not_congr And.comm
      refine ⟨(s.elapse dt).joinInOrder c,
        congrArg Host.Outcome.next (if_pos (running_and_elapse dt hrun (hjoins.2 hruns))), ?_, fun hsag halone => ?_,
        fun hsag a ha hsettling hhomed ⟨d, hd, hle⟩ harun hlast hothers => ?_, fun hnormal halone hempty _ hslots => ?_⟩
      · ext1 <;> simp
      · obtain ⟨hchannel, hothers, hqueue⟩ := State.joinInOrder_sag (s := s.elapse dt) hstate hcan halone hsag
        refine ⟨hchannel, hothers, fun hlast => ?_, fun xs k ys hq hxs hk => ?_⟩
        · rw [hqueue, State.queueWith_last fun k hk => (hbehind c k).2 (hlast k hk)]
          rfl
        · rw [hqueue]
          exact State.queueWith_before hq (fun x hx => (hbehind c x).2 (hxs x hx))
            (((s.elapse dt).standsBehind_iff c k).2 hk.symm)
      · exact State.joinInOrder_behind (s := s.elapse dt) hstate hcan hsag ha
          (Channel.settleOver_iff.2 ⟨hsettling, d, hd, hle⟩) hhomed harun (fun k hk => (hbehind a k).2 (hlast k hk)) hothers
      · obtain ⟨hchannel, hqueue, hothers⟩ :=
          State.joinInOrder_granted (s := s.elapse dt) hstate hcan halone hnormal hempty hslots
        exact ⟨hqueue, hchannel, hothers⟩

end Sys2Proof.Machine
end

section
/-! PROOF. FEEDBACK PULSE (R73, R79, R82, R83, R87 to R91): a pulse counted in the drive, in the coast, or as a stray one. -/

namespace Sys2Proof.Machine

section
variable {s : State} {c k : ChannelId}

/-! ### A channel that homes at a command, behind those below it (R82, log entry 40) -/

theorem State.joinHomeInOrder_joins (hstate : (s.channel c).state = .unhomed) (hmay : s.MayHome c) :
    (s.joinHomeInOrder c).channel c = { s.channel c with state := .queued, goal := some .home, joined := s.now } := by
  obtain ⟨hchannel, -⟩ := State.joinBelow_rests (s := s) (.inl (le_refl c))
  rw [State.joinHomeInOrder, State.joinHome_joins (by rw [hchannel]; exact hstate)
    ((State.MayHome.congr (s.joinBelow_alike c) hchannel).2 hmay), State.joinQueue_channel, hchannel]
  simp

theorem State.joinHomeInOrder_stays (h : (s.channel c).state ≠ .unhomed ∨ ¬s.MayHome c) :
    (s.joinHomeInOrder c).channel c = s.channel c ∧ (c ∈ (s.joinHomeInOrder c).queue ↔ c ∈ s.queue) := by
  have hbelow := State.joinBelow_rests (s := s) (.inl (le_refl c))
  have hstays : s.joinHomeInOrder c = s.joinBelow c := by
    rcases h with h | h
    · exact if_neg fun ⟨hstate, _⟩ => h (hbelow.1 ▸ hstate)
    · exact State.joinHome_stays (mt (State.MayHome.congr (s.joinBelow_alike c) hbelow.1).1 h)
  rwa [hstays]

theorem State.joinHomeInOrder_other (hk : k ≠ c) (h : c < k ∨ ¬ComesToJoin s s.now k) :
    (s.joinHomeInOrder c).channel k = s.channel k ∧ (k ∈ (s.joinHomeInOrder c).queue ↔ k ∈ s.queue) := by
  obtain ⟨hchannel, hqueue⟩ := State.joinBelow_rests (h.imp_left le_of_lt)
  obtain ⟨hchannel', hqueue'⟩ := State.joinHome_other (s := s.joinBelow c) hk
  exact ⟨hchannel'.trans hchannel, hqueue'.trans hqueue⟩

/-- A channel that a command leaves to be homed has joined for HOME, or has its stroke begun, once the grants have followed; what
neither the join nor a grant writes stands. -/
theorem State.joinHomeInOrder_served (hstate : (s.channel c).state = .unhomed) (hmay : s.MayHome c) {P : Channel → Prop}
    (hP : KeptByGrants P) (h : P { s.channel c with state := .queued, goal := some .home, joined := s.now }) :
    P ((s.joinHomeInOrder c).serveQueue.channel c) :=
  State.serveQueue_keeps hP (by rwa [State.joinHomeInOrder_joins hstate hmay])

theorem State.joinHomeInOrder_rests (h : (s.channel c).state ≠ .unhomed ∨ ¬s.MayHome c) (hq : c ∉ s.queue) :
    (s.joinHomeInOrder c).serveQueue.channel c = s.channel c := by
  obtain ⟨hchannel, hqueue⟩ := State.joinHomeInOrder_stays h
  rw [State.serveQueue_channel (mt hqueue.1 hq), hchannel]

/-- An operation that leaves a channel as it was, outside the queue, leaves it so through the grants that follow. -/
theorem State.serveQueue_untouched {u : State} (h : u.channel k = s.channel k ∧ (k ∈ u.queue ↔ k ∈ s.queue)) (hq : k ∉ s.queue) :
    u.serveQueue.channel k = s.channel k := by
  obtain ⟨hchannel, hqueue⟩ := h
  rw [State.serveQueue_channel (mt hqueue.1 hq), hchannel]

/-! ### A pulse in the drive (R87, R88, R90, R91) -/

theorem State.pulse_driving {d : Dir} (h : (s.channel c).dir = some d) : s.pulse c = (s.drivePulse c d).serveQueue := by
  simp only [State.pulse, h]

/-- A channel that moves settles in the band of its goal, and drives on short of it (R87, R91). -/
theorem State.pulse_moves {d : Dir} {g : Nat} (hq : c ∉ s.queue) (hd : (s.channel c).dir = some d)
    (hg : (s.channel c).goal = some (.move g)) :
    (s.pulse c).channel c =
      (let r := s.channel c
      let cfg := s.damperCfg c
      let count := stepCount cfg.stroke r.count d
      if dist g count ≤ cfg.settle then
        { r with
          state := .settling, count := count, goal := none, retry := false, dir := none, lastOff := s.now,
          restMs := cfg.deadMs, silenceDue := none, seekDue := none, deadDue := some (s.now + ms cfg.deadMs) }
      else
        { r with
          count := count, silenceDue := some (s.now + ms cfg.stallMs)
          level := if dist g count ≤ cfg.approach then .half else .full }) := by
  simp only [State.pulse_driving hd, State.drivePulse, hg]
  split
  · rw [State.setChannel_serveQueue _ hq]
    rfl
  · rw [State.setChannel_serveQueue _ hq]
    rfl

/-- A seek goes on at full level (R87, R90). -/
theorem State.pulse_seeks {d : Dir} {g : Goal} (hq : c ∉ s.queue) (hd : (s.channel c).dir = some d)
    (hg : (s.channel c).goal = some g) (hseek : g.isMove = false) :
    (s.pulse c).channel c =
      { s.channel c with
        count := stepCount (s.damperCfg c).stroke (s.channel c).count d
        silenceDue := some (s.now + ms (s.damperCfg c).stallMs), level := .full } := by
  rw [State.pulse_driving hd]
  cases g with
  | move n => cases hseek
  | seekOpen => simp only [State.drivePulse, hg, State.setChannel_serveQueue _ hq]; rfl
  | seekClosed => simp only [State.drivePulse, hg, State.setChannel_serveQueue _ hq]; rfl
  | home => simp only [State.drivePulse, hg, State.setChannel_serveQueue _ hq]; rfl

theorem State.drivePulse_other (d : Dir) (hk : k ≠ c) :
    (s.drivePulse c d).channel k = s.channel k ∧ (k ∈ (s.drivePulse c d).queue ↔ k ∈ s.queue) := by
  refine ⟨?_, by simp⟩
  simp only [State.drivePulse]
  split
  · split
    · exact State.channel_setChannel_other _ _ _ _ hk
    · exact State.channel_setChannel_other _ _ _ _ hk
  · exact State.channel_setChannel_other _ _ _ _ hk
  · exact State.channel_setChannel_other _ _ _ _ hk

/-! ### A pulse in the coast (R79, R89) -/

theorem State.pulse_coasting {d : Dir} (hoff : (s.channel c).dir = none) (hd : (s.channel c).lastDir = some d)
    (hcoast : s.now ≤ (s.channel c).lastOff + ms 500) : s.pulse c = (s.coastPulse c d).serveQueue := by
  simp only [State.pulse, hoff, hd, if_pos hcoast]

/-- A channel with a pulse counted in a direction (R88). -/
def State.counted (s : State) (c : ChannelId) (d : Dir) : State :=
  s.setChannel c { s.channel c with count := stepCount (s.damperCfg c).stroke (s.channel c).count d }

theorem State.coastPulse_eq (s : State) (c : ChannelId) (d : Dir) : s.coastPulse c d = (s.counted c d).recheckQueued c := rfl

theorem State.counted_same (s : State) (c : ChannelId) (d : Dir) :
    (s.counted c d).channel c = { s.channel c with count := stepCount (s.damperCfg c).stroke (s.channel c).count d } :=
  State.channel_setChannel_same s c _

theorem State.recheckQueued_unqueued (h : (s.channel c).state ≠ .queued) : s.recheckQueued c = s := by
  simp only [State.recheckQueued]
  split
  · exact if_neg fun ⟨hq, _⟩ => h hq
  · rfl

/-- In the band of its goal a QUEUED channel leaves the queue (R79, R83). -/
theorem State.recheckQueued_leaves {g : Nat} (hstate : (s.channel c).state = .queued) (hg : (s.channel c).goal = some (.move g))
    (h : dist g (s.channel c).count ≤ (s.damperCfg c).settle) : s.recheckQueued c = s.leaveQueue c := by
  simp [State.recheckQueued, hg, hstate, DamperCfg.needsMotion, h]

theorem State.leaveQueue_other (hk : k ≠ c) :
    (s.leaveQueue c).channel k = s.channel k ∧ (k ∈ (s.leaveQueue c).queue ↔ k ∈ s.queue) :=
  ⟨State.channel_setChannel_other s c k _ hk, by simp [State.leaveQueue, hk]⟩

theorem State.leaveQueue_same (s : State) (c : ChannelId) :
    (s.leaveQueue c).channel c = { s.channel c with state := .idle, goal := none, retry := false } ∧ c ∉ (s.leaveQueue c).queue :=
  ⟨State.channel_setChannel_same s c _, by simp [State.leaveQueue]⟩

section
variable {d : Dir} (hoff : (s.channel c).dir = none) (hd : (s.channel c).lastDir = some d)
  (hcoast : s.now ≤ (s.channel c).lastOff + ms 500)
include hoff hd hcoast

/-- A channel that does not wait has its count moved and no more. -/
theorem State.pulse_coasts (hq : c ∉ s.queue) (hstate : (s.channel c).state ≠ .queued) :
    (s.pulse c).channel c = { s.channel c with count := stepCount (s.damperCfg c).stroke (s.channel c).count d } := by
  rw [State.pulse_coasting hoff hd hcoast, State.coastPulse_eq,
    State.recheckQueued_unqueued (by rw [State.counted_same]; exact hstate), State.counted, State.setChannel_serveQueue _ hq]

/-- A QUEUED channel that the pulse brings into its goal's band leaves the queue for IDLE. -/
theorem State.pulse_leaves {g : Nat} (hstate : (s.channel c).state = .queued) (hg : (s.channel c).goal = some (.move g))
    (hband : dist g (stepCount (s.damperCfg c).stroke (s.channel c).count d) ≤ (s.damperCfg c).settle) :
    c ∉ (s.pulse c).queue ∧ (s.pulse c).channel c =
      { s.channel c with
        state := .idle, count := stepCount (s.damperCfg c).stroke (s.channel c).count d, goal := none, retry := false } := by
  have hcounted := s.counted_same c d
  have hleaves : (s.counted c d).recheckQueued c = (s.counted c d).leaveQueue c :=
    State.recheckQueued_leaves (g := g) (by rw [hcounted]; exact hstate) (by rw [hcounted]; exact hg)
      (by rw [hcounted]; exact hband)
  obtain ⟨hleft, hout⟩ := (s.counted c d).leaveQueue_same c
  rw [State.pulse_coasting hoff hd hcoast, State.coastPulse_eq, hleaves]
  exact ⟨fun hm => hout (State.mem_of_mem_serveQueue hm), by rw [State.serveQueue_channel hout, hleft, hcounted]⟩

end

theorem State.coastPulse_other (d : Dir) (hk : k ≠ c) :
    (s.coastPulse c d).channel k = s.channel k ∧ (k ∈ (s.coastPulse c d).queue ↔ k ∈ s.queue) := by
  have hcounted : (s.counted c d).channel k = s.channel k := State.channel_setChannel_other s c k _ hk
  obtain ⟨hchannel, hqueue⟩ := State.leaveQueue_other (s := s.counted c d) hk
  simp only [State.coastPulse_eq, State.recheckQueued]
  split
  · split
    · exact ⟨hchannel.trans hcounted, hqueue⟩
    · exact ⟨hcounted, .rfl⟩
  · exact ⟨hcounted, .rfl⟩

/-! ### A stray pulse (R89) -/

theorem State.pulse_stray (hoff : (s.channel c).dir = none)
    (h : (s.channel c).lastDir = none ∨ ¬s.now ≤ (s.channel c).lastOff + ms 500) : s.pulse c = (s.strayPulse c).serveQueue := by
  simp only [State.pulse, hoff]
  split
  · next d hd => exact if_neg (h.resolve_left (by simp [hd]))
  · rfl

/-- Up to the fifteenth, and on a channel not homed, a stray pulse is counted and no more. -/
theorem State.strayPulse_counts (h : (s.channel c).stray < 15 ∨ (s.channel c).homed = false) :
    s.strayPulse c = s.setChannel c { s.channel c with stray := satInc 16 (s.channel c).stray } := by
  refine if_neg fun ⟨hstray, hhomed⟩ => ?_
  rcases h with h | h
  · simp only [satInc] at hstray
    split at hstray <;> omega
  · exact Bool.false_ne_true (h.symm.trans hhomed)

/-- The record that the sixteenth stray pulse leaves of a homed channel, before it joins for HOME (R89). -/
def Channel.distrusted (r : Channel) : Channel :=
  match r.state with
  | .idle => { r with state := .unhomed, stray := 16, homed := false, goal := none, taken := false }
  | .queued => { r with stray := 16, homed := false, goal := some .home, taken := false }
  | .unhomed | .moving | .seeking | .settling | .fault => { r with stray := 16, homed := false }

theorem Channel.distrusted_marks (r : Channel) :
    r.distrusted.stray = 16 ∧ r.distrusted.homed = false ∧ r.distrusted.target = r.target := by
  unfold Channel.distrusted
  split <;> exact ⟨rfl, rfl, rfl⟩

section
variable (hstray : (s.channel c).stray = 15) (hhomed : (s.channel c).homed = true)
include hstray hhomed

theorem State.strayPulse_unhomes (hstate : (s.channel c).state ≠ .idle) :
    s.strayPulse c = s.setChannel c (s.channel c).distrusted := by
  cases h : (s.channel c).state with
  | idle => exact absurd h hstate
  | _ => simp [State.strayPulse, satInc, State.loseHoming, Channel.distrusted, hstray, hhomed, h]

/-- An IDLE channel goes for its homing. -/
theorem State.strayPulse_homes (hstate : (s.channel c).state = .idle) :
    s.strayPulse c = (s.setChannel c (s.channel c).distrusted).joinHomeInOrder c := by
  simp [State.strayPulse, satInc, State.loseHoming, Channel.distrusted, hstray, hhomed, hstate]

end

/-- A stray pulse writes its channel, which then joins for HOME or not. -/
theorem State.strayPulse_cases (s : State) (c : ChannelId) :
    ∃ y, s.strayPulse c = s.setChannel c y ∨ s.strayPulse c = (s.setChannel c y).joinHomeInOrder c := by
  simp only [State.strayPulse, State.loseHoming, State.channel_setChannel_same, State.setChannel_setChannel]
  split
  · split
    · exact ⟨_, .inr rfl⟩
    all_goals exact ⟨_, .inl rfl⟩
  · exact ⟨_, .inl rfl⟩

theorem State.strayPulse_other (hk : k ≠ c) (h : c < k ∨ ¬ComesToJoin s s.now k) :
    (s.strayPulse c).channel k = s.channel k ∧ (k ∈ (s.strayPulse c).queue ↔ k ∈ s.queue) := by
  obtain ⟨y, hy | hy⟩ := s.strayPulse_cases c <;> rw [hy]
  · exact ⟨State.channel_setChannel_other s c k y hk, .rfl⟩
  · have hset : (s.setChannel c y).channel k = s.channel k := State.channel_setChannel_other s c k y hk
    obtain ⟨hchannel, hqueue⟩ := State.joinHomeInOrder_other (s := s.setChannel c y) hk
      (h.imp_right fun hn hc => hn (ComesToJoin.congr (t := s.setChannel c y) rfl rfl hset hc))
    exact ⟨hchannel.trans hset, hqueue⟩

/-- Pulses leave the other channels that do not wait as they are, but for one that joins before a channel to be homed (R82). -/
theorem State.pulse_other (hk : k ≠ c) (hq : k ∉ s.queue) (h : c < k ∨ ¬ComesToJoin s s.now k) :
    (s.pulse c).channel k = s.channel k := by
  simp only [State.pulse]
  split
  · exact State.serveQueue_untouched (State.drivePulse_other _ hk) hq
  · split
    · split
      · exact State.serveQueue_untouched (State.coastPulse_other _ hk) hq
      · exact State.serveQueue_untouched (State.strayPulse_other hk h) hq
    · exact State.serveQueue_untouched (State.strayPulse_other hk h) hq

/-! ### The sixteenth stray pulse, and the grants that follow (R82, R89) -/

theorem JoinedFor.granted_untaken : KeptByGrants fun r => JoinedFor r .home ∧ r.taken = false :=
  JoinedFor.granted_home.and fun _ _ _ _ _ htaken => htaken

section
variable (hstray : (s.channel c).stray = 15) (hhomed : (s.channel c).homed = true)
include hstray hhomed

/-- Whatever its state, a channel whose homing is taken keeps its target. -/
theorem State.sixteenth_marks :
    let y := (s.strayPulse c).serveQueue.channel c
    y.stray = 16 ∧ y.homed = false ∧ y.target = (s.channel c).target := by
  have hmarks := (s.channel c).distrusted_marks
  have hset := State.channel_setChannel_same s c (s.channel c).distrusted
  refine State.serveQueue_keeps (p := fun y => y.stray = 16 ∧ y.homed = false ∧ y.target = (s.channel c).target)
    (fun _ _ _ _ _ h => h) ?_
  by_cases hidle : (s.channel c).state = .idle
  · rw [State.strayPulse_homes hstray hhomed hidle]
    have hunhomed : ((s.setChannel c (s.channel c).distrusted).channel c).state = .unhomed := by
      rw [hset]
      simp only [Channel.distrusted, hidle]
    by_cases hmay : (s.setChannel c (s.channel c).distrusted).MayHome c
    · rw [State.joinHomeInOrder_joins hunhomed hmay, hset]
      exact hmarks
    · obtain ⟨hchannel, -⟩ := State.joinHomeInOrder_stays (.inr hmay)
      rw [hchannel, hset]
      exact hmarks
  · rw [State.strayPulse_unhomes hstray hhomed hidle, hset]
    exact hmarks

/-- A channel that waits keeps its place, and waits for HOME. -/
theorem State.sixteenth_queued (hstate : (s.channel c).state = .queued) :
    let t := (s.strayPulse c).serveQueue
    JoinedFor (t.channel c) .home ∧ (t.channel c).taken = false ∧ (s.supply.supply = .sag → t.queue = s.queue) := by
  have hstray' := State.strayPulse_unhomes hstray hhomed (by simp [hstate])
  have hrecord : (s.channel c).distrusted =
      { s.channel c with stray := 16, homed := false, goal := some .home, taken := false } := by
    simp only [Channel.distrusted, hstate]
  obtain ⟨hjoined, htaken⟩ := State.serveQueue_keeps (s := s.strayPulse c) (c := c) JoinedFor.granted_untaken (by
    rw [hstray', State.channel_setChannel_same, hrecord]
    exact ⟨⟨rfl, .inl hstate⟩, rfl⟩)
  refine ⟨hjoined, htaken, fun hsag => ?_⟩
  rw [State.serveQueue_queue_of_sag (by simpa using hsag), hstray']
  rfl

/-- A channel at rest for another reason than IDLE loses its homing and no more. -/
theorem State.sixteenth_rests (hq : c ∉ s.queue) (hstate : (s.channel c).state = .settling ∨ (s.channel c).state = .fault) :
    (s.strayPulse c).serveQueue.channel c = { s.channel c with stray := 16, homed := false } := by
  have hrecord : (s.channel c).distrusted = { s.channel c with stray := 16, homed := false } := by
    rcases hstate with h | h <;> simp only [Channel.distrusted, h]
  have hidle : (s.channel c).state ≠ .idle := by rcases hstate with h | h <;> simp [h]
  rw [State.strayPulse_unhomes hstray hhomed hidle, State.setChannel_serveQueue _ hq, hrecord]

/-- An IDLE channel goes for its homing if it can, and else waits UNHOMED. -/
theorem State.sixteenth_idle (hq : c ∉ s.queue) (hstate : (s.channel c).state = .idle) :
    let y := (s.strayPulse c).serveQueue.channel c
    (s.MayHome c → JoinedFor y .home ∧ y.taken = false)
      ∧ (¬s.MayHome c →
        y = { s.channel c with state := .unhomed, stray := 16, homed := false, goal := none, taken := false }) := by
  have hrecord : (s.channel c).distrusted =
      { s.channel c with state := .unhomed, stray := 16, homed := false, goal := none, taken := false } := by
    simp only [Channel.distrusted, hstate]
  have hset := State.channel_setChannel_same s c (s.channel c).distrusted
  have hmay : (s.setChannel c (s.channel c).distrusted).MayHome c ↔ s.MayHome c :=
    State.mayHome_setChannel (by rw [hrecord]) (by rw [hrecord])
  dsimp only
  rw [State.strayPulse_homes hstray hhomed hstate]
  refine ⟨fun h => ?_, fun h => ?_⟩
  · refine State.joinHomeInOrder_served (s := s.setChannel c _) (by rw [hset, hrecord]) (hmay.2 h)
      (P := fun y => JoinedFor y .home ∧ y.taken = false) JoinedFor.granted_untaken ?_
    rw [hset, hrecord]
    exact ⟨⟨rfl, .inl rfl⟩, rfl⟩
  · rw [State.joinHomeInOrder_rests (.inr (mt hmay.1 h)) hq, hset, hrecord]

end

end

/-! ### The pulse as a whole -/

/-- Settles O51: a pulse by the drive, the coast and the stray count, the sixteenth by the state of its channel. -/
theorem pulsesAreCounted : Obligations.PulsesAreCounted := by
  intro s dt c hrun cfg r now off coasts step
  obtain ⟨u, hu⟩ : ∃ u, u = s.elapse dt := ⟨_, rfl⟩
  have hstep : r.count ≤ cfg.stroke → ∀ d, stepCount cfg.stroke r.count d = step d := fun hcount d => by
    cases d with
    | opening =>
      simp only [stepCount, step]
      split <;> omega
    | closing => rfl
  have hexec : exec (.feedbackPulse dt c) s = .next (u.pulse c) :=
    hu ▸ congrArg Host.Outcome.next (if_pos ((State.isRunning_iff _).2 hrun))
  have hr : u.channel c = r := by rw [hu]; rfl
  have hcfg : u.damperCfg c = cfg := by rw [hu]; rfl
  have hnow : u.now = now := by rw [hu]; rfl
  have hqueue : u.queue = s.queue := by rw [hu]; rfl
  have hchannel : ∀ k, u.channel k = s.channel k := fun k => by rw [hu]; rfl
  have hmay : u.MayHome c ↔ s.supply.latch = false ∧ s.homingDue = none ∧ r.lastOff + ms r.restMs ≤ now := by rw [hu]; rfl
  refine ⟨u.pulse c, hexec, ?_, fun k hk hq h => hu ▸ State.pulse_other (s := s.elapse dt) hk hq h,
    fun hq hcount d g hdir hgoal => ?_, fun hq hcount d g hdir hgoal hseek => ?_,
    fun hq hcount hoff hcoast d hd hstate => ?_, fun hcount hoff hcoast d g hd hstate hgoal hband => ?_,
    fun hoff hlate => ?_⟩
  · ext1 <;> simp [hu]
  · refine ⟨?_, fun k hk hk' => ?_⟩
    · rw [State.pulse_moves (hqueue ▸ hq) (hr ▸ hdir) (hr ▸ hgoal)]
      simp only [hr, hcfg, hnow, hstep hcount]
    · rw [State.pulse_driving (hr ▸ hdir), State.serveQueue_untouched (State.drivePulse_other d hk) (hqueue ▸ hk'), hchannel]
  · have hmove : g.isMove = false := by rcases hseek with rfl | rfl | rfl <;> rfl
    rw [State.pulse_seeks (hqueue ▸ hq) (hr ▸ hdir) (hr ▸ hgoal) hmove, hr, hcfg, hnow, hstep hcount]
  · rw [State.pulse_coasts (hr ▸ hoff) (hr ▸ hd) (by rw [hr, hnow]; exact hcoast) (hqueue ▸ hq) (hr ▸ hstate), hr, hcfg,
      hstep hcount]
  · have hleaves := State.pulse_leaves (s := u) (c := c) (d := d) (g := g) (hr ▸ hoff) (hr ▸ hd)
      (by rw [hr, hnow]; exact hcoast) (hr ▸ hstate) (hr ▸ hgoal) (by rw [hr, hcfg, hstep hcount]; exact hband)
    rwa [hr, hcfg, hstep hcount] at hleaves
  · rw [State.pulse_stray (hr ▸ hoff) (by rw [hr, hnow]; exact hlate)]
    refine ⟨fun hq hcounts => ?_, fun hstray hhomed => ?_⟩
    · rw [State.strayPulse_counts (by rw [hr]; exact hcounts)]
      refine ⟨by rw [State.setChannel_serveQueue _ (hqueue ▸ hq), hr], fun k hk hk' => ?_⟩
      rw [State.serveQueue_untouched ⟨State.channel_setChannel_other u c k _ hk, .rfl⟩ (hqueue ▸ hk'), hchannel]
    · have hstray' : (u.channel c).stray = 15 := hr ▸ hstray
      have hhomed' : (u.channel c).homed = true := hr ▸ hhomed
      obtain ⟨hsixteen, hunhomed, htarget⟩ := State.sixteenth_marks hstray' hhomed'
      refine ⟨hsixteen, hunhomed, hr ▸ htarget, fun hq hstate => ?_, fun hstate => ?_, fun hq hstate => ?_⟩
      · rw [State.sixteenth_rests hstray' hhomed' (hqueue ▸ hq) (hr ▸ hstate), hr]
      · obtain ⟨hjoined, htaken, hsag⟩ := State.sixteenth_queued hstray' hhomed' (hr ▸ hstate)
        exact ⟨hjoined, htaken, fun h => (hsag (by rw [hu]; exact h)).trans hqueue⟩
      · obtain ⟨hhomes, hwaits⟩ := State.sixteenth_idle hstray' hhomed' (hqueue ▸ hq) (hr ▸ hstate)
        rw [hr] at hwaits
        refine ⟨?_, fun hlatch hhoming hruns => (hhomes (hmay.2 ⟨hlatch, hhoming, hruns⟩)).1, fun hno => hwaits fun h => ?_⟩
        · by_cases h : u.MayHome c
          · exact (hhomes h).2
          · rw [hwaits h]
        · obtain ⟨hlatch, hhoming, hruns⟩ := hmay.1 h
          rcases hno with hno | hno | hno
          · exact Bool.false_ne_true (hlatch.symm.trans hno)
          · exact hno hhoming
          · exact absurd hruns (Nat.not_le.2 hno)

end Sys2Proof.Machine
end

section
/-! PROOF. WRITE TABLE of a Damper record (R72, R73, R82, R100, R102, R186). -/

namespace Sys2Proof.Machine

/-! ### One record (R72, R186) -/

theorem damperRecord_eq (r : List Byte) : damperRecord r = keepIf DamperCfg.valid
    ⟨fieldAt r 0, (byteAt r 2).toNat, (byteAt r 3).toNat, fieldAt r 4, fieldAt r 6, (byteAt r 8).toNat⟩ := by
  simp only [damperRecord, nat16_eq_fieldAt]

theorem recordsOf_one {α : Type} (f : List Byte → Option α) {r : List Byte} {n : Nat} (h : r.length = n) :
    recordsOf f n 1 r = (f r).map fun x => [x] := by
  simp only [recordsOf, chunks, List.take_of_length_le (le_of_eq h), List.map_cons, List.map_nil]
  cases hf : f r <;> simp [allSome]

theorem writeAt_one {α : Type} {n : Nat} (v : Vector α n) (i : Fin n) (x : α) : writeAt v i.val [x] = put v i x :=
  look_ext fun j => by
    rw [look_writeAt, look_put]
    by_cases hj : j = i
    · subst hj
      simp [covers]
    · have hout : covers i.val [x].length j.val = false := by
        rw [← Bool.not_eq_true, covers_iff, List.length_singleton]
        exact fun ⟨hle, hlt⟩ => hj (Fin.ext (by omega))
      rw [hout, if_neg hj]
      rfl

section
variable {s : State} {c k : ChannelId}

theorem covers_one (i j : ChannelId) : covers i.val 1 j.val = true ↔ j = i := by
  rw [covers_iff, Fin.ext_iff]
  omega

theorem State.channelBusy_one (s : State) (c : ChannelId) : s.channelBusy c.val 1 = !(s.channel c).writable := by
  rw [Bool.eq_iff_iff, State.channelBusy, anyIx, List.any_eq_true]
  simp only [Bool.and_eq_true, covers_one, List.mem_finRange, true_and]
  exact ⟨fun ⟨k, hk, hw⟩ => hk ▸ hw, fun hw => ⟨c, rfl, hw⟩⟩

theorem Channel.writable_iff (r : Channel) : r.writable = true ↔ r.state = .idle ∨ r.state = .unhomed ∨ r.state = .fault := by
  simp [Channel.writable, or_assoc]

/-! ### The channel of the record (R73) -/

/-- The part with one Damper record replaced. -/
def State.withDamper (s : State) (c : ChannelId) (cfg : DamperCfg) : State :=
  { s with tables := { s.tables with dampers := put s.tables.dampers c cfg } }

/-- A write of one record meets its channel alone, and grants follow. -/
theorem State.dampersWritten_one (s : State) (c : ChannelId) (cfg : DamperCfg) :
    s.dampersWritten c.val [cfg] = ((s.withDamper c cfg).damperWritten c (s.damperCfg c)).serveQueue := by
  have hinstalled : s.setTables { s.tables with dampers := writeAt s.tables.dampers c.val [cfg] } = s.withDamper c cfg := by
    rw [writeAt_one]
    rfl
  obtain ⟨v, -, hv, hat⟩ := State.forIx_at id (fun _ => True)
    (fun (k : ChannelId) t => if covers c.val 1 k.val then t.damperWritten k (s.damperCfg k) else t) c (s.withDamper c cfg)
    trivial (fun _ _ _ => trivial) fun j t hj _ => if_neg (mt (covers_one c j).1 hj)
  have hv : v = s.withDamper c cfg := hv
  simp only [State.dampersWritten, hinstalled]
  refine congrArg State.serveQueue (Eq.trans hat ?_)
  rw [if_pos ((covers_one c c).2 rfl), hv]
  rfl

theorem State.withDamper_cfg (s : State) (c : ChannelId) (cfg : DamperCfg) : (s.withDamper c cfg).damperCfg c = cfg :=
  look_put_same _ _ _

/-- A channel whose stroke a write has changed, before it joins for HOME (R73). -/
def Channel.restroked (r : Channel) : Channel :=
  { r with homed := false, count := 0, taken := false, state := if r.state = .idle then .unhomed else r.state }

/-- A written channel at rest stays in FAULT, or is UNHOMED. -/
theorem Channel.restroked_eq {r : Channel} (h : r.state = .idle ∨ r.state = .unhomed ∨ r.state = .fault) :
    r.restroked =
      { r with homed := false, count := 0, taken := false, state := if r.state = .fault then .fault else .unhomed } := by
  rcases h with h | h | h <;> simp [Channel.restroked, h]

/-- The part with one Damper record replaced and its channel at a new stroke. -/
def State.restroke (s : State) (c : ChannelId) (cfg : DamperCfg) : State :=
  (s.withDamper c cfg).setChannel c (s.channel c).restroked

theorem State.restroke_same (s : State) (c : ChannelId) (cfg : DamperCfg) :
    (s.restroke c cfg).channel c = (s.channel c).restroked :=
  State.channel_setChannel_same _ _ _

theorem State.restroke_other (cfg : DamperCfg) (h : k ≠ c) : (s.restroke c cfg).channel k = s.channel k :=
  State.channel_setChannel_other _ _ _ _ h

theorem State.restroke_mayHome (s : State) (c : ChannelId) (cfg : DamperCfg) : (s.restroke c cfg).MayHome c ↔ s.MayHome c :=
  State.mayHome_setChannel (s := s.withDamper c cfg) (by rfl) (by rfl)

section
variable {cfg : DamperCfg}

theorem State.dampersWritten_unchanged (h : cfg.stroke = (s.damperCfg c).stroke) :
    s.dampersWritten c.val [cfg] = (s.withDamper c cfg).serveQueue := by
  rw [State.dampersWritten_one, State.damperWritten, if_pos (by rw [State.withDamper_cfg]; exact h)]

theorem State.dampersWritten_changed (h : cfg.stroke ≠ (s.damperCfg c).stroke) :
    s.dampersWritten c.val [cfg] = ((s.restroke c cfg).joinHomeInOrder c).serveQueue := by
  rw [State.dampersWritten_one, State.damperWritten, if_neg (by rw [State.withDamper_cfg]; exact h)]
  rfl

/-- A write leaves the other channels that do not wait as they are, but for one that joins before the written one (R82). -/
theorem State.dampersWritten_other (hk : k ≠ c) (hq : k ∉ s.queue)
    (h : c < k ∨ cfg.stroke = (s.damperCfg c).stroke ∨ ¬ComesToJoin s s.now k) :
    (s.dampersWritten c.val [cfg]).channel k = s.channel k := by
  by_cases hstroke : cfg.stroke = (s.damperCfg c).stroke
  · rw [State.dampersWritten_unchanged hstroke]
    exact State.serveQueue_channel (s := s.withDamper c cfg) hq
  · have hsame := State.restroke_other (s := s) cfg hk
    obtain ⟨hchannel, hqueue⟩ := State.joinHomeInOrder_other (s := s.restroke c cfg) hk
      (h.imp_right fun hn hc => (hn.resolve_left hstroke) (ComesToJoin.congr (t := s.restroke c cfg) rfl rfl hsame hc))
    rw [State.dampersWritten_changed hstroke]
    exact State.serveQueue_untouched ⟨hchannel.trans hsame, hqueue⟩ hq

theorem State.dampersWritten_same (hq : c ∉ s.queue) (h : cfg.stroke = (s.damperCfg c).stroke) :
    (s.dampersWritten c.val [cfg]).channel c = s.channel c := by
  rw [State.dampersWritten_unchanged h]
  exact State.serveQueue_channel (s := s.withDamper c cfg) hq

/-- A channel at a new stroke in FAULT, or one that cannot join, stays where it is. -/
theorem State.dampersWritten_stays (hq : c ∉ s.queue) (h : cfg.stroke ≠ (s.damperCfg c).stroke)
    (hstays : (s.channel c).restroked.state ≠ .unhomed ∨ ¬s.MayHome c) :
    (s.dampersWritten c.val [cfg]).channel c = (s.channel c).restroked := by
  have hsame := s.restroke_same c cfg
  rw [State.dampersWritten_changed h, State.joinHomeInOrder_rests (s := s.restroke c cfg) ?_ hq, hsame]
  rw [hsame, State.restroke_mayHome]
  exact hstays

/-- Any other goes for its homing, and keeps its target and the dead time of its last drive-off. -/
theorem State.dampersWritten_homes (h : cfg.stroke ≠ (s.damperCfg c).stroke)
    (hstate : (s.channel c).restroked.state = .unhomed) (hmay : s.MayHome c) :
    let y := (s.dampersWritten c.val [cfg]).channel c
    JoinedFor y .home ∧ y.homed = false ∧ y.taken = false ∧ y.target = (s.channel c).target
      ∧ y.lastOff = (s.channel c).lastOff ∧ y.restMs = (s.channel c).restMs := by
  have hsame := s.restroke_same c cfg
  simp only [State.dampersWritten_changed h]
  refine State.joinHomeInOrder_served (s := s.restroke c cfg)
    (P := fun y => JoinedFor y .home ∧ y.homed = false ∧ y.taken = false ∧ y.target = (s.channel c).target
      ∧ y.lastOff = (s.channel c).lastOff ∧ y.restMs = (s.channel c).restMs)
    (by rw [hsame]; exact hstate) ((s.restroke_mayHome c cfg).2 hmay)
    (JoinedFor.granted_home.and fun _ _ _ _ _ hmarks => hmarks) ?_
  rw [hsame]
  exact ⟨⟨rfl, .inl rfl⟩, rfl, rfl, rfl, rfl, rfl⟩

end

end

/-! ### The write (R73, R186) -/

section
variable {u : State} {c : ChannelId} {rec : List Byte} {cfg : DamperCfg}

/-- The three outcomes of a write of one Damper record: out of range, at a channel that may not be written, or written. -/
theorem State.writeTable_damper (hlen : rec.length = 9) (hsave : u.storeState ≠ .saving)
    (hrec : damperRecord rec = keepIf DamperCfg.valid cfg) :
    u.writeTable ([0x02, u8 c.val, 1] ++ rec) =
      if cfg.valid = true then
        if (u.channel c).writable = true then (u.dampersWritten c.val [cfg]).grant [0x02, u8 c.val, 1] else u.refuse .state
      else u.refuse .range := by
  have hfits : indexFits .damper c.val 1 = true := (indexFits_iff _ _ _).2 ⟨le_rfl, c.isLt, by decide⟩
  have hwrite := State.writeTable_of_records (u := u) (code := 0x02) (records := rec) rfl hfits hlen hsave
  simp only [State.writeRecords, Table.recordLength, recordsOf_one damperRecord hlen, hrec, keepIf] at hwrite
  refine hwrite.trans ?_
  by_cases hv : cfg.valid = true
  · simp only [if_pos hv, Option.map_some, State.channelBusy_one]
    cases (u.channel c).writable <;> rfl
  · simp only [if_neg hv, Option.map_none]

end

/-- Settles O28: the record's ranges, the channel's state, and the written channel by its stroke and whether it may join at
once. -/
theorem writtenDamperIsDecided : Obligations.WrittenDamperIsDecided := by
  intro s dt b w q p rec c hreq hq hlen hsave word cfg inRange r atRest u
  have hwrite := State.writeTable_damper (u := u) (c := c) (cfg := cfg) hlen hsave (damperRecord_eq rec)
  rw [← hq] at hwrite
  have hvalid : cfg.valid = true ↔ inRange := DamperCfg.valid_iff cfg
  have hrest : (u.channel c).writable = true ↔ atRest := Channel.writable_iff r
  have hmay : u.MayHome c ↔ s.supply.latch = false ∧ s.homingDue = none ∧ r.lastOff + ms r.restMs ≤ s.now + dt := Iff.rfl
  refine ⟨fun hno => ?_, fun hin hno => ?_, fun hin hat hout => ⟨u.dampersWritten c.val [cfg], ?_, ?_, fun k hk hkq h => ?_,
    fun hsame => ?_, fun hchanged => ?_⟩⟩
  · rw [if_neg (mt hvalid.1 hno)] at hwrite
    exact hreq.writes hwrite
  · rw [if_pos (hvalid.2 hin), if_neg (mt hrest.1 hno)] at hwrite
    exact hreq.writes hwrite
  · rw [if_pos (hvalid.2 hin), if_pos (hrest.2 hat)] at hwrite
    exact hreq.writes hwrite
  · ext1
    case tables => simp [State.dampersWritten_one, State.withDamper, u, afterReply]
    all_goals simp [State.dampersWritten_one, State.withDamper]
  · exact State.dampersWritten_other (s := u) hk hkq h
  · exact State.dampersWritten_same (s := u) hout hsame
  · have hstroked : (u.channel c).restroked = _ := Channel.restroked_eq (r := r) hat
    have hwaits : r.state = .fault ∨ ¬u.MayHome c → (u.dampersWritten c.val [cfg]).channel c = _ := fun h =>
      (State.dampersWritten_stays (s := u) hout hchanged
        (h.imp_left fun hfault => by rw [hstroked]; simp [hfault])).trans hstroked
    have hhomes : r.state ≠ .fault → u.MayHome c → _ := fun hne =>
      State.dampersWritten_homes (s := u) hchanged (by rw [hstroked]; exact if_neg hne)
    have hmarks : let y := (u.dampersWritten c.val [cfg]).channel c
        y.homed = false ∧ y.taken = false ∧ y.target = r.target ∧ y.lastOff = r.lastOff ∧ y.restMs = r.restMs := by
      dsimp only
      by_cases h : r.state = .fault ∨ ¬u.MayHome c
      · rw [hwaits h]
        exact ⟨rfl, rfl, rfl, rfl, rfl⟩
      · obtain ⟨hne, hcan⟩ := not_or.1 h
        obtain ⟨-, hmarks⟩ := hhomes hne (not_not.1 hcan)
        exact hmarks
    obtain ⟨hhomed, htaken, htarget, hoff, hrun⟩ := hmarks
    refine ⟨hhomed, htaken, htarget, hoff, hrun, fun hno => hwaits (hno.imp_right fun hno => ?_),
      fun hne hlatch hhoming hruns => ?_⟩
    · rw [hmay]
      rintro ⟨hclear, hnone, hrun⟩
      rcases hno with hlatch | hhoming | hruns
      · exact Bool.false_ne_true (hclear.symm.trans hlatch)
      · simp [hnone] at hhoming
      · exact absurd hrun (Nat.not_le.2 hruns)
    · obtain ⟨hjoined, -⟩ := hhomes hne (hmay.2 ⟨hlatch, hhoming, hruns⟩)
      exact hjoined

end Sys2Proof.Machine
end

section
/-! PROOF. SAG (R84, R101, R174 to R176): in SAG no drive comes on, because a drive is turned on by a grant alone and a grant needs
the supply NORMAL; at the exit the head of the queue is granted. -/

namespace Sys2Proof.Machine

/-- The supply is in SAG, and a channel does not drive. -/
structure State.StillInSag (c : ChannelId) (s : State) : Prop where
  sag : s.supply.supply = .sag
  still : (s.channel c).driving = false

theorem Channel.driving_of_state {r : Channel} (h : r.state = .moving ∨ r.state = .seeking) : r.driving = true := by
  simpa [Channel.driving] using h

section
variable {s : State}

/-- The supply state alone tells whether a finding changes anything (R174, R175). -/
theorem State.enterSag_eq (h : s.supply.supply = .normal) :
    s.enterSag = if s.isRunning then (s.setSupply .sag s.now).raise .supplySag else s.setSupply .sag s.now :=
  if_neg (by simp [h])

theorem State.leaveSag_eq (h : s.supply.supply = .sag) :
    s.leaveSag = if s.isRunning then (s.setSupply .normal (s.now - 9)).serveQueue else s.setSupply .normal (s.now - 9) :=
  if_neg (by simp [h])

end

namespace State.StillInSag

variable {s t : State} {c : ChannelId}

theorem frame (h : s.StillInSag c) (hst : t.supply.supply = s.supply.supply ∧ t.channels = s.channels) : t.StillInSag c := by
  obtain ⟨hsupply, hchannels⟩ := hst
  exact ⟨hsupply.trans h.sag, State.channel_congr hchannels c ▸ h.still⟩

/-- A record that drives is written to a channel that drives already. -/
theorem setChannel (h : s.StillInSag c) (k : ChannelId) {r : Channel} (hr : r.driving = true → (s.channel k).driving = true) :
    (s.setChannel k r).StillInSag c := by
  refine ⟨h.sag, ?_⟩
  rw [State.channel_setChannel]
  split
  · next hck =>
    rw [← Bool.not_eq_true]
    exact fun hd => Bool.false_ne_true (h.still.symm.trans (hck ▸ hr hd))
  · exact h.still

/-- A record at rest is written. -/
theorem setRest (h : s.StillInSag c) (k : ChannelId) {r : Channel} (hr : r.driving = false) : (s.setChannel k r).StillInSag c :=
  h.setChannel k fun hd => absurd (hr.symm.trans hd) Bool.false_ne_true

/-- A record in the state that it had is written. -/
theorem setSame (h : s.StillInSag c) (k : ChannelId) {r : Channel} (hr : r.state = (s.channel k).state) :
    (s.setChannel k r).StillInSag c :=
  h.setChannel k fun hd => by rwa [Channel.driving, ← hr]

/-- In SAG nothing is granted (R84). -/
theorem serveQueue (h : s.StillInSag c) : s.serveQueue.StillInSag c := by
  rw [State.serveQueue_of_sag h.sag]
  exact h.frame (by simp)

theorem forIx {n : Nat} {f : Fin n → State → State} (h : s.StillInSag c)
    (hf : ∀ i {t : State}, t.StillInSag c → (f i t).StillInSag c) : (s.forIx f).StillInSag c :=
  State.forIx_induct (State.StillInSag c) f s h fun i _ => hf i

/-! ### Joining (R78, R82, R92) -/

theorem joinQueue (h : s.StillInSag c) (k : ChannelId) (g : Goal) : (s.joinQueue k g).StillInSag c :=
  (h.setRest k (r := { s.channel k with state := .queued, goal := some g, joined := s.now }) rfl).frame ⟨rfl, rfl⟩

theorem leaveQueue (h : s.StillInSag c) (k : ChannelId) : (s.leaveQueue k).StillInSag c :=
  (h.setRest k (r := { s.channel k with state := .idle, goal := none, retry := false }) rfl).frame ⟨rfl, rfl⟩

theorem joinHome (h : s.StillInSag c) (k : ChannelId) : (s.joinHome k).StillInSag c := by
  unfold State.joinHome
  split
  · exact h.joinQueue k _
  · exact h

theorem adopt (h : s.StillInSag c) (k : ChannelId) : (s.adopt k).StillInSag c := by
  simp only [State.adopt]
  split
  · exact h
  · split_ifs
    · exact (h.setSame k (r := { s.channel k with taken := true }) rfl).joinQueue k _
    · exact h.setSame k (by rfl)
    · exact h.setSame k (by rfl)
    · exact h.setSame k (by rfl)

theorem tryJoin (h : s.StillInSag c) (k : ChannelId) : (s.tryJoin k).StillInSag c := by
  unfold State.tryJoin
  split
  · exact h.adopt k
  · exact h.joinHome k

theorem endSettling (h : s.StillInSag c) (k : ChannelId) : (s.endSettling k).StillInSag c := by
  simp only [State.endSettling]
  split_ifs
  · exact adopt (h.setRest k rfl) k
  · exact h.setRest k rfl
  · exact joinHome (h.setRest k rfl) k

theorem comeToJoin (h : s.StillInSag c) (k : ChannelId) : (s.comeToJoin k).StillInSag c := by
  unfold State.comeToJoin
  split_ifs
  · exact h.endSettling k
  · exact h.tryJoin k
  · exact h

theorem joinBelow (h : s.StillInSag c) (k : ChannelId) : (s.joinBelow k).StillInSag c :=
  h.forIx fun j _ ht => by
    split
    · exact ht.comeToJoin j
    · exact ht

theorem joinHomeInOrder (h : s.StillInSag c) (k : ChannelId) : (s.joinHomeInOrder k).StillInSag c := (h.joinBelow k).joinHome k

theorem joinInOrder (h : s.StillInSag c) (k : ChannelId) : (s.joinInOrder k).StillInSag c :=
  ((h.joinBelow k).comeToJoin k).serveQueue

theorem startHoming (h : s.StillInSag c) : s.startHoming.StillInSag c :=
  (forIx (s := { s with homingDue := none }) (h.frame ⟨rfl, rfl⟩) fun k _ ht => ht.comeToJoin k).serveQueue

theorem resumeDrives (h : s.StillInSag c) : s.resumeDrives.StillInSag c :=
  (h.forIx fun k _ ht => by
    split
    · exact ht.endSettling k
    · exact ht.tryJoin k).serveQueue

/-! ### Publications (R77 to R81) -/

theorem retargetQueued (h : s.StillInSag c) (k : ChannelId) (g : Goal) : (s.retargetQueued k g).StillInSag c := by
  have hq : (s.setChannel k { s.channel k with goal := some g, taken := true }).StillInSag c := h.setSame k rfl
  simp only [State.retargetQueued]
  split
  · exact hq
  · exact hq.leaveQueue k

/-- A channel that drives may take another goal and drive on (R80). -/
theorem retargetDriving (h : s.StillInSag c) (k : ChannelId) (g : Goal) (hk : (s.channel k).driving = true) :
    (s.retargetDriving k g).StillInSag c := by
  simp only [State.retargetDriving]
  split
  · split
    · exact h.setChannel k fun _ => hk
    · exact h.setChannel k fun _ => hk
  · exact h

theorem takeTarget (h : s.StillInSag c) (k : ChannelId) (p : Nat) : (s.takeTarget k p).StillInSag c := by
  have ht : (s.setChannel k { s.channel k with target := some p, taken := false }).StillInSag c := h.setSame k rfl
  simp only [State.takeTarget]
  split
  · split
    · exact ht.adopt k
    · exact ht.retargetQueued k _
    · next hs => exact ht.retargetDriving k _ (Channel.driving_of_state (.inl hs))
    · next hs => exact ht.retargetDriving k _ (Channel.driving_of_state (.inr hs))
    all_goals exact ht
  · exact ht

theorem publish (h : s.StillInSag c) (p : Vector Nat 8) : (s.publish p).StillInSag c :=
  (h.forIx fun k _ ht => (ht.takeTarget k _).comeToJoin k).serveQueue

theorem computeAndPublish (h : s.StillInSag c) : s.computeAndPublish.StillInSag c := by
  unfold State.computeAndPublish
  split
  · simp only [State.publishFigures]
    split
    · exact publish (h.frame (by simp)) _
    · exact h.frame (by simp)
  · exact h.frame (by simp)

theorem cycle (h : s.StillInSag c) : s.cycle.StillInSag c := by
  have hdecided : s.decided.StillInSag c := by
    have hd : s.evaluateZones.decision.1.StillInSag c := h.frame (by simp)
    unfold State.decided
    split
    · exact hd.computeAndPublish
    · exact hd.frame (by simp)
  rw [State.cycle_eq]
  exact hdecided.frame (by simp [State.updated])

/-! ### Feedback and timers of a channel (R88 to R98) -/

theorem drivePulse (h : s.StillInSag c) (k : ChannelId) (d : Dir) : (s.drivePulse k d).StillInSag c := by
  simp only [State.drivePulse]
  split
  · split
    · exact h.setRest k rfl
    · exact h.setSame k (by rfl)
  · exact h.setSame k (by rfl)
  · exact h.setSame k (by rfl)

theorem coastPulse (h : s.StillInSag c) (k : ChannelId) (d : Dir) : (s.coastPulse k d).StillInSag c := by
  have hcounted : (s.counted k d).StillInSag c := h.setSame k (by rfl)
  simp only [State.coastPulse_eq, State.recheckQueued]
  split
  · split
    · exact hcounted.leaveQueue k
    · exact hcounted
  · exact hcounted

theorem loseHoming (h : s.StillInSag c) (k : ChannelId) : (s.loseHoming k).StillInSag c := by
  simp only [State.loseHoming]
  split
  · exact joinHomeInOrder (h.setRest k rfl) k
  all_goals exact h.setSame k (by rfl)

theorem strayPulse (h : s.StillInSag c) (k : ChannelId) : (s.strayPulse k).StillInSag c := by
  have hs : (s.setChannel k { s.channel k with stray := satInc 16 (s.channel k).stray }).StillInSag c := h.setSame k rfl
  simp only [State.strayPulse]
  split
  · exact hs.loseHoming k
  · exact hs

theorem pulse (h : s.StillInSag c) (k : ChannelId) : (s.pulse k).StillInSag c := by
  simp only [State.pulse]
  split
  · exact (h.drivePulse k _).serveQueue
  · split
    · split
      · exact (h.coastPulse k _).serveQueue
      · exact (h.strayPulse k).serveQueue
    · exact (h.strayPulse k).serveQueue

theorem enterFault (h : s.StillInSag c) (k : ChannelId) (homed : Bool) : (s.enterFault k homed).StillInSag c :=
  (h.setRest k (r := { (s.channel k).driveOff (s.damperCfg k) s.now with state := .fault, homed := homed, taken := false })
    rfl).frame (by simp [State.enterFault])

theorem silenceExpired (h : s.StillInSag c) (k : ChannelId) : (s.silenceExpired k).StillInSag c := by
  simp only [State.silenceExpired]
  split
  case h_1 => exact serveQueue (h.setRest k rfl)
  case h_2 =>
    split
    · exact (h.enterFault k _).serveQueue
    · exact serveQueue (h.setRest k rfl)
  all_goals exact h

theorem seekExpired (h : s.StillInSag c) (k : ChannelId) : (s.seekExpired k).StillInSag c := (h.enterFault k false).serveQueue

theorem releaseChannel (h : s.StillInSag c) (k : ChannelId) : (s.releaseChannel k).StillInSag c := by
  have hr : (s.unfaulted k).StillInSag c := (h.setRest k (r := (s.channel k).released) rfl).frame (by simp [State.unfaulted])
  rw [State.releaseChannel_eq]
  exact (hr.joinHomeInOrder k).serveQueue

theorem damperWritten (h : s.StillInSag c) (k : ChannelId) (old : DamperCfg) : (s.damperWritten k old).StillInSag c := by
  simp only [State.damperWritten]
  split
  · exact h
  · refine joinHomeInOrder (h.setChannel k ?_) k
    simp only [Channel.driving]
    split
    · exact fun hd => nomatch hd
    · exact id

theorem dampersWritten (h : s.StillInSag c) (start : Nat) (xs : List DamperCfg) : (s.dampersWritten start xs).StillInSag c := by
  refine serveQueue (forIx (h.frame ⟨rfl, rfl⟩) fun k t ht => ?_)
  split
  · exact ht.damperWritten k _
  · exact ht

/-! ### The requests, the inputs and the moves (R99, R100, R181, R183) -/

theorem manages (h : s.StillInSag c) (m : Manages s t) : t.StillInSag c := by
  cases m with
  | clearsLatch _ _ => exact resumeDrives (h.frame (by simp))
  | writesDampers start xs _ _ _ => exact h.dampersWritten start xs
  | writesProfile p _ => exact serveQueue (h.frame ⟨rfl, rfl⟩)
  | releases k _ => exact h.releaseChannel k
  | nothing => exact h
  | saves _ _ => exact h.frame ⟨rfl, rfl⟩
  | clearsEvents es => exact h.frame (by simp)
  | clearsCounters => exact h.frame ⟨rfl, rfl⟩
  | _ => exact h.frame (by simp)

theorem keptByReplies : KeptByReplies (State.StillInSag c) where
  port _ _ h := h.frame (by simp)
  miss _ _ h := h.frame (by simp)
  credit _ _ h := h.frame (by simp)
  notice _ _ _ h := h.frame (by simp)
  report _ _ _ h := h.frame (by simp)
  change _ _ _ _ _ h := h.frame (by simp)
  query _ _ _ _ _ h := h.frame (by simp)
  manage _ _ _ m h := h.manages m

/-- An asserted input leaves each drive as it stands, or cuts it (R99). -/
theorem inputAsserted (h : s.StillInSag c) : (s.inputAsserted.channel c).driving = false := by
  simp only [State.inputAsserted]
  split
  · rw [State.setLatch_channel]
    exact (Channel.cutOff_driving _ _ _).1
  · exact h.still

theorem completeStart (h : s.StillInSag c) : (s.completeStart.channel c).driving = false := by
  have hc : s.completeStart.channel c = { s.channel c with restMs := (s.damperCfg c).deadMs } := by
    rw [State.channel_congr (s := s.blocksSet) (by simp [State.completeStart, State.startBlocks_eq])]
    exact look_tab _ c
  rw [hc]
  exact h.still

/-- A move that ends in SAG turns no drive on. -/
theorem acts {u : State} (h : u.StillInSag c) (a : Acts u t) (hsag : t.supply.supply = .sag) : (t.channel c).driving = false := by
  cases a with
  | hearsRoom running b => exact (keptByReplies.receive running h b).still
  | roomTimesOut _ _ => exact (keptByReplies.timeout h).still
  | cycles _ _ => exact h.cycle.still
  | pulses _ k => exact (h.pulse k).still
  | silenceExpires _ k _ => exact (h.silenceExpired k).still
  | seekExpires _ k _ => exact (h.seekExpired k).still
  | joins _ k _ => exact (h.joinInOrder k).still
  | homes _ _ => exact h.startHoming.still
  | sags => rw [State.enterSag, if_pos h.sag, h.still]
  | leavesSag =>
    rw [State.leaveSag_eq h.sag] at hsag
    split at hsag <;> simp at hsag
  | inputAsserted => exact h.inputAsserted
  | inputReleased => exact h.still
  | saveEnds _ agrees _ => exact (h.frame (t := u.endSave agrees) (by simp)).still
  | resets cause =>
    rw [show (u.takeReset cause).channel c = resetChannel u.now from look_replicate _ c]
    rfl
  | starts _ good _ => exact (h.frame (t := u.beginStart good) (by simp)).still
  | completes loading => exact h.completeStart
  | _ => exact (h.frame (by simp)).still

end State.StillInSag

/-- Settles O57: each finding by the phase and the supply state, the head of the queue by its grant, and every command in SAG by
its move. -/
theorem sagIsFollowed : Obligations.SagIsFollowed := by
  refine ⟨fun s dt hrun => ⟨fun hnormal => ?_, fun hsag => ?_⟩, fun i s t hsag hexec htsag c hdrives => ?_,
    fun s dt hheld => ⟨fun hnormal => ?_, fun hsag => ?_⟩⟩
  · refine congrArg Host.Outcome.next ?_
    rw [State.enterSag_eq (s := s.elapse dt) hnormal, if_pos ((State.isRunning_iff (s.elapse dt)).2 hrun)]
    ext1 <;> simp
  · refine ⟨((s.elapse dt).setSupply .normal (s.now + dt - 9)).serveQueue, congrArg Host.Outcome.next ?_, ?_,
      fun c hq => State.serveQueue_channel (s := (s.elapse dt).setSupply .normal _) hq,
      fun c rest hq hgoal hlatch _ hslots hrest => ?_⟩
    · rw [State.leaveSag_eq (s := s.elapse dt) hsag, if_pos ((State.isRunning_iff (s.elapse dt)).2 hrun)]
      rfl
    · ext1 <;> simp
    · obtain ⟨hgranted, m, hm⟩ := State.serveQueue_head (s := (s.elapse dt).setSupply .normal (s.now + dt - 9)) hq hrest hgoal rfl
        hlatch hslots
      rw [hgranted, hm]
      exact ⟨rfl, rfl, fun hin => hrest (List.mem_of_mem_drop hin)⟩
  · obtain ⟨t', ht', hacts⟩ := exec_acts i s
    obtain rfl : t' = t := by simpa [ht'] using hexec
    rw [← Bool.not_eq_false]
    intro hstill
    have hs : (s.elapse i.dt).StillInSag c := ⟨hsag, hstill⟩
    exact Bool.false_ne_true ((hs.acts hacts htsag).symm.trans hdrives)
  · refine congrArg Host.Outcome.next ?_
    rw [State.enterSag_eq (s := s.elapse dt) hnormal, if_neg (mt (State.isRunning_iff (s.elapse dt)).1 hheld)]
    rfl
  · have hwithin : ∀ now x : Nat, now - 9 ≤ x → now ≤ x + 48 := fun now x h => by omega
    refine ⟨max s.supply.holdFrom (s.now + dt - 9), Nat.le_max_left _ _, hwithin _ _ (Nat.le_max_right _ _),
      congrArg Host.Outcome.next ?_⟩
    · rw [State.leaveSag_eq (s := s.elapse dt) hsag, if_neg (mt (State.isRunning_iff (s.elapse dt)).1 hheld)]
      rfl

end Sys2Proof.Machine
end

section
/-! PROOF. The frames that the part sends (R103 to R105, R108) and the length of a POLL (R129 to R132). -/

namespace Sys2Proof.Machine

/-! ### The check (R105) -/

/-- While the top bit is 0, a step of the check is a doubling. -/
theorem toNat_crcBit {c : BitVec 16} (h : c.toNat < 2 ^ 15) : (crcBit c).toNat = 2 * c.toNat := by
  have hmsb : c.msb = false := by rw [BitVec.msb_eq_decide]; simpa using h
  rw [crcBit, hmsb, if_neg Bool.false_ne_true, BitVec.toNat_shiftLeft, Nat.shiftLeft_eq]
  omega

/-- So are several steps, while nothing leaves at the top. -/
theorem toNat_crcBit_iterate {c : BitVec 16} {k : Nat} (h : 2 ^ k * c.toNat < 2 ^ 16) :
    (crcBit^[k] c).toNat = 2 ^ k * c.toNat := by
  induction k with
  | zero => simp
  | succ k ih =>
    have hdouble : 2 ^ (k + 1) * c.toNat = 2 * (2 ^ k * c.toNat) := by ring
    have hk := ih (by omega)
    rw [Function.iterate_succ_apply', toNat_crcBit (by omega), hk, hdouble]

theorem crcByte_eq_iterate (c : BitVec 16) (b : Byte) : crcByte c b = crcBit^[8] (c ^^^ (b ++ 0x00#8)) := rfl

/-- A byte that equals the check's own high byte leaves the low byte, eight places up. -/
theorem crcByte_high (c : BitVec 16) : crcByte c (c.extractLsb' 8 8) = c.extractLsb' 0 8 ++ 0x00#8 := by
  have hlow : (c ^^^ (c.extractLsb' 8 8 ++ 0x00#8)) = 0x00#8 ++ c.extractLsb' 0 8 := by
    refine BitVec.eq_of_getLsbD_eq fun i hi => ?_
    simp only [BitVec.getLsbD_xor, BitVec.getLsbD_append, BitVec.getLsbD_extractLsb']
    by_cases h8 : i < 8
    · simp [h8]
    · have hback : 8 + (i - 8) = i := by omega
      have hin : i - 8 < 8 := by omega
      simp [h8, hback, hin]
  have htop : (0x00#8 ++ c.extractLsb' 0 8).toNat = (c.extractLsb' 0 8).toNat := by
    rw [BitVec.toNat_append]
    simp
  have hbound : (c.extractLsb' 0 8).toNat < 256 := (c.extractLsb' 0 8).isLt
  refine BitVec.eq_of_toNat_eq ?_
  rw [crcByte_eq_iterate, hlow, toNat_crcBit_iterate (by omega), htop, BitVec.toNat_append, Nat.shiftLeft_eq]
  simp [Nat.mul_comm]

/-- A byte that equals the check's high byte leaves nothing of a check whose low byte is 0. -/
theorem crcByte_self (b : Byte) : crcByte (b ++ 0x00#8) b = 0 := by
  rw [crcByte_eq_iterate, BitVec.xor_self]
  decide

/-- The check over bytes that are followed by their own check ends at 0 (R105). -/
theorem crc16_append_check (bs : List Byte) : crc16 (bs ++ bytes16 (crc16 bs)) = 0 := by
  rw [crc16, List.foldl_append]
  simp only [bytes16, List.foldl_cons, List.foldl_nil, ← crc16.eq_def]
  rw [crcByte_high, crcByte_self]

/-! ### A frame sent (R104, R108) -/

section
variable (dest cls : Byte) (p : List Byte)

theorem length_frameTo : (frameTo dest cls p).length = p.length + 6 := by simp [frameTo, bytes16]

theorem framePayload_frameTo : framePayload (frameTo dest cls p) = p := by
  simp only [framePayload, frameTo, bytes16, List.cons_append, List.nil_append, List.drop_succ_cons, List.drop_zero]
  rw [List.append_cons, List.dropLast_concat, List.dropLast_concat]

theorem sound_frameTo (h : p.length ≤ 32) : sound (frameTo dest cls p) = true := by
  have hcount : (byteAt (frameTo dest cls p) 3).toNat = p.length := by
    have hbyte : byteAt (frameTo dest cls p) 3 = u8 p.length := rfl
    rw [hbyte, u8, BitVec.toNat_ofNat]
    omega
  have hcheck : crc16 (frameTo dest cls p) = 0 := crc16_append_check _
  rw [sound, hcount, hcheck, length_frameTo]
  simp [h]

end

/-! ### A byte on the line (R103) -/

theorem serial_start (b : Byte) : (serial b).getLsbD 0 = false := by
  simp only [serial, BitVec.getLsbD_append]
  simp

theorem serial_stop (b : Byte) : (serial b).getLsbD 9 = true := by
  simp only [serial, BitVec.getLsbD_append]
  simp

/-- The data bits of a character stand behind its start bit. -/
theorem getLsbD_dataBits (c : Character) {k : Nat} (h : k < 8) : c.getLsbD (k + 1) = (dataBits c).getLsbD k := by
  simp [dataBits, h, Nat.add_comm]

/-! ### The length of a POLL (R129 to R132, 12.1) -/

@[simp] theorem length_optI16 (x : Option Int) : (optI16 x).length = 2 := by cases x <;> rfl

theorem State.length_housePart (s : State) : s.housePart.length = 9 := by simp [State.housePart]

theorem State.length_zonePart (s : State) (z : ZoneId) : (s.zonePart z).length = 13 := by
  simp [State.zonePart, i16, bytes16]

theorem length_answerPart (held : Option HeldResult) (e : Option QueryEntry) : (answerPart held e).length = 9 := by
  cases held <;> cases e <;> simp [answerPart, heldBytes, answerBytes, bytes32]

/-- The marks and the house part take ten bytes, a zone part thirteen, and the optional part its own. -/
theorem State.length_pollPayload (s : State) (i : Option RouteId) :
    (s.pollPayload i).length =
      10 + (if (s.zoneShown i).isSome then 13 else 0) + (s.optionalBytes i (s.optionalPart i)).length := by
  cases hz : s.zoneShown i <;> simp [State.pollPayload, hz, s.length_housePart, s.length_zonePart] <;> omega

theorem State.length_optionalBytes (s : State) (i : Option RouteId) (o : OptionalPart) :
    (s.optionalBytes i o).length = match o with | .answer => 9 | .notice => 2 | .none => 0 := by
  cases o with
  | none => rfl
  | answer => exact length_answerPart _ _
  | notice => rfl

/-- Settles O13, from the check that ends at 0 behind its own bytes, the ten bits of a byte and the lengths of a POLL's parts. -/
theorem sentFramesAreSound : Obligations.SentFramesAreSound := by
  refine ⟨fun dest cls p hp => ?_, fun bs => ⟨map_dataBits_wire bs, fun c hc => ?_⟩, fun s i => ?_⟩
  · exact ⟨sound_frameTo dest cls p hp, rfl, rfl, rfl, framePayload_frameTo dest cls p⟩
  · obtain ⟨b, -, rfl⟩ : ∃ b, b ∈ bs ∧ serial b = c := by simpa [wire] using hc
    exact ⟨serial_start b, serial_stop b, fun k hk => getLsbD_dataBits (serial b) hk⟩
  · rw [s.length_pollPayload, s.length_optionalBytes]
    cases s.optionalPart i <;> split <;> simp

end Sys2Proof.Machine
end

section
/-! PROOF. The room round and the POLL that goes out (R107, R110, R111, R131, R132, R164, R193). -/

namespace Sys2Proof.Machine

/-! ### The first index that meets a condition -/

/-- A search through all indices finds the lowest one that meets its condition. -/
theorem find?_finRange_eq_some_iff {n : Nat} (p : Fin n → Bool) (i : Fin n) :
    (List.finRange n).find? p = some i ↔ p i = true ∧ ∀ j, j < i → p j = false := by
  rw [List.find?_eq_some_iff_getElem]
  simp only [List.getElem_finRange, List.length_finRange, Bool.not_eq_true', Fin.cast_mk]
  refine and_congr_right fun _ => ⟨?_, fun h => ⟨i, i.isLt, rfl, fun j hj => h ⟨j, _⟩ hj⟩⟩
  rintro ⟨k, hk, rfl, h⟩ j hj
  exact h j hj

theorem find?_finRange_eq_none_iff {n : Nat} (p : Fin n → Bool) :
    (List.finRange n).find? p = none ↔ ∀ j, p j = false := by
  simp [List.find?_eq_none]

/-! ### The round (R110) -/

theorem State.firstInRound_eq_some_iff (s : State) (p : RouteId → Bool) (i : RouteId) :
    s.firstInRound p = some i ↔
      ((s.routeCfg i).inRound = true ∧ p i = true) ∧ ∀ j, j < i → p j = true → (s.routeCfg j).inRound = false := by
  rw [State.firstInRound, find?_finRange_eq_some_iff, Bool.and_eq_true]
  refine and_congr_right fun _ => forall₂_congr fun j _ => ?_
  cases p j <;> simp

theorem State.firstInRound_eq_none_iff (s : State) (p : RouteId → Bool) :
    s.firstInRound p = none ↔ ∀ j, p j = true → (s.routeCfg j).inRound = false := by
  rw [State.firstInRound, find?_finRange_eq_none_iff]
  refine forall_congr' fun j => ?_
  cases p j <;> simp

/-- Settles O15: after entry `k` the search admits the entries above `k`, after the service address every entry. -/
theorem roundVisitsInOrder : Obligations.RoundVisitsInOrder := by
  refine fun s => ⟨fun k hk => ?_, fun hs => ?_⟩
  · have hnext : s.nextPolled = s.firstInRound fun i => decide (k < i) := by simp only [State.nextPolled, hk]
    rw [hnext]
    refine ⟨fun i => ?_, ?_⟩
    · rw [State.firstInRound_eq_some_iff, decide_eq_true_eq]
      constructor
      · rintro ⟨⟨hin, hki⟩, hlow⟩
        exact ⟨hki, hin, fun j hkj hji => hlow j hji (decide_eq_true hkj)⟩
      · rintro ⟨hki, hin, hlow⟩
        exact ⟨⟨hin, hki⟩, fun j hji hkj => hlow j (of_decide_eq_true hkj) hji⟩
    · simp [State.firstInRound_eq_none_iff]
  · have hnext : s.nextPolled = s.firstInRound fun _ => true := by simp only [State.nextPolled, hs]
    rw [hnext]
    exact ⟨fun i => by simp [State.firstInRound_eq_some_iff], by simp [State.firstInRound_eq_none_iff]⟩

/-! ### What a POLL carries away (R131, R132, R164, R193) -/

section
variable (s : State) (i : Option RouteId) (o : OptionalPart)

theorem State.addressOf_eq : s.addressOf i = (i.map fun k => (s.routeCfg k).address).getD serviceAddress := by
  cases i <;> rfl

theorem State.routeRun_setRoute (j k : RouteId) (r : RouteRun) :
    (s.setRoute j r).routeRun k = if k = j then r else s.routeRun k := look_put _ _ _ _

/-- The runtime part of an entry once the POLL has carried its optional part to a node. -/
theorem State.carried_routeRun (k : RouteId) :
    ((s.carry i o).notePart i o).routeRun k =
      if i = some k then
        { s.routeRun k with held := if o = .answer then none else (s.routeRun k).held, lastPart := o }
      else s.routeRun k := by
  have hcarry : (s.carry i o).routeRun k =
      if i = some k ∧ o = .answer then { s.routeRun k with held := none } else s.routeRun k := by
    cases o with
    | none => simp [State.carry]
    | notice => simp [State.carry, State.routeRun]
    | answer =>
      have hfree : ∀ t : State, (t.freeDelivered (s.addressOf i)).routeRun k = t.routeRun k := fun t => rfl
      rw [State.carry, hfree]
      cases i with
      | none => rfl
      | some j =>
        rw [State.dropHeld, State.routeRun_setRoute]
        by_cases hj : k = j
        · simp [hj]
        · simp [hj, Ne.symm hj]
  cases i with
  | none => simpa [State.notePart] using hcarry
  | some j =>
    rw [State.notePart, State.routeRun_setRoute, hcarry]
    by_cases hj : k = j
    · subst hj
      cases o <;> simp [hcarry]
    · simp [hj, Ne.symm hj]

/-- The held result of the service address, the Query list and the offer once the POLL has carried its optional part. -/
theorem State.carried_serviceHeld :
    ((s.carry i o).notePart i o).serviceHeld = if i = none ∧ o = .answer then none else s.serviceHeld := by
  cases i <;> cases o <;> rfl

theorem State.carried_relay :
    ((s.carry i o).notePart i o).relay = { s.relay with
      entries := if o = .answer then
          s.relay.entries.filter fun e =>
            !(decide (e.requester = s.addressOf i) && (decide (e.state = .answered) || decide (e.state = .expired)))
        else s.relay.entries } := by
  cases i <;> cases o <;> rfl

theorem State.carried_events :
    ((s.carry i o).notePart i o).events =
      if o = .notice then { s.events with offer := some (s.events.raised &&& s.profile.enable) } else s.events := by
  cases i <;> cases o <;> rfl

end

/-! ### The POLL goes out (R107, R110, R111) -/

theorem State.lineLets_iff (s : State) (quiet : Nat) (since : Time) :
    s.lineLets quiet since = true ↔ ms 4 ≤ quiet ∨ since + ms 50 ≤ s.now := by
  rw [State.lineLets, Bool.or_eq_true, decide_eq_true_eq, decide_eq_true_eq]
  rfl

/-- A running room port with no open wait, no restart under way and its own 4 ms over waits for its line alone. -/
theorem State.roomFree_iff {s : State} {quiet : Nat} (hrun : s.phase = .running) (hwait : s.room.wait = none)
    (hrestart : s.room.restartDue = none) (hsend : s.room.sendAfter ≤ s.now) :
    s.roomFree quiet = true ↔ ms 4 ≤ quiet ∨ s.room.dueSince + ms 50 ≤ s.now := by
  rw [← State.lineLets_iff]
  simp [State.roomFree, hrun, hwait, hrestart, hsend]

/-- Settles O16, from what the POLL's optional part carries away and what the port makes of the frame it sends. -/
theorem pollGoesOut : Obligations.PollGoesOut := by
  intro s dt quiet hrun hwait hrestart hsend u i a o stop lets
  have hfree : u.roomFree quiet = true ↔ lets := State.roomFree_iff (s := u) hrun hwait hrestart hsend
  have ha : u.addressOf i = a := u.addressOf_eq i
  refine ⟨fun hno => congrArg Host.Outcome.next (if_neg (mt hfree.1 hno)), fun hlets => ?_⟩
  refine ⟨u.sendPoll, congrArg Host.Outcome.next (if_pos (hfree.2 hlets)), ?_, ?_, fun k => ?_, ?_, ?_, ?_⟩
  · ext1 <;> simp [State.sendPoll]
  · have hroom : u.sendPoll.room = u.room.polls u.now i (u.addressOf i) (u.pollPayload i) (decide (o = .notice)) := rfl
    rw [hroom, ha]
    rfl
  · exact u.carried_routeRun i o k
  · exact u.carried_serviceHeld i o
  · rw [← ha]
    exact u.carried_relay i o
  · exact u.carried_events i o

end Sys2Proof.Machine
end

section
/-! PROOF. The outcome of a POLL (R106, R111 to R113, R118, R122, R127, R194) and the requests that are refused (R123, R184). -/

namespace Sys2Proof.Machine

/-! ### A burst that is no valid reply (R112) -/

section
variable {source : Byte} {fits : Byte → List Byte → Bool} {bytes : List Byte}

theorem judge_unsound (h : sound bytes = false) : judge source fits bytes = .unsound := by simp [judge, h]

theorem judge_impostor (h : sound bytes = true) (hto : frameDest bytes = coordinatorAddress)
    (hfrom : frameSource bytes ≠ source) : judge source fits bytes = .impostor := by
  simp [judge, h, hto, hfrom]

theorem judge_miss (h : sound bytes = true) (hno : ¬(frameDest bytes = coordinatorAddress ∧ frameSource bytes ≠ source))
    (hreply : ∀ cls p, ¬IsReply bytes source fits cls p) : judge source fits bytes = .miss := by
  unfold judge
  split_ifs with hunsound hto hfrom hclass hfits
  · simp [h] at hunsound
  · rfl
  · exact absurd ⟨not_not.1 hto, hfrom⟩ hno
  · rfl
  · exact hreply _ _ ⟨h, not_not.1 hto, not_not.1 hfrom, rfl, rfl, by simpa using hfits⟩
  · rfl

/-- The verdicts with which a wait ends as a miss. -/
def Verdict.isMiss (v : Verdict) : Prop := v = .unsound ∨ v = .impostor ∨ v = .miss

/-- A burst that is no valid reply is a miss, with the counts that the table of R112 gives it. -/
theorem judge_isMiss (h : ∀ cls p, ¬IsReply bytes source fits cls p) (c : Counters) :
    (judge source fits bytes).isMiss ∧ (judge source fits bytes).count c = missCounts c bytes source := by
  unfold Verdict.isMiss
  by_cases hsound : sound bytes = false
  · rw [judge_unsound hsound]
    simp [Verdict.count, Counters.checkError, Counters.miss, missCounts, hsound]
  · have hheld : sound bytes = true := by simpa using hsound
    by_cases hother : frameDest bytes = coordinatorAddress ∧ frameSource bytes ≠ source
    · rw [judge_impostor hheld hother.1 hother.2]
      simp [Verdict.count, Counters.goodFrame, Counters.impostor, Counters.miss, missCounts, hheld, hother]
    · rw [judge_miss hheld hother h]
      simp [Verdict.count, Counters.goodFrame, Counters.miss, missCounts, hheld, hother]

end

/-- A burst that began within a wait falls into it (R107, R111, R117). -/
theorem State.beginsWithin_iff (s : State) (dt age : Nat) (closes timeout : Time) :
    (s.elapse dt).beginsWithin age closes timeout = true ↔ BeganWithin s dt age closes timeout := by
  rw [State.beginsWithin, Bool.and_eq_true, decide_eq_true_eq, decide_eq_true_eq]
  rfl

/-- A wait whose timeout has run ends unless a burst that began within it is still under way (R111, R117). -/
theorem State.waitEnds_iff (s : State) (dt : Nat) (closes timeout : Time) (under : Option Nat) :
    (s.elapse dt).waitEnds closes timeout under = true ↔
      closes ≤ s.now + dt ∧ ∀ age, under = some age → ¬BeganWithin s dt age closes timeout := by
  rw [State.waitEnds, Bool.and_eq_true, decide_eq_true_eq]
  refine and_congr_right fun _ => ?_
  cases under with
  | none => simp
  | some age => simp [← State.beginsWithin_iff]

/-! ### The end of a wait of the room port (R111 to R113, R194) -/

section
variable {s : State} {dt : Nat} {b : Burst} {w : RoomWait} {p : List Byte}

theorem State.missEntry_routes (s : State) (a : Byte) : (s.missEntry a).routes = missedRoutes s a := by
  unfold State.missEntry missedRoutes
  cases s.entryOf a with
  | none => rfl
  | some i =>
    have hcount : 5 ≤ satInc 255 (s.routeRun i).misses ↔ 4 ≤ (s.routeRun i).misses := by
      unfold satInc
      split <;> omega
    simp only [State.setRoute_routes, RouteRun.missed, hcount]

/-- A wait that ends as a miss closes, counts one miss for the node polled and ends the offer its POLL carried. -/
theorem State.roomMissed_eq (hwait : s.room.wait = some w) (c : Counters) :
    ((s.elapse dt).setRoom { s.room with counters := c }).roomMissed = afterMiss s dt w c := by
  set u := (s.elapse dt).setRoom { s.room with counters := c } with hu
  have huwait : u.room.wait = some w := hwait
  have hmissed : missedRoutes u.closeRoomWait w.address = missedRoutes s w.address := rfl
  rw [State.roomMissed, huwait]
  ext1
  case events =>
    simp only [State.noticeOutcome_events, State.missEntry_frame]
    rfl
  case routes => simp only [State.noticeOutcome_frame, State.missEntry_routes, hmissed, afterMiss]
  case room =>
    simp only [State.noticeOutcome_frame, State.missEntry_frame]
    rfl
  all_goals simp [hu, State.closeRoomWait, afterMiss]

theorem HearsMiss.verdict (h : HearsMiss s dt b w) :
    (s.elapse dt).roomVerdict b = judge w.address roomFits b.bytes := by
  simp [State.roomVerdict, h.running, h.waiting, (s.beginsWithin_iff dt b.age w.closes (ms 30)).2 h.inTime]

/-- A burst that decides a POLL and is no valid reply ends it as a miss (R112). -/
theorem HearsMiss.receive (h : HearsMiss s dt b w) :
    (s.elapse dt).receiveRoom b = afterMiss s dt w (missCounts s.room.counters b.bytes w.address) := by
  obtain ⟨hmiss, hcount⟩ := judge_isMiss h.noReply s.room.counters
  rw [State.receiveRoom_arrives _ _ h.arrives, ← hcount, ← State.roomMissed_eq h.waiting, State.judgeRoom, h.verdict]
  rcases hmiss with hv | hv | hv <;> rw [hv] <;> rfl

/-- NOTHING tells the room service nothing (R122). -/
theorem clsNothing_reply (u : State) (x : Sender) (p : List Byte) : u.takeReply x clsNothing p = u := by
  simp [State.takeReply, clsNothing, clsRoomReport, clsSetpointChange, clsPlantQuery, clsManageRequest]

theorem State.roomTimedOut_iff (hrun : s.phase = .running) (hwait : s.room.wait = some w) (under : Option Nat) :
    (s.elapse dt).roomTimedOut under = true ↔
      w.closes ≤ s.now + dt ∧ ∀ age, under = some age → ¬BeganWithin s dt age w.closes (ms 30) := by
  rw [← State.waitEnds_iff]
  simp [State.roomTimedOut, hrun, hwait]

end

/-- Settles O18: each end of a wait is one state, `afterReply` or `afterMiss`. -/
theorem pollsHaveOneOutcome : Obligations.PollsHaveOneOutcome := by
  refine ⟨fun s dt b w p h => ?_, fun s dt b w h => congrArg Host.Outcome.next h.receive, fun s dt under w hrun hwait =>
    ⟨fun hunder hcloses => ?_, fun age hage hwithin => ?_⟩⟩
  · refine congrArg Host.Outcome.next ?_
    rw [h.receive]
    exact clsNothing_reply _ _ _
  · have hends : (s.elapse dt).roomTimedOut under = true := (State.roomTimedOut_iff hrun hwait under).2 ⟨hcloses, hunder⟩
    refine congrArg Host.Outcome.next ((if_pos hends).trans ?_)
    exact State.roomMissed_eq hwait _
  · have hstays : ¬(s.elapse dt).roomTimedOut under = true := fun hends =>
      ((State.roomTimedOut_iff hrun hwait under).1 hends).2 age hage hwithin
    exact congrArg Host.Outcome.next (if_neg hstays)

/-! ### MANAGE REQUEST refused (R123, R184, R196) -/

/-- A code outside the list is no request (R196). -/
theorem requestOf_eq_none {b : Byte} (h : b = 0 ∨ 10 < b.toNat) : requestOf b = none := by
  unfold requestOf
  split_ifs with h1 h2 h3 h4 h5 h6 h7 h8 h9 h10
  case neg => rfl
  all_goals subst b; exact absurd h (by decide)

/-- An answer that grants no RESTART is sent and no more. -/
theorem State.sendAnswer_answers {t : State} {a code : Byte} {r : Result} (data : List Byte)
    (h : requestOf code ≠ some .restart ∨ r ≠ .ok) : t.sendAnswer a code r data = answeredWith t a code r data := by
  rcases h with h | h
  · exact State.sendAnswer_eq h r data
  · have hlen : ([code, u8 r.code] ++ data).length = 2 + data.length := by simp [Nat.add_comm 2]
    have hbytes : 2 + data.length + 6 = data.length + 8 := by omega
    simp only [State.sendAnswer, answeredWith, answerEnd, State.setRoom, h, and_false, if_false, hlen, hbytes, frameGap]

section
variable {s : State} {dt : Nat} {b : Burst} {w : RoomWait} {p : List Byte}

theorem State.mayManage_afterReply :
    (afterReply s dt w p).mayManage (s.senderAt w.address) = true ↔ FromTool s w := by
  rw [State.mayManage, decide_eq_true_eq, State.roleOf_congr afterReply_tables, FromTool]

/-- A request that is refused with a reason is answered with it and does nothing else. -/
theorem Hears.refused (h : Hears s dt b w clsManageRequest p) {r : Result} (hr : r ≠ .ok)
    (hmanage : (afterReply s dt w p).manage (s.senderAt w.address) (byteAt p 1) (p.drop 2) = (afterReply s dt w p).refuse r) :
    (s.elapse dt).receiveRoom b = answeredWith (afterReply s dt w p) w.address (byteAt p 1) r [] := by
  rw [h.receive, clsManageRequest_reply]
  simp only [State.takeRequest, hmanage]
  exact State.sendAnswer_answers [] (.inr hr)

theorem Hears.refused_rights (h : Hears s dt b w clsManageRequest p) (hno : ¬FromTool s w) :
    (s.elapse dt).receiveRoom b = answeredWith (afterReply s dt w p) w.address (byteAt p 1) .rights [] := by
  have hmay : (afterReply s dt w p).mayManage (s.senderAt w.address) = false :=
    Bool.eq_false_iff.2 (mt State.mayManage_afterReply.1 hno)
  exact h.refused (by decide) (by simp [State.manage, hmay])

theorem Hears.refused_unknown (h : Hears s dt b w clsManageRequest p) (htool : FromTool s w)
    (hcode : requestOf (byteAt p 1) = none) :
    (s.elapse dt).receiveRoom b = answeredWith (afterReply s dt w p) w.address (byteAt p 1) .unknown [] :=
  h.refused (by decide) (by simp [State.manage, State.mayManage_afterReply.2 htool, hcode])

end

/-- Settles O36: every management row brings its burst to the room port, which looks at the sender before the code. -/
theorem requestsAreChecked : Obligations.RequestsAreChecked := by
  refine fun s dt b w p h => ⟨fun hno i hi => ?_, fun htool hcode => ?_⟩
  · have hexec : exec i s = .next ((s.elapse dt).receiveRoom b) := by
      simp only [List.mem_cons, List.not_mem_nil, or_false] at hi
      rcases hi with rfl | rfl | rfl | rfl | rfl | rfl | rfl | rfl | rfl | rfl | rfl <;> rfl
    rw [hexec, h.refused_rights hno]
  · exact congrArg Host.Outcome.next (h.refused_unknown htool (requestOf_eq_none hcode))

/-! ### RESTART and the line reset (R114, R173, R176, R177, R189) -/

section
variable {s : State} {dt : Nat}

theorem State.isSaving_eq_false (h : s.storeState ≠ .saving) : s.isSaving = false := decide_eq_false h

/-- RESTART is granted, and the line reset falls due at the end of its answer (R114, R189). -/
theorem Requests.restarts {b : Burst} {w : RoomWait} {q p : List Byte} (h : Requests s dt b w 0x05 q p)
    (hsaving : s.storeState ≠ .saving) :
    (s.elapse dt).receiveRoom b = (afterReply s dt w p).sendAnswer w.address 0x05 .ok [] := by
  have hidle : (afterReply s dt w p).isSaving = false := State.isSaving_eq_false hsaving
  have hmanage : (afterReply s dt w p).manage (s.senderAt w.address) 0x05 q = (afterReply s dt w p).askRestart := by
    rw [State.manage, State.mayManage_afterReply.2 h.tool]
    rfl
  have hgrant : (afterReply s dt w p).askRestart = (afterReply s dt w p).grant [] := by simp [State.askRestart, hidle]
  rw [h.hears.receive, clsManageRequest_reply, h.hasCode, h.hasParams]
  simp only [State.takeRequest, hmanage, hgrant]
  rfl

/-- A line reset keeps the store, the level and the time left on the hold, and the inputs (R173, R177). -/
theorem State.takeReset_line (hrun : s.phase = .running) (hsaving : s.storeState ≠ .saving) :
    (s.elapse dt).takeReset .line =
      State.blank (s.now + dt) s.pending s.supply.supply s.supply.input s.decoder.pin
        ⟨s.decoder.level, s.decoder.holdLeft (s.now + dt), .line⟩ s.store := by
  have hidle : (s.elapse dt).isSaving = false := State.isSaving_eq_false hsaving
  have hruns : (s.elapse dt).isRunning = true := (State.isRunning_iff _).2 hrun
  simp [State.takeReset, State.storeAtReset, hidle, State.areaAtReset, hruns, State.keptArea]

end

/-- Settles O31, from the answer that carries the RESTART and the state that a line reset leaves. -/
theorem restartBringsALineReset : Obligations.RestartBringsALineReset := by
  refine ⟨fun s dt b w q p h hsaving => congrArg Host.Outcome.next ?_, fun s dt d hrun hdue hpast hsaving => ?_⟩
  · rw [h.restarts hsaving]
    rfl
  · have hlapsed : (s.elapse dt).lineResetDue = true := by
      simp [State.lineResetDue, hrun, hdue, due, hpast]
    refine congrArg Host.Outcome.next ((if_pos hlapsed).trans ?_)
    exact State.takeReset_line hrun hsaving

end Sys2Proof.Machine
end

section
/-! PROOF. The plant line: the end of a slot without an answer (R111, R112, R115, R117, R118, R160). -/

namespace Sys2Proof.Machine

/-! ### A miss on the plant line (R112, R115, R117, R160) -/

/-- The relay once the wait of a frame has ended without an answer: a QUERY is off the line (R160). -/
def Relay.afterMiss (r : Relay) (e : Expects) : Relay := { r with onLine := if e = .accept then none else r.onLine }

section
variable {s : State} {dt : Nat} {b : Burst} {w : PlantWait}

theorem State.missAnswered_relay (s : State) (e : Expects) : (s.missAnswered e).relay = s.relay.afterMiss e := by
  cases e <;> rfl

/-- A wait that ends as a miss closes, takes a QUERY off the line and ends its slot. -/
theorem State.plantMissed_eq (hwait : s.plant.wait = some w) (c : Counters) :
    ∃ x, follows s.plant.slot x ∧ ((s.elapse dt).setPlant { s.plant with counters := c }).plantMissed =
      { s.elapse dt with
        plant := plantAfter s.plant (s.now + dt) c x
        relay := s.relay.afterMiss w.expects } := by
  set u := (s.elapse dt).setPlant { s.plant with counters := c } with hu
  have huwait : u.plant.wait = some w := hwait
  obtain ⟨x, hx, hplant⟩ := (u.closePlantWait.missAnswered w.expects).endSlot_plant
  have hport : (u.closePlantWait.missAnswered w.expects).plant = { s.plant with wait := none, counters := c } := by
    simp [State.closePlantWait, hu]
  refine ⟨x, by simpa only [hport] using hx, ?_⟩
  simp only [State.plantMissed, huwait]
  ext1
  case plant =>
    rw [hplant, hport]
    simp [plantAfter, hu]
  case relay =>
    simp only [State.endSlot_frame, State.missAnswered_relay]
    rfl
  all_goals simp [hu]

theorem HearsPlantMiss.verdict (h : HearsPlantMiss s dt b w) :
    (s.elapse dt).plantVerdict b = judge (nodeAddress w.node) (plantFits w.expects) b.bytes := by
  simp [State.plantVerdict, h.running, h.waiting, (s.beginsWithin_iff dt b.age w.closes (ms 50)).2 h.inTime]

/-- A burst that decides a wait and is no valid answer ends it as a miss (R117). -/
theorem HearsPlantMiss.receive (h : HearsPlantMiss s dt b w) :
    (s.elapse dt).receivePlant b =
      ((s.elapse dt).setPlant
        { s.plant with counters := missCounts s.plant.counters b.bytes (nodeAddress w.node) }).plantMissed := by
  obtain ⟨hmiss, hcount⟩ := judge_isMiss h.noReply s.plant.counters
  rw [State.receivePlant_arrives _ _ h.arrives, ← hcount, State.judgePlant, h.verdict]
  rcases hmiss with hv | hv | hv <;> rw [hv] <;> rfl

theorem State.plantTimedOut_iff (hrun : s.phase = .running) (hwait : s.plant.wait = some w) (under : Option Nat) :
    (s.elapse dt).plantTimedOut under = true ↔
      w.closes ≤ s.now + dt ∧ ∀ age, under = some age → ¬BeganWithin s dt age w.closes (ms 50) := by
  rw [← State.waitEnds_iff]
  simp [State.plantTimedOut, hrun, hwait]

end

/-- Settles O24: a deciding burst and a timeout differ in the counters they leave, and in nothing else. -/
theorem plantMissEndsItsSlot : Obligations.PlantMissEndsItsSlot := by
  refine fun s dt w => ⟨fun b h => ?_, fun under hrun hwait => ⟨fun hunder hcloses => ?_, fun age hage hwithin => ?_⟩⟩
  · obtain ⟨x, hx, hmissed⟩ := State.plantMissed_eq (dt := dt) h.waiting
      (missCounts s.plant.counters b.bytes (nodeAddress w.node))
    exact ⟨x, hx, congrArg Host.Outcome.next (h.receive.trans hmissed)⟩
  · have hends : (s.elapse dt).plantTimedOut under = true := (State.plantTimedOut_iff hrun hwait under).2 ⟨hcloses, hunder⟩
    obtain ⟨x, hx, hmissed⟩ := State.plantMissed_eq (dt := dt) hwait s.plant.counters.miss
    exact ⟨x, hx, congrArg Host.Outcome.next ((if_pos hends).trans hmissed)⟩
  · have hstays : ¬(s.elapse dt).plantTimedOut under = true := fun hends =>
      ((State.plantTimedOut_iff hrun hwait under).1 hends).2 age hage hwithin
    exact congrArg Host.Outcome.next (if_neg hstays)

end Sys2Proof.Machine
end

section
/-! PROOF. The plant line: the frames of a round (R107, R115 to R117, R137, R138, R141, R160, R161). -/

namespace Sys2Proof.Machine

/-! ### When a frame may go (R107, R115, R116) -/

section
variable {s : State} {dt quiet : Nat} {n : Node}

/-- A running plant port with no open wait and its own 4 ms over is at rest. -/
theorem State.plantFree_of (hrun : s.phase = .running) (hwait : s.plant.wait = none)
    (hsend : s.plant.sendAfter ≤ s.now + dt) : (s.elapse dt).plantFree = true := by
  simp [State.plantFree, hrun, hwait, hsend]

/-- A plant port at rest waits for its line alone. -/
theorem State.plantSendsNow_of (hrun : s.phase = .running) (hwait : s.plant.wait = none)
    (hsend : s.plant.sendAfter ≤ s.now + dt) (hlets : ms 4 ≤ quiet ∨ s.plant.dueSince + ms 50 ≤ s.now + dt) :
    (s.elapse dt).plantSendsNow quiet = true := by
  rw [State.plantSendsNow, State.plantFree_of hrun hwait hsend, Bool.true_and]
  exact (State.lineLets_iff _ _ _).2 hlets

/-- Nothing goes to a line that is not silent before its 50 ms have run. -/
theorem State.plantSendsNow_held (hquiet : quiet < ms 4) (hsince : s.now + dt < s.plant.dueSince + ms 50) :
    (s.elapse dt).plantSendsNow quiet = false := by
  have hno : (s.elapse dt).lineLets quiet s.plant.dueSince = false := by
    rw [← Bool.not_eq_true, State.lineLets_iff]
    rintro (h | h)
    · exact absurd h (Nat.not_le.2 hquiet)
    · exact absurd h (Nat.not_le.2 hsince)
  simp [State.plantSendsNow, hno]

theorem exec_plantCommand_held (h : (s.elapse dt).plantSendsNow quiet = false) :
    exec (.plantCommand ⟨dt, quiet⟩ n) s = .next (s.elapse dt) :=
  congrArg Host.Outcome.next (if_neg (by simp [h]))

theorem exec_wake_held (h : (s.elapse dt).plantSendsNow quiet = false) :
    exec (.wake ⟨dt, quiet⟩ n) s = .next (s.elapse dt) :=
  congrArg Host.Outcome.next (if_neg (by simp [h]))

theorem exec_query_held (h : (s.elapse dt).plantSendsNow quiet = false) :
    exec (.query ⟨dt, quiet⟩) s = .next (s.elapse dt) :=
  congrArg Host.Outcome.next (if_neg (by simp [h]))

/-! ### PLANT ROUND (R115, R116, R160) -/

/-- The round timer has expired and the last round is over: the timer runs again and the round begins (R115). -/
theorem exec_plantRound {d : Time} (hrun : s.phase = .running) (hwait : s.plant.wait = none)
    (hsend : s.plant.sendAfter ≤ s.now + dt) (hdue : s.plant.roundDue = some d) (hpast : d ≤ s.now + dt)
    (hover : s.plant.slot = .over) :
    exec (.plantRound dt) s = .next
      { s.elapse dt with
        plant := { s.plant with
          roundDue := some (s.now + dt + ms 500)
          slot := (s.elapse dt).firstSlot
          dueSince := s.now + dt } } := by
  have hoccasion : ((s.elapse dt).plantFree && due s.plant.roundDue (s.now + dt) && decide (s.plant.slot = .over)) = true := by
    simp [State.plantFree_of hrun hwait hsend, hdue, due, hpast, hover]
  refine congrArg Host.Outcome.next ((if_pos hoccasion).trans ?_)
  ext1
  case plant => exact State.startRound_plant _
  all_goals simp

/-! ### PLANT COMMAND and WAKE (R116, R117, R137, R138, R141) -/

/-- The mark byte of a command to the outdoor unit: STOP alone. -/
theorem markByte_stop (stop : Bool) : markByte [stop] = if stop then 1 else 0 := by
  cases stop <;> rfl

/-- The mark byte of a command to the air handler: STOP, reheat and the cold-blow guard. -/
theorem markByte_air (stop reheat cold : Bool) :
    markByte [stop, reheat, cold] =
      (if stop then (1 : Byte) else 0) + (if reheat then 2 else 0) + (if cold then 4 else 0) := by
  cases stop <;> cases reheat <;> cases cold <;> rfl

/-- PLANT COMMAND as it leaves the port: the frame, its wait, and one STOP command more while the stop sequence is open. -/
theorem State.sendCommand_eq (s : State) (n : Node) :
    s.sendCommand n =
      { s with
        plant := (s.plantSends n clsPlantCommand (s.commandPayload n) .status).plant
        links := if (s.link n).stopOpen then
            s.links.set n { s.link n with stopCount := satInc 255 (s.link n).stopCount }
          else s.links } := by
  have hlink : (s.plantSends n clsPlantCommand (s.commandPayload n) .status).link n = s.link n := rfl
  simp only [State.sendCommand, State.countStop, hlink]
  split <;> rfl

end

/-- Settles O37: the first slot that sends, then each frame as the port sends it, and nothing to a line that is not silent. -/
theorem plantRoundsSend : Obligations.PlantRoundsSend := by
  refine ⟨?_, ?_, fun s dt quiet n hrun hwait hsend hslot hdown => ⟨fun hwake hlets => ?_, fun t ht hsoon => ?_⟩,
    fun s dt quiet n hquiet hsince => ?_⟩
  · intro s dt d hrun hwait hsend hdue hpast hover sends
    have hsends : ∀ n, (s.elapse dt).sendsTo n = true ↔ sends n := fun n => State.sendsTo_iff _ n
    refine ⟨(s.elapse dt).firstSlot, exec_plantRound hrun hwait hsend hdue hpast hover, ?_⟩
    simp only [← hsends]
    obtain ⟨hair, hout, -⟩ := (s.elapse dt).firstSlot_spec
    refine ⟨hair, hout, fun hno hno' hoffered => ?_, fun hno hno' hnone => ?_⟩
    · simp [State.firstSlot, hno, hno', hoffered]
    · simp [State.firstSlot, hno, hno', hnone]
  · intro s dt quiet n hrun hwait hsend hslot hup hlets
    have hoccasion : ((s.elapse dt).plantSendsNow quiet && decide (s.plant.slot = slotOf n)
        && decide ((s.link n).state ≠ .down)) = true := by
      simp [State.plantSendsNow_of hrun hwait hsend hlets, hslot, hup]
    refine congrArg Host.Outcome.next ((if_pos hoccasion).trans ?_)
    rw [State.sendCommand_eq]
    cases n with
    | airHandler =>
      simp only [State.commandPayload, markByte_air]
      rfl
    | outdoorUnit =>
      simp only [State.commandPayload, markByte_stop]
      rfl
  · have hdue : (s.elapse dt).wakeDue n = true := (State.wakeDue_iff _ _).2 hwake
    have hoccasion : ((s.elapse dt).plantSendsNow quiet && decide (s.plant.slot = slotOf n)
        && decide ((s.link n).state = .down) && (s.elapse dt).wakeDue n) = true := by
      simp [State.plantSendsNow_of hrun hwait hsend hlets, hslot, hdown, hdue]
    exact congrArg Host.Outcome.next ((if_pos hoccasion).trans rfl)
  · have hno : (s.elapse dt).wakeDue n = false := by
      rw [← Bool.not_eq_true, State.wakeDue_iff]
      exact fun h => absurd (h t ht) (Nat.not_le.2 hsoon)
    exact congrArg Host.Outcome.next (if_neg (by simp [hno]))
  · have hheld := State.plantSendsNow_held (s := s) (dt := dt) hquiet hsince
    exact ⟨exec_plantCommand_held hheld, exec_wake_held hheld, exec_query_held hheld⟩

/-! ### QUERY and QUERY ACCEPT (R117, R160, R161) -/

/-- With no query on the line the WAITING entry nearest the head is offered (R160). -/
theorem Relay.offered_eq {r : Relay} {xs ys : List QueryEntry} {e : QueryEntry} (hline : r.onLine = none)
    (hentries : r.entries = xs ++ e :: ys) (hwaiting : e.state = .waiting) (hxs : ∀ x ∈ xs, x.state ≠ .waiting) :
    r.offered = some e := by
  have hnone : xs.find? (fun x => decide (x.state = .waiting) && !r.onLineIs x) = none := by
    simp only [List.find?_eq_none, Bool.and_eq_true, decide_eq_true_eq]
    exact fun x hx h => hxs x hx h.1
  have he : (decide (e.state = .waiting) && !r.onLineIs e) = true := by simp [hwaiting, Relay.onLineIs, hline]
  rw [Relay.offered, hentries, List.find?_append, hnone, Option.none_or]
  exact List.find?_cons_of_pos he

section
variable {s : State} {dt : Nat} {b : Burst} {w : PlantWait} {cls : Byte} {p : List Byte}

/-- An acceptance takes the query off the line, and the WAITING entry of its tag becomes SENT when that is the tag (R161). -/
theorem State.queryAccepted_relay (u : State) (tag : Nat) :
    (u.queryAccepted tag).relay = { u.relay with
      onLine := none
      entries := u.relay.entries.map fun e =>
        if u.relay.onLine = some tag ∧ e.tag = tag ∧ e.state = .waiting then e.accepted u.now else e } := by
  unfold State.queryAccepted
  cases hline : u.relay.onLine with
  | none =>
    have hnone : u.relay = { u.relay with onLine := none } := by rw [← hline]
    simpa using hnone
  | some t =>
    by_cases ht : t = tag
    · simp [ht]
    · simp [ht, State.queryOffLine]

/-- A valid acceptance in the query slot is handed to the relay and ends the round. -/
theorem HearsPlant.accept (h : HearsPlant s dt b w cls p) (hexp : w.expects = .accept) (hslot : s.plant.slot = .query) :
    (s.elapse dt).receivePlant b =
      { s.elapse dt with
        plant := plantAfter s.plant (s.now + dt) (oneGood s.plant.counters) .over
        relay := ((s.elapse dt).queryAccepted (byteAt p 0).toNat).relay } := by
  have hreply : (afterAnswer s dt s.relay).plantReply w p b.relayFirst =
      (afterAnswer s dt s.relay).queryAccepted (byteAt p 0).toNat := by simp only [State.plantReply, hexp]
  have hover : ((afterAnswer s dt s.relay).queryAccepted (byteAt p 0).toNat).plant.slot = .query := by
    simpa [afterAnswer] using hslot
  rw [h.receive, hreply, State.endSlot, hover]
  ext1
  case plant => simp [State.atSlot_plant, plantAfter, afterAnswer]
  case relay =>
    simp only [State.atSlot_frame, State.queryAccepted_relay]
    rfl
  all_goals simp [afterAnswer]

end

/-- Settles O38, from the entry that the relay offers and from what an acceptance makes of the Query list. -/
theorem queriesGoOutAndAreAccepted : Obligations.QueriesGoOutAndAreAccepted := by
  refine ⟨fun s dt quiet xs ys e hrun hwait hsend hslot hline hentries hwaiting hxs hlets => ?_,
    fun s dt b w cls p h hexp hslot => congrArg Host.Outcome.next ?_⟩
  · have hoccasion : ((s.elapse dt).plantSendsNow quiet && decide (s.plant.slot = .query)) = true := by
      simp [State.plantSendsNow_of hrun hwait hsend hlets, hslot]
    have hoffered : (s.elapse dt).relay.offered = some e := Relay.offered_eq hline hentries hwaiting hxs
    refine congrArg Host.Outcome.next ((if_pos hoccasion).trans ?_)
    simp only [State.sendQuery, hoffered]
    rfl
  · rw [h.accept hexp hslot, State.queryAccepted_relay]
    rfl

end Sys2Proof.Machine
end

section
/-! PROOF. What a line brings is cut into bursts and judged one after another (R103, R106, R107, R112, R118). -/

namespace Sys2Proof.Machine

/-! ### Reception on either line (R103, R107) -/

/-- The port of a line judges a burst. -/
def State.judges (l : Line) (s : State) (b : Burst) : State :=
  match l with
  | .room => s.judgeRoom b
  | .plant => s.judgePlant b

/-- BURST OUTSIDE WAIT brings what is heard of its bytes to the port of its line. -/
theorem exec_burstOutsideWait (s : State) (dt : Nat) (l : Line) (b : Burst) :
    exec (.burstOutsideWait dt l b) s =
      .next ((heard b (s.now + dt) (lineFrames s l)).foldl (State.judges l) (s.elapse dt)) := by
  cases l <;> rfl

/-! ### Bytes before a frame (R107) -/

/-- The cut asks of the bytes it cuts alone. -/
theorem cutBursts_congr {lost lost' : LineByte → Bool} {parted parted' : LineByte → LineByte → Bool} {p : List LineByte}
    (hlost : ∀ c ∈ p, lost c = lost' c) (hparted : ∀ c ∈ p, ∀ d ∈ p, parted c d = parted' c d) :
    cutBursts lost parted p = cutBursts lost' parted' p := by
  induction p with
  | nil => rfl
  | cons c p ih =>
    have hrest := ih (fun x hx => hlost x (List.mem_cons_of_mem _ hx))
      fun x hx y hy => hparted x (List.mem_cons_of_mem _ hx) y (List.mem_cons_of_mem _ hy)
    cases p with
    | nil => simp only [cutBursts, hlost c (by simp)]
    | cons d p =>
      rw [cutBursts, hrest, hlost c (by simp), hlost d (by simp), hparted c (by simp) d (by simp)]
      conv_rhs => rw [cutBursts]

section
variable {now : Time} {new own : List OwnFrame}

/-- A frame that begins when a byte has ended takes nothing of it away. -/
theorem lostUnder_append (hnew : ∀ f ∈ new, @LE.le Nat _ now f.start) {c : LineByte} (h : 25 ≤ c.age ∧ @LE.le Nat _ c.age now) :
    lostUnder now (new ++ own) c = lostUnder now own c := by
  rw [Bool.eq_iff_iff, lostUnder_iff, lostUnder_iff]
  refine ⟨?_, fun ⟨f, hf, hn⟩ => ⟨f, List.mem_append_right _ hf, hn⟩⟩
  rintro ⟨f, hf, hn⟩
  rcases List.mem_append.1 hf with hf | hf
  · have hover : @LE.le Nat _ (now - c.age + 25) now := by omega
    exact absurd (Or.inl (Nat.le_trans hover (hnew f hf))) hn
  · exact ⟨f, hf, hn⟩

/-- A frame that begins when both bytes have ended lies between no two of them. -/
theorem partedBy_append (hnew : ∀ f ∈ new, @LE.le Nat _ now f.start) {c d : LineByte}
    (h : 25 ≤ d.age ∧ @LE.le Nat _ d.age now) : partedBy now (new ++ own) c d = partedBy now own c d := by
  rw [Bool.eq_iff_iff, partedBy_iff, partedBy_iff]
  refine or_congr_right ⟨?_, fun ⟨f, hf, hn⟩ => ⟨f, List.mem_append_right _ hf, hn⟩⟩
  rintro ⟨f, hf, hbefore, hafter⟩
  rcases List.mem_append.1 hf with hf | hf
  · have hlate : @LE.le Nat _ now (now - d.age) := Nat.le_trans (Nat.le_trans (hnew f hf) f.start_le_stop) hafter
    exact absurd hlate (by omega)
  · exact ⟨f, hf, hbefore, hafter⟩

/-- Frames that begin when all bytes have ended leave what is heard as it is. -/
theorem heard_before {q : List LineByte} (r : Bool) (hnew : ∀ f ∈ new, @LE.le Nat _ now f.start)
    (hq : ∀ x ∈ q, 25 ≤ x.age ∧ @LE.le Nat _ x.age now) : heard ⟨q, r⟩ now (new ++ own) = heard ⟨q, r⟩ now own := by
  have hcut := cutBursts_congr (p := q) (fun c hc => lostUnder_append (own := own) hnew (hq c hc))
    fun c _ d hd => partedBy_append (own := own) (c := c) hnew (hq d hd)
  simp only [heard, hcut]

end

/-! ### What judging a burst leaves (R107, R114) -/

/-- Judging bursts of a line takes no time, leaves the hold on the curtailment level as it runs, and puts no frame on the line that
begins before the present moment. -/
structure JudgesNow (l : Line) (s t : State) : Prop where
  now : t.now = s.now
  phase : t.phase = s.phase
  retained : t.retained = s.retained
  hold : t.decoder.holdDue = s.decoder.holdDue
  frames : ∃ new, lineFrames t l = new ++ lineFrames s l ∧ ∀ f ∈ new, s.now ≤ f.start

theorem JudgesNow.refl (l : Line) (s : State) : JudgesNow l s s := ⟨rfl, rfl, rfl, rfl, [], rfl, by simp⟩

theorem JudgesNow.trans {l : Line} {s t u : State} (h : JudgesNow l s t) (h' : JudgesNow l t u) : JudgesNow l s u := by
  obtain ⟨new, hnew, hstart⟩ := h.frames
  obtain ⟨new', hnew', hstart'⟩ := h'.frames
  refine ⟨h'.now.trans h.now, h'.phase.trans h.phase, h'.retained.trans h.retained, h'.hold.trans h.hold, new' ++ new,
    by rw [hnew', hnew, List.append_assoc], fun f hf => ?_⟩
  rcases List.mem_append.1 hf with hf | hf
  · exact h.now ▸ hstart' f hf
  · exact hstart f hf

/-- A management request writes the counters of the room port at most. -/
theorem Manages.room {s t : State} (m : Manages s t) : ∃ c, t.room = { s.room with counters := c } := by
  cases m with
  | nothing => exact ⟨_, rfl⟩
  | saves _ _ => exact ⟨_, rfl⟩
  | clearsCounters => exact ⟨_, rfl⟩
  | clearsEvents es =>
    have hroom : (es.foldl State.clearEvent s).room = s.room := State.foldl_room _ _ _ fun t e => by simp
    exact ⟨_, hroom⟩
  | _ => exact ⟨s.room.counters, by simp⟩

/-- A management request leaves the hold timer of the decoder. -/
theorem Manages.holdDue {s t : State} (m : Manages s t) : t.decoder.holdDue = s.decoder.holdDue := by
  cases m with
  | nothing => rfl
  | saves _ _ => rfl
  | clearsCounters => rfl
  | clearsEvents es => exact congrArg Decoder.holdDue (State.foldl_decoder _ _ _ fun t e => by simp)
  | _ => simp

theorem keptByReplies_holdDue (x : Option Time) : KeptByReplies fun s => s.decoder.holdDue = x where
  port s r h := h
  miss s a h := by simpa using h
  credit s a h := by simpa using h
  notice s carried taken h := by simpa using h
  report s y r h := by simpa using h
  change s y sc g p h := by simpa using h
  query s y n item arg h := by simpa using h
  manage s t _ m h := m.holdDue.trans h

/-- A reply puts at most the answer to a request on the room line, from the present moment on (R114). -/
theorem State.takeReply_frames (s : State) (x : Sender) (cls : Byte) (p : List Byte) :
    ∃ new, (s.takeReply x cls p).room.frames = new ++ s.room.frames ∧ ∀ f ∈ new, s.now ≤ f.start := by
  have hsame : ∀ t : State, t.room = s.room → ∃ new, t.room.frames = new ++ s.room.frames ∧ ∀ f ∈ new, s.now ≤ f.start :=
    fun t ht => ⟨[], by rw [ht]; rfl, by simp⟩
  unfold State.takeReply
  split_ifs
  · exact hsame _ (by simp)
  · exact hsame _ (by simp)
  · exact hsame _ (by simp)
  · obtain ⟨c, hroom⟩ := (s.manage_manages x (byteAt p 1) (p.drop 2)).room
    simp only [State.takeRequest, State.sendAnswer, State.setRoom_room, hroom, State.manage_frame]
    refine ⟨[_], rfl, fun f hf => ?_⟩
    rw [List.mem_singleton.1 hf]
    exact Nat.le_max_left _ _
  · exact hsame s rfl

theorem State.roomMissed_frames (s : State) : s.roomMissed.room.frames = s.room.frames := by
  unfold State.roomMissed
  split <;> simp [State.closeRoomWait]

theorem State.judgeRoom_frames (s : State) (b : Burst) :
    ∃ new, (s.judgeRoom b).room.frames = new ++ s.room.frames ∧ ∀ f ∈ new, s.now ≤ f.start := by
  have hsame : ∀ t : State, t.room.frames = s.room.frames →
      ∃ new, t.room.frames = new ++ s.room.frames ∧ ∀ f ∈ new, s.now ≤ f.start := fun t ht => ⟨[], ht, by simp⟩
  have hmissed : (s.countRoom (s.roomVerdict b)).roomMissed.room.frames = s.room.frames := State.roomMissed_frames _
  simp only [State.judgeRoom]
  split
  · exact hsame _ rfl
  · exact hsame _ rfl
  · exact hsame _ hmissed
  · exact hsame _ hmissed
  · exact hsame _ hmissed
  · unfold State.roomAnswered
    split
    · obtain ⟨new, hnew, hstart⟩ := State.takeReply_frames _ _ _ _
      exact ⟨new, hnew.trans (by simp [State.closeRoomWait, State.countRoom]), by simpa using hstart⟩
    · exact hsame _ rfl

theorem State.endSlot_frames (s : State) : s.endSlot.plant.frames = s.plant.frames := by
  obtain ⟨x, -, hplant⟩ := s.endSlot_plant
  rw [hplant]

theorem State.judgePlant_frames (s : State) (b : Burst) : (s.judgePlant b).plant.frames = s.plant.frames := by
  have hmissed : ∀ t : State, t.plantMissed.plant.frames = t.plant.frames := fun t => by
    unfold State.plantMissed
    split
    · rw [State.endSlot_frames]
      simp [State.closePlantWait]
    · rfl
  simp only [State.judgePlant]
  split
  · rfl
  · rfl
  · rw [hmissed]; rfl
  · rw [hmissed]; rfl
  · rw [hmissed]; rfl
  · unfold State.plantAnswered
    split
    · rw [State.endSlot_frames]
      simp [State.closePlantWait, State.countPlant]
    · rfl

theorem State.judges_now (l : Line) (s : State) (b : Burst) : JudgesNow l s (s.judges l b) := by
  cases l with
  | room =>
    refine ⟨by simp [State.judges], by simp [State.judges], by simp [State.judges], ?_, State.judgeRoom_frames s b⟩
    by_cases hrun : s.phase = .running
    · exact (keptByReplies_holdDue s.decoder.holdDue).judge hrun rfl b
    · simp only [State.judges, State.judgeRoom_not_running s b hrun]
  | plant =>
    exact ⟨by simp [State.judges], by simp [State.judges], by simp [State.judges], by simp [State.judges], [],
      State.judgePlant_frames s b, by simp⟩

theorem State.foldl_judges_now (l : Line) (s : State) (bs : List Burst) : JudgesNow l s (bs.foldl (State.judges l) s) := by
  induction bs generalizing s with
  | nil => exact .refl l s
  | cons b bs ih => exact (s.judges_now l b).trans (ih _)

/-! ### No time passes between two bursts -/

theorem State.elapse_elapse_zero (s : State) (dt : Nat) : (s.elapse dt).elapse 0 = s.elapse dt := by
  ext1
  case retained =>
    have hrun : (s.elapse dt).isRunning = s.isRunning := rfl
    simp only [State.elapse_retained, State.areaAt, State.elapse_now, State.elapse_decoder, Nat.add_zero, hrun]
    split <;> rfl
  all_goals rfl

/-- Where the bursts judged have taken no time, none has passed. -/
theorem JudgesNow.elapse_zero {l : Line} {s t : State} (h : JudgesNow l s t) (hs : s.elapse 0 = s) : t.elapse 0 = t := by
  have hrun : t.isRunning = s.isRunning := by simp only [State.isRunning, h.phase]
  have hleft : t.decoder.holdLeft t.now = s.decoder.holdLeft s.now := by simp only [Decoder.holdLeft, h.hold, h.now]
  have harea : s.areaAt s.now = s.retained := congrArg State.retained hs
  ext1
  case retained =>
    have hkept : t.areaAt t.now = s.areaAt s.now := by simp only [State.areaAt, hrun, h.retained, hleft]
    exact hkept.trans (harea.trans h.retained.symm)
  all_goals rfl

/-! ### The obligation -/

/-- The counts of a burst that falls outside any wait (R106, R118). -/
theorem count_outside (c : Counters) (bytes : List Byte) :
    (Verdict.outside (sound bytes)).count c =
      if sound bytes = true then { c with good := satInc 65535 c.good }
      else { c with checkErrors := satInc 65535 c.checkErrors } := by
  cases sound bytes <;> rfl

theorem State.judgePlant_unawaited {s : State} (h : s.plant.wait = none) (b : Burst) :
    s.judgePlant b = s.countPlant (s.plantVerdict b) := by
  cases hr : s.isRunning <;> simp [State.judgePlant, State.plantVerdict, h, hr]

/-- What is heard of bytes that something parts, or between which a frame takes some away, is heard in two runs. -/
theorem heard_parted {now : Time} {own : List OwnFrame} {p m q : List LineByte} {c d : LineByte} (r : Bool)
    (hcut : m ≠ [] ∨ d.age + 25 + ms 4 ≤ c.age ∨ ∃ f ∈ own, now - c.age + 25 ≤ f.start ∧ f.stop ≤ now - d.age)
    (hlost : ∀ x ∈ m, ∃ f ∈ own, ¬Clear f now x) :
    heard ⟨p ++ [c] ++ m ++ d :: q, r⟩ now own = heard ⟨p ++ [c], r⟩ now own ++ heard ⟨d :: q, r⟩ now own := by
  by_cases hm : m = []
  · subst hm
    rw [List.append_nil]
    exact heard_append r p q c d now own (.inl ((partedBy_iff _ _ _ _).2 (hcut.resolve_left (not_not.2 rfl))))
  · exact heard_around r p m (d :: q) c now own hm fun x hx => (lostUnder_iff _ _ _).2 (hlost x hx)

/-- Settles O25: an unawaited burst is counted; parted bytes are heard in two runs, and the first is judged without delay; bytes under
a frame of the port are not heard. -/
theorem burstsAreCutAndDiscarded : Obligations.BurstsAreCutAndDiscarded := by
  refine ⟨fun s dt b hrun => ⟨fun hwait harrives => ?_, fun hwait harrives => ?_⟩, ?_, fun s dt l p q first hlost => ?_⟩
  · have hverdict : (s.elapse dt).roomVerdict b = .outside (sound b.bytes) := by simp [State.roomVerdict, hrun, hwait]
    refine congrArg Host.Outcome.next ?_
    rw [State.receiveRoom_arrives _ _ harrives, State.judgeRoom_unawaited (s := s.elapse dt) hwait, hverdict, State.countRoom,
      count_outside]
    rfl
  · have hverdict : (s.elapse dt).plantVerdict b = .outside (sound b.bytes) := by simp [State.plantVerdict, hrun, hwait]
    refine congrArg Host.Outcome.next ?_
    rw [State.receivePlant_arrives _ _ harrives, State.judgePlant_unawaited (s := s.elapse dt) hwait, hverdict,
      State.countPlant, count_outside]
    rfl
  · intro s dt l p m q c d first now own hcut hlost hbytes
    refine ⟨_, exec_burstOutsideWait s dt l _, ?_⟩
    have hjudged := State.foldl_judges_now l (s.elapse dt) (heard ⟨p ++ [c], first⟩ now own)
    obtain ⟨new, hnew, hstart⟩ := hjudged.frames
    have hfirst : lineFrames (s.elapse dt) l = own := by cases l <;> rfl
    have hrest : ∀ x ∈ d :: q, 25 ≤ x.age ∧ @LE.le Nat _ x.age now := fun x hx =>
      ⟨(hbytes x (List.mem_append_right _ hx)).1, (hbytes x (List.mem_append_right _ hx)).2.1⟩
    have hsame : heard ⟨d :: q, first⟩ ((s.elapse dt).now + 0) (new ++ own) = heard ⟨d :: q, first⟩ now own :=
      heard_before first hstart hrest
    rw [exec_burstOutsideWait, exec_burstOutsideWait, heard_parted first hcut hlost, List.foldl_append, hjudged.now,
      hjudged.elapse_zero (s.elapse_elapse_zero dt), hnew, hfirst, hsame]
  · have hunder : ∀ x ∈ p, lostUnder (s.now + dt) (lineFrames s l) x = true := fun x hx => (lostUnder_iff _ _ _).2 (hlost x hx)
    have hnone : heard ⟨p, first⟩ (s.now + dt) (lineFrames s l) = [] := by
      rw [← List.append_nil p, heard_lost first p [] _ _ hunder]
      rfl
    rw [exec_burstOutsideWait, exec_burstOutsideWait, exec_burstOutsideWait, heard_lost first p q _ _ hunder, hnone]
    exact ⟨rfl, rfl⟩

end Sys2Proof.Machine
end

section
/-! PROOF. What a PLANT STATUS makes of the Query list beside its answer part (R147, R165): entries in progress expire UNREACHABLE, those
of the node that reports only when its link leaves READY and ACTIVE, and the link does not come back at the same status. -/

namespace Sys2Proof.Machine

/-- The stop sequence of a link has just opened: it is STOPPING with no STOP command sent (R138, R143). -/
def Link.Halting (l : Link) : Prop := l.state = .stopping ∧ l.stopOpen = true ∧ l.stopCount = 0

theorem Link.Halting.unreachable {l : Link} (h : l.Halting) : ¬l.state.reachable = true := by
  rw [h.1]
  decide

theorem Link.Halting.stays {l : Link} (h : l.Halting) (st : Option NodeState) : l.stopEndsOn st = false := by
  simp [Link.stopEndsOn, h.2.2]

/-- Each entry of a Query list is as it was, or was in progress and has expired UNREACHABLE (R165). -/
def Lapsed (f : QueryEntry → QueryEntry) : Prop := ∀ e, f e = e ∨ e.inProgress = true ∧ f e = e.expire .unreachable

theorem Lapsed.tag {f : QueryEntry → QueryEntry} (h : Lapsed f) (e : QueryEntry) : (f e).tag = e.tag := by
  rcases h e with he | ⟨-, he⟩ <;> rw [he]
  rfl

/-- An entry that has ended stays as it is. -/
theorem Lapsed.ended {f : QueryEntry → QueryEntry} (h : Lapsed f) {e : QueryEntry} (he : e.inProgress = false) : f e = e :=
  (h e).resolve_right fun hp => Bool.false_ne_true (he.symm.trans hp.1)

/-- An entry that is SENT or ANSWERED is as it was. -/
theorem Lapsed.eq_of_state {f : QueryEntry → QueryEntry} (h : Lapsed f) {e : QueryEntry} (he : (f e).state ≠ .expired) :
    f e = e :=
  (h e).resolve_right fun hp => he (by rw [hp.2]; rfl)

theorem Lapsed.comp {f g : QueryEntry → QueryEntry} (hf : Lapsed f) (hg : Lapsed g) : Lapsed (g ∘ f) := fun e => by
  rcases hf e with he | ⟨hopen, he⟩
  · simpa only [Function.comp_apply, he] using hg e
  · exact .inr ⟨hopen, (hg.ended (by rw [he]; rfl)).trans he⟩

/-- What a status leaves, so far, of the Query list and of the link of the node `n` that reports. -/
structure Lapses (n : Node) (s t : State) : Prop where
  late : t.relay.late = s.relay.late
  entries : ∃ f, t.relay.entries = s.relay.entries.map f ∧ Lapsed f ∧
    ((s.link n).state.reachable = true → (t.link n).state.reachable = true → ∀ e, e.target = n → f e = e)
  commanded : t.commandedOn n = true → s.commandedOn n = true
  stays : (s.link n).state.reachable = true → (t.link n).state.reachable = true ∨ (t.link n).Halting
  halts : (s.link n).Halting → (t.link n).Halting

namespace Lapses

variable {s t u : State} {n : Node}

/-- A move that tells the relay nothing and does not turn the node on. -/
theorem untold (relay : t.relay = s.relay) (commanded : t.commandedOn n = true → s.commandedOn n = true)
    (stays : (s.link n).state.reachable = true → (t.link n).state.reachable = true)
    (halts : (s.link n).Halting → (t.link n).Halting) : Lapses n s t :=
  ⟨by rw [relay], ⟨id, by rw [relay, List.map_id], fun e => .inl rfl, fun _ _ _ _ => rfl⟩, commanded,
    fun h => .inl (stays h), halts⟩

/-- A move that tells the relay nothing and leaves the record. -/
theorem quiet (relay : t.relay = s.relay) (command : t.command = s.command)
    (stays : (s.link n).state.reachable = true → (t.link n).state.reachable = true)
    (halts : (s.link n).Halting → (t.link n).Halting) : Lapses n s t :=
  untold relay (by rw [State.commandedOn_congr command]; exact id) stays halts

/-- A move that leaves the relay, the record and the links. -/
theorem same (relay : t.relay = s.relay) (command : t.command = s.command) (links : t.links = s.links) : Lapses n s t := by
  have hlink := State.link_congr links n
  exact quiet relay command (by rw [hlink]; exact id) (by rw [hlink]; exact id)

theorem refl (n : Node) (s : State) : Lapses n s s := same rfl rfl rfl

theorem trans (h : Lapses n s t) (h' : Lapses n t u) : Lapses n s u := by
  obtain ⟨f, hf, hlapsed, hkept⟩ := h.entries
  obtain ⟨g, hg, hlapsed', hkept'⟩ := h'.entries
  refine ⟨h'.late.trans h.late, ⟨g ∘ f, by rw [hg, hf, List.map_map], hlapsed.comp hlapsed', fun hs hu e he => ?_⟩,
    fun hu => h.commanded (h'.commanded hu), fun hs => (h.stays hs).elim h'.stays fun hh => .inr (h'.halts hh),
    fun hs => h'.halts (h.halts hs)⟩
  have ht : (t.link n).state.reachable = true := (h.stays hs).resolve_right fun hh => (h'.halts hh).unreachable hu
  rw [Function.comp_apply, hkept hs ht e he, hkept' ht hu e he]

theorem ite {p : Prop} [Decidable p] (ht : Lapses n s t) (hu : Lapses n s u) : Lapses n s (if p then t else u) := by
  split
  · exact ht
  · exact hu

/-- A write of the link of the node that keeps its state and its stop sequence. -/
theorem setLink {l : Link} (state : l.state = (s.link n).state) (opened : l.stopOpen = (s.link n).stopOpen)
    (count : l.stopCount = (s.link n).stopCount) : Lapses n s (s.setLink n l) := by
  have hlink := State.link_setLink_same s n l
  refine quiet rfl rfl (by rw [hlink, state]; exact id) fun h => ?_
  rw [hlink, Link.Halting, state, opened, count]
  exact h

/-! ### Writes of the record (R27, R138, R143) -/

/-- A link that is told of a write tells the relay at most that its node has left the reachable states. -/
theorem setLinkState_entries (s : State) (m : Node) (st : LinkState) :
    (s.setLinkState m st).relay.late = s.relay.late
      ∧ ∃ f, (s.setLinkState m st).relay.entries = s.relay.entries.map f ∧ Lapsed f ∧ ∀ e, e.target ≠ m → f e = e := by
  simp only [State.setLinkState]
  split
  · refine ⟨rfl, fun e => if e.openAt m then e.expire .unreachable else e, rfl, fun e => ?_, fun e he => ?_⟩
    · by_cases hopen : e.openAt m = true
      · simp only [QueryEntry.openAt, Bool.and_eq_true] at hopen
        exact .inr ⟨hopen.1, by simp [QueryEntry.openAt, hopen]⟩
      · exact .inl (if_neg hopen)
    · simp [QueryEntry.openAt, he]
  · exact ⟨rfl, id, (List.map_id _).symm, fun e => .inl rfl, fun _ _ => rfl⟩

theorem watchMode_entries (s : State) (m : Node) (was is : Bool) :
    (s.watchMode m was is).relay.late = s.relay.late
      ∧ ∃ f, (s.watchMode m was is).relay.entries = s.relay.entries.map f ∧ Lapsed f ∧ ∀ e, e.target ≠ m → f e = e := by
  have hsame : ∃ f, s.relay.entries = s.relay.entries.map f ∧ Lapsed f ∧ ∀ e, e.target ≠ m → f e = e :=
    ⟨id, (List.map_id _).symm, fun e => .inl rfl, fun _ _ => rfl⟩
  have hopened := setLinkState_entries (s.openStop m) m .stopping
  have hclosed := setLinkState_entries (s.closeStop m) m .ready
  simp only [State.watchMode, State.modeTurnedOff, State.modeTurnedOn]
  split_ifs
  · split
    · exact hopened
    · exact hopened
    · exact hopened
    all_goals exact ⟨rfl, hsame⟩
  · exact hclosed
  all_goals exact ⟨rfl, hsame⟩

/-- A node that turns OFF leaves its link HALTING when it was reachable or STOPPING. -/
theorem modeTurnedOff_link (s : State) (n : Node)
    (h : (s.link n).state.reachable = true ∨ (s.link n).state = .stopping) : ((s.modeTurnedOff n).link n).Halting := by
  have hstopping : (((s.openStop n).setLinkState n .stopping).link n).Halting := by
    rw [State.setLinkState_link_same, State.openStop, State.link_setLink_same]
    exact ⟨rfl, rfl, rfl⟩
  unfold State.modeTurnedOff
  split
  · exact hstopping
  · exact hstopping
  · exact hstopping
  all_goals
    next hstate =>
      rw [hstate] at h
      exact absurd h (by decide)

/-- A link watches a write of the record that does not turn its own node on. -/
theorem watchMode (m : Node) {was is : Bool} (h : m = n → is = true → was = true) : Lapses n s (s.watchMode m was is) := by
  obtain ⟨hlate, f, hf, hlapsed, hother⟩ := watchMode_entries s m was is
  have hcommand : (s.watchMode m was is).commandedOn n = s.commandedOn n := State.commandedOn_congr (by simp) n
  by_cases hm : n = m
  · subst hm
    by_cases hoff : was = true ∧ is = false
    · have hturned : s.watchMode n was is = s.modeTurnedOff n := by simp [State.watchMode, hoff]
      have hhalting := modeTurnedOff_link s n
      rw [← hturned] at hhalting
      exact ⟨hlate, ⟨f, hf, hlapsed, fun hs ht => absurd ht (hhalting (.inl hs)).unreachable⟩, by rw [hcommand]; exact id,
        fun hs => .inr (hhalting (.inl hs)), fun hs => hhalting (.inr hs.1)⟩
    · have hsame : was = is :=
        Bool.eq_iff_iff.2 ⟨fun hwas => Bool.eq_true_of_not_eq_false fun his => hoff ⟨hwas, his⟩, h rfl⟩
      rw [hsame, State.watchMode_same]
      exact refl n s
  · have hlink : (s.watchMode m was is).link n = s.link n := State.watchMode_link_other s was is hm
    exact ⟨hlate, ⟨f, hf, hlapsed, fun _ _ e he => hother e (by rw [he]; exact hm)⟩, by rw [hcommand]; exact id,
      fun hs => .inl (by rw [hlink]; exact hs), by rw [hlink]; exact id⟩

/-- A write of the record that does not turn the node on. -/
theorem writeCommand {c : Command} (h : ({ s with command := c } : State).commandedOn n = true → s.commandedOn n = true) :
    Lapses n s (s.writeCommand c) := by
  have hrelay : (s.recorded c).relay = s.relay := by
    simp only [State.recorded]
    split <;> simp
  have hcommand : (s.recorded c).command = c := by
    simp only [State.recorded]
    split <;> simp
  have hlink := State.link_congr (s.recorded_links c) n
  have hrecorded : Lapses n s (s.recorded c) :=
    untold hrelay (by rw [State.commandedOn_congr (t := s.recorded c) (s := { s with command := c }) hcommand]; exact h)
      (by rw [hlink]; exact id) (by rw [hlink]; exact id)
  rw [State.writeCommand_eq]
  refine (hrecorded.trans (watchMode _ ?_)).trans (watchMode _ ?_)
  · rintro rfl
    exact h
  · rintro rfl
    exact h

/-- A move of the house touches the relay, the links and the record by its write of the record alone. -/
theorem write {c : Command} (h : ({ s with command := c } : State).commandedOn n = true → s.commandedOn n = true)
    (relay : t.relay = (s.writeCommand c).relay) (command : t.command = (s.writeCommand c).command)
    (links : t.links = (s.writeCommand c).links) : Lapses n s t :=
  (writeCommand h).trans (same relay command links)

theorem commandOff_off (s : State) (n : Node) : ¬({ s with command := commandOff } : State).commandedOn n = true := by
  cases n <;> exact Bool.false_ne_true

/-- The record that commands both nodes OFF turns no node on. -/
theorem writeOff (relay : t.relay = (s.writeCommand commandOff).relay) (command : t.command = (s.writeCommand commandOff).command)
    (links : t.links = (s.writeCommand commandOff).links) : Lapses n s t :=
  write (c := commandOff) (fun h => absurd h (commandOff_off s n)) relay command links

/-! ### The house (R44 to R52) -/

theorem goIdle (s : State) : Lapses n s s.goIdle :=
  writeOff (by simp [State.goIdle]) (by simp [State.goIdle]) (by simp [State.goIdle])

theorem fallIdle (s : State) : Lapses n s ((s.writeCommand commandOff).enterHouse .idle) :=
  writeOff (by simp) (by simp) (by simp)

/-- The entry to SHED keeps a fan that runs and turns none on (R46). -/
theorem enterShed (s : State) : Lapses n s s.enterShed := by
  refine write (c := s.shedCommand) ?_ (by simp [State.enterShed_eq]) (by simp [State.enterShed_eq]) (by simp [State.enterShed_eq])
  unfold State.shedCommand
  split
  · next hkeeps =>
    simp only [State.keepsFan, Bool.and_eq_true] at hkeeps
    cases n with
    | airHandler => exact fun _ => hkeeps.1.2
    | outdoorUnit => exact fun h => absurd h Bool.false_ne_true
  · exact fun h => absurd h (commandOff_off s n)

theorem reviewShed (s : State) : Lapses n s s.reviewShed :=
  ite (ite (enterShed s) (refl n s)) (ite (fallIdle s) (refl n s))

/-- A write that keeps both modes. -/
theorem writeFigures {c : Command} (air : c.airMode = s.command.airMode) (out : c.outMode = s.command.outMode) :
    Lapses n s (s.writeCommand c) :=
  writeCommand (by cases n <;> simp [State.commandedOn, Command.airOn, Command.outOn, air, out])

theorem cminChanged (s : State) : Lapses n s s.cminChanged := by
  simp only [State.cminChanged]
  split
  · exact (reviewShed s).trans (ite (writeFigures rfl rfl) (refl n _))
  · exact reviewShed s

theorem airLimitsChanged (s : State) : Lapses n s s.airLimitsChanged := by
  unfold State.airLimitsChanged
  split
  · exact ite (writeFigures rfl rfl) (refl n s)
  · exact refl n s

theorem capabilityChanged (s : State) (old new : Capability) : Lapses n s (s.capabilityChanged old new) := by
  have hcmin : ∀ {p : Prop} [Decidable p], Lapses n s (if p then s.cminChanged else s) := ite (cminChanged s) (refl n s)
  have hair : ∀ {p : Prop} [Decidable p], Lapses n s (if p then s.airLimitsChanged else s) :=
    ite (airLimitsChanged s) (refl n s)
  have hpump : ∀ u : State, Lapses n u u.heatPumpLost := fun u => ite (goIdle u) (refl n u)
  unfold State.capabilityChanged
  split
  · exact ite (hcmin.trans (hpump _)) hcmin
  · exact ite (hair.trans (writeFigures rfl rfl)) hair
  · exact refl n s
  · exact refl n s

theorem nodeUnavailable (s : State) (m : Node) : Lapses n s (s.nodeUnavailable m) := by
  unfold State.nodeUnavailable
  refine ite (goIdle s) ?_
  cases m with
  | outdoorUnit => exact refl n s
  | airHandler => exact ite (fallIdle s) (ite (writeOff rfl rfl rfl) (refl n s))

/-- The entry to DEFROST and the return from it leave the outdoor mode (R44, R45). -/
theorem outdoorReported (s : State) (st : NodeState) : Lapses .outdoorUnit s (s.outdoorReported st) := by
  unfold State.outdoorReported
  split
  · exact ite (write (c := { s.command with airMode := .heat, airflow := _, reheat := false, coldBlow := true }) id rfl rfl rfl)
      (refl _ s)
  · exact ite (write (c := { s.command with airflow := _, coldBlow := false }) id rfl rfl rfl) (refl _ s)
  all_goals exact refl _ s

/-! ### The steps of R147 -/

/-- Step 1 moves a link that is DOWN or SILENT, or restarts its silence timer. -/
theorem statusHeard (s : State) (n : Node) (st : Option NodeState) : Lapses n s (s.statusHeard n st) := by
  have hrestarted : Lapses n s (s.setLink n { s.link n with silenceDue := s.after (sec 3) }) := setLink rfl rfl rfl
  have hmoved : ∀ (l : Link) (x : LinkState), (s.link n).state.reachable = false → (s.link n).state ≠ .stopping →
      l.state = (s.link n).state → Lapses n s ((s.setLink n l).setLinkState n x) := fun l x hunreachable hstopping hl => by
    refine quiet ?_ (by simp) (fun h => absurd (hunreachable.symm.trans h) (by decide))
      (fun h => absurd h.1 hstopping)
    exact (State.setLinkState_relay _ _ _ (.inl (by rw [State.link_setLink_same, hl]; exact hunreachable))).trans (by simp)
  simp only [State.statusHeard]
  split
  · next hdown => exact hmoved _ _ (by rw [hdown]; rfl) (by rw [hdown]; decide) rfl
  · exact refl n s
  · exact hrestarted
  · exact hrestarted
  · exact hrestarted
  · next hsilent => exact hmoved _ _ (by rw [hsilent]; rfl) (by rw [hsilent]; decide) rfl

theorem recordNodeState (s : State) (n : Node) (st : NodeState) : Lapses n s (s.recordNodeState n st) := by
  have hset : Lapses n s (s.setLink n { s.link n with nodeState := some st }) := setLink rfl rfl rfl
  have hgone : ∀ {p : Prop} [Decidable p], Lapses n s (if p then
      (s.setLink n { s.link n with nodeState := some st }).nodeUnavailable n
      else s.setLink n { s.link n with nodeState := some st }) := ite (hset.trans (nodeUnavailable _ n)) hset
  simp only [State.recordNodeState]
  cases n with
  | outdoorUnit => exact hgone.trans (outdoorReported _ st)
  | airHandler => exact hgone

theorem nodeTaken (s : State) (n : Node) (x : Status) : Lapses n s (s.nodeTaken n x) := by
  unfold State.nodeTaken
  split
  · exact (statusHeard s n _).trans (recordNodeState _ n _)
  · exact statusHeard s n _

theorem recordFault (s : State) (n : Node) (code : Nat) : Lapses n s (s.recordFault n code) := by
  rw [State.recordFault_eq]
  exact (setLink (l := { s.link n with fault := some code }) rfl rfl rfl).trans (same rfl rfl rfl)

theorem compareCapability (s : State) (n : Node) (v : AnnexValue) : Lapses n s (s.compareCapability n v) := by
  have hbound : ∀ c, Lapses n s ((s.setLink n { s.link n with cap := some c }).raise .capabilityChange) := fun c =>
    (setLink (l := { s.link n with cap := some c }) rfl rfl rfl).trans (same (by simp) (by simp) (by simp))
  unfold State.compareCapability
  split
  · exact ite (refl n s) ((hbound _).trans (capabilityChanged _ _ _))
  · exact refl n s

theorem takeAnnex (s : State) (n : Node) (x : Status) : Lapses n s (s.takeAnnex n x) := by
  obtain ⟨hstate, -, -, -, hopen, hcount, -⟩ := (s.link n).annexed_same n x
  have hannexed : Lapses n s (s.setLink n ((s.link n).annexed n x)) := setLink hstate hopen hcount
  unfold Link.annexed at hannexed
  unfold State.takeAnnex
  cases hk : annexIndex x.slot with
  | none => simpa only [hk] using hannexed
  | some k =>
    cases hv : annexValueOf n k x.d0 x.d1 x.d2 x.d3 with
    | none => simpa only [hk, hv] using hannexed
    | some v =>
      simp only [hk, hv] at hannexed ⊢
      exact hannexed.trans (compareCapability _ n v)

/-- The link of a node that binds is neither reachable nor STOPPING. -/
theorem completeBinding (s : State) (n : Node) : Lapses n s (s.completeBinding n) := by
  simp only [State.completeBinding]
  split
  · next hbinds =>
    have hready : ∀ l : Link, Lapses n s ((s.setLink n l).setLinkState n .ready) := fun l =>
      quiet ((State.setLinkState_relay _ _ _ (.inr rfl)).trans (by simp)) (by simp)
        (fun h => absurd h (by rw [hbinds.1]; decide)) (fun h => absurd h.1 (by rw [hbinds.1]; decide))
    cases n with
    | outdoorUnit => exact (hready _).trans (reviewShed _)
    | airHandler => exact hready _
  · exact refl n s

theorem activate (s : State) (n : Node) (st : Option NodeState) : Lapses n s (s.activate n st) := by
  unfold State.activate
  split
  · next hready =>
    refine quiet (State.setLinkState_relay _ _ _ (.inr rfl)) (by simp)
      (fun _ => by rw [State.setLinkState_link_same]; rfl) (fun h => absurd h.1 (by rw [hready.1]; decide))
  · exact refl n s

/-- A stop sequence that closes has sent its STOP commands, so its link is not HALTING. -/
theorem stopOnIdle (s : State) (n : Node) (st : Option NodeState) : Lapses n s (s.stopOnIdle n st) := by
  simp only [State.stopOnIdle]
  split
  · next hends =>
    have hmoved : ¬(s.link n).Halting := fun h => Bool.false_ne_true ((h.stays st).symm.trans hends)
    have hclosed : ((s.closeStop n).link n).state = (s.link n).state := by
      rw [State.closeStop, State.link_setLink_same]
    have hclose : Lapses n s (s.closeStop n) :=
      quiet rfl (by simp) (by rw [hclosed]; exact id) (fun h => absurd h hmoved)
    split
    · next hstopping =>
      refine quiet ((State.setLinkState_relay _ _ _ (.inr rfl)).trans (by simp)) (by simp)
        (fun h => absurd h (by rw [← hclosed, hstopping]; decide)) (fun h => absurd h hmoved)
    · exact hclose
  · exact refl n s

/-- A whole status (R147). -/
theorem takeStatus (s : State) (n : Node) (x : Status) : Lapses n s (s.takeStatus n x) := by
  rw [State.takeStatus_eq]
  exact (((((nodeTaken s n x).trans (recordFault _ n _)).trans (takeAnnex _ n x)).trans (completeBinding _ n)).trans
    (activate _ n _)).trans (stopOnIdle _ n _)

end Lapses

end Sys2Proof.Machine
end

section
/-! PROOF. Answers to relayed queries, in time and late (R117, R162, R163, R165). -/

namespace Sys2Proof.Machine

/-! ### An answer part and the Query list (R162) -/

/-- A change that only one entry of a list takes. -/
theorem map_only {α : Type} {f : α → α} {xs ys : List α} (e : α) (h : ∀ x ∈ xs ++ ys, f x = x) :
    (xs ++ e :: ys).map f = xs ++ f e :: ys := by
  have hmap : ∀ l : List α, (∀ x ∈ l, f x = x) → l.map f = l := fun l hl =>
    (List.map_congr_left hl).trans (List.map_id l)
  rw [List.map_append, List.map_cons, hmap xs fun x hx => h x (List.mem_append_left _ hx),
    hmap ys fun x hx => h x (List.mem_append_right _ hx)]

theorem eq_or_mem_of_mem_around {α : Type} {xs ys : List α} {x e : α} (h : x ∈ xs ++ e :: ys) : x = e ∨ x ∈ xs ++ ys :=
  List.mem_cons.1 (List.perm_middle.mem_iff.1 h)

section
variable {s : State} {n : Node} {a : AnswerPart} {xs ys : List QueryEntry} {e : QueryEntry}

theorem QueryEntry.matchesAnswer_iff (e : QueryEntry) (n : Node) (tag : Nat) :
    e.matchesAnswer n tag = true ↔ e.state = .sent ∧ e.tag = tag ∧ e.target = n := by
  simp [QueryEntry.matchesAnswer, and_assoc]

/-- An answer whose tag one SENT entry of its node holds makes that entry ANSWERED. -/
theorem State.takeAnswer_answers (hentries : s.relay.entries = xs ++ e :: ys) (hsent : e.state = .sent) (htag : e.tag = a.tag)
    (htarget : e.target = n) (hother : ∀ x ∈ xs ++ ys, x.tag ≠ a.tag) :
    s.takeAnswer n a = { s with relay := { s.relay with entries := xs ++ e.answered a :: ys } } := by
  have hmatch : e.matchesAnswer n a.tag = true := (e.matchesAnswer_iff n a.tag).2 ⟨hsent, htag, htarget⟩
  have hany : s.relay.entries.any (fun x => x.matchesAnswer n a.tag) = true := by
    rw [List.any_eq_true]
    exact ⟨e, by simp [hentries], hmatch⟩
  have hkept : ∀ x ∈ xs ++ ys, (if x.matchesAnswer n a.tag then x.answered a else x) = x := fun x hx =>
    if_neg fun hm => hother x hx ((x.matchesAnswer_iff n a.tag).1 hm).2.1
  rw [State.takeAnswer, if_pos hany, hentries, map_only e hkept, if_pos hmatch]
  rfl

/-- The relay takes an answer by what it holds itself. -/
theorem State.takeAnswer_relay {t : State} (h : t.relay = s.relay) : (t.takeAnswer n a).relay = (s.takeAnswer n a).relay := by
  simp only [State.takeAnswer, h]
  split <;> rfl

/-- An answer that no SENT entry of its node awaits is late. -/
theorem State.takeAnswer_late (h : ∀ e ∈ s.relay.entries, ¬(e.state = .sent ∧ e.tag = a.tag ∧ e.target = n)) :
    s.takeAnswer n a = { s with relay := { s.relay with late := satInc 65535 s.relay.late } } := by
  have hnone : ¬s.relay.entries.any (fun x => x.matchesAnswer n a.tag) = true := by
    rw [List.any_eq_true]
    rintro ⟨e, he, hm⟩
    exact h e he ((e.matchesAnswer_iff n a.tag).1 hm)
  rw [State.takeAnswer, if_neg hnone]
  rfl

end

/-! ### PLANT STATUS with an answer part (R117, R162, R165) -/

/-- The answer part of a payload that is long enough to hold one. -/
def answerOf (p : List Byte) : AnswerPart :=
  ⟨(byteAt p 8).toNat, byteAt p 9, byteAt p 10 ++ byteAt p 11 ++ byteAt p 12 ++ byteAt p 13⟩

theorem answerPartOf_eq {p : List Byte} (h : 14 ≤ p.length) : answerPartOf p = some (answerOf p) := if_pos h

/-- The relay after a status with an answer part: the relay takes the part before or after the link takes the rest. -/
structure RelayTakes (s : State) (n : Node) (a : AnswerPart) (first : Bool) (t : State) : Prop where
  before : first = true → ∃ u, u.relay = (s.takeAnswer n a).relay ∧ u.links = s.links ∧ Lapses n u t
  after : first = false → ∃ u v, u.relay = s.relay ∧ u.links = s.links ∧ Lapses n u v ∧ t.relay = (v.takeAnswer n a).relay
    ∧ t.links = v.links

section
variable {s t : State} {dt : Nat} {b : Burst} {w : PlantWait} {cls : Byte} {p : List Byte}

theorem HearsPlant.relayTakes (h : HearsPlant s dt b w cls p) (hexp : w.expects = .status) (hlen : 14 ≤ p.length) :
    RelayTakes s w.node (answerOf p) b.relayFirst ((s.elapse dt).receivePlant b) := by
  have hrelay : ∀ u : State, u.relayStatus w.node p = u.takeAnswer w.node (answerOf p) := fun u => by
    simp only [State.relayStatus, answerPartOf_eq hlen]
  have hanswer : ((afterAnswer s dt s.relay).takeAnswer w.node (answerOf p)).relay = (s.takeAnswer w.node (answerOf p)).relay :=
    State.takeAnswer_relay rfl
  rw [h.receive]
  refine ⟨fun hfirst => ⟨(afterAnswer s dt s.relay).takeAnswer w.node (answerOf p), hanswer, by simp [afterAnswer], ?_⟩,
    fun hfirst => ⟨afterAnswer s dt s.relay, (afterAnswer s dt s.relay).takeStatus w.node (plantReportOf w.node p), rfl, rfl,
      Lapses.takeStatus _ _ _, ?_⟩⟩
  · simp only [State.plantReply, hexp, hfirst, if_true, hrelay]
    exact (Lapses.takeStatus _ _ (plantReportOf w.node p)).trans (.same (by simp) (by simp) (by simp))
  · simp only [State.plantReply, hexp, hfirst, Bool.false_eq_true, if_false, hrelay, State.endSlot_frame,
      State.takeAnswer_frame, and_self]

variable {n : Node} {a : AnswerPart} {first : Bool}

/-- With no SENT entry of its tag at its node the answer is late, and no further entry is ANSWERED. -/
theorem RelayTakes.late (h : RelayTakes s n a first t)
    (hno : ∀ e ∈ s.relay.entries, ¬(e.state = .sent ∧ e.tag = a.tag ∧ e.target = n)) :
    t.relay.late = satInc 65535 s.relay.late ∧ ∀ x ∈ t.relay.entries, x.state = .answered → x ∈ s.relay.entries := by
  cases hfirst : first with
  | true =>
    obtain ⟨u, hrelay, -, hlapses⟩ := h.before hfirst
    obtain ⟨f, hf, hlapsed, -⟩ := hlapses.entries
    rw [State.takeAnswer_late hno] at hrelay
    rw [hlapses.late, hf, hrelay]
    refine ⟨rfl, fun x hx hanswered => ?_⟩
    obtain ⟨e, he, rfl⟩ := List.mem_map.1 hx
    rw [hlapsed.eq_of_state (by rw [hanswered]; decide)]
    exact he
  | false =>
    obtain ⟨u, v, hrelay, -, hlapses, htaken, -⟩ := h.after hfirst
    obtain ⟨f, hf, hlapsed, -⟩ := hlapses.entries
    have hkept : ∀ x ∈ v.relay.entries, x.state ≠ .expired → x ∈ s.relay.entries := fun x hx hstate => by
      rw [hf, hrelay] at hx
      obtain ⟨e, he, rfl⟩ := List.mem_map.1 hx
      rw [hlapsed.eq_of_state hstate]
      exact he
    have hnone : ∀ e ∈ v.relay.entries, ¬(e.state = .sent ∧ e.tag = a.tag ∧ e.target = n) := fun e he hmatch =>
      hno e (hkept e he (by rw [hmatch.1]; decide)) hmatch
    rw [htaken, State.takeAnswer_late hnone]
    refine ⟨?_, fun x hx hanswered => hkept x hx (by rw [hanswered]; decide)⟩
    show satInc 65535 v.relay.late = satInc 65535 s.relay.late
    rw [hlapses.late, hrelay]

/-- The SENT entry of its tag at its node is ANSWERED, unless the link left the reachable states before the relay took its part. -/
theorem RelayTakes.answers (h : RelayTakes s n a first t) {xs ys : List QueryEntry} {e : QueryEntry}
    (hentries : s.relay.entries = xs ++ e :: ys) (hsent : e.state = .sent) (htag : e.tag = a.tag) (htarget : e.target = n)
    (hother : ∀ x ∈ xs ++ ys, x.tag ≠ a.tag)
    (hreach : first = true ∨ ((s.link n).state.reachable = true ∧ (t.link n).state.reachable = true)) :
    t.relay.late = s.relay.late ∧ ∀ x ∈ t.relay.entries, x.tag = a.tag → x = e.answered a := by
  have honly : ∀ {xs ys : List QueryEntry}, (∀ x ∈ xs ++ ys, x.tag ≠ a.tag) →
      ∀ x ∈ xs ++ e.answered a :: ys, x.tag = a.tag → x = e.answered a := fun hno x hx htagged =>
    (eq_or_mem_of_mem_around hx).resolve_right fun hout => hno x hout htagged
  cases hfirst : first with
  | true =>
    obtain ⟨u, hrelay, -, hlapses⟩ := h.before hfirst
    obtain ⟨f, hf, hlapsed, -⟩ := hlapses.entries
    rw [State.takeAnswer_answers hentries hsent htag htarget hother] at hrelay
    rw [hlapses.late, hf, hrelay]
    refine ⟨rfl, fun x hx hx' => ?_⟩
    obtain ⟨y, hy, rfl⟩ := List.mem_map.1 hx
    obtain rfl : y = e.answered a := honly hother y hy (by rw [← hlapsed.tag, hx'])
    exact hlapsed.ended rfl
  | false =>
    obtain ⟨u, v, hrelay, hlinks, hlapses, htaken, htlinks⟩ := h.after hfirst
    obtain ⟨f, hf, hlapsed, hkept⟩ := hlapses.entries
    obtain ⟨hs, ht⟩ := hreach.resolve_left (by rw [hfirst]; decide)
    have hfe : f e = e := by
      refine hkept ?_ ?_ e htarget
      · rw [State.link_congr hlinks]; exact hs
      · rw [← State.link_congr htlinks]; exact ht
    have hentries' : v.relay.entries = xs.map f ++ e :: ys.map f := by
      rw [hf, hrelay, hentries, List.map_append, List.map_cons, hfe]
    have hother' : ∀ x ∈ xs.map f ++ ys.map f, x.tag ≠ a.tag := fun x hx => by
      rw [← List.map_append] at hx
      obtain ⟨y, hy, rfl⟩ := List.mem_map.1 hx
      rw [hlapsed.tag]
      exact hother y hy
    rw [htaken, State.takeAnswer_answers hentries' hsent htag htarget hother']
    exact ⟨hlapses.late.trans (by rw [hrelay]), honly hother'⟩

end

/-! ### ANSWER TIMER EXPIRY (R163) -/

section
variable {s : State} {xs ys : List QueryEntry} {e : QueryEntry} {d : Time}

/-- The SENT entry of a tag whose answer timer has expired is EXPIRED with TIMEOUT, and QUERY TIMEOUT is raised. -/
theorem State.answerTimerExpired_eq (hentries : s.relay.entries = xs ++ e :: ys) (hsent : e.state = .sent)
    (hdue : e.answerDue = some d) (hpast : d ≤ s.now) (hother : ∀ x ∈ xs ++ ys, x.tag ≠ e.tag) :
    s.answerTimerExpired e.tag =
      { s with
        events := afterRaise s.events .queryTimeout
        relay := { s.relay with entries := xs ++ e.expire .timeout :: ys } } := by
  have hover : e.timedOut e.tag s.now = true := by simp [QueryEntry.timedOut, hsent, hdue, due, hpast]
  have hany : s.relay.entries.any (fun x => x.timedOut e.tag s.now) = true := by
    rw [List.any_eq_true]
    exact ⟨e, by simp [hentries], hover⟩
  have hkept : ∀ x ∈ xs ++ ys, (if x.timedOut e.tag s.now then x.expire .timeout else x) = x := fun x hx => by
    refine if_neg fun hx' => hother x hx ?_
    simp only [QueryEntry.timedOut, Bool.and_eq_true, decide_eq_true_eq] at hx'
    exact hx'.1.1
  rw [State.answerTimerExpired, if_pos hany, hentries, map_only e hkept, if_pos hover]
  ext1 <;> simp

end

/-- Settles O39: the relay takes an answer by what it holds, a status beside it makes entries expire at most, and an expired entry
is neither offered nor answered. -/
theorem queriesEnd : Obligations.QueriesEnd := by
  refine ⟨fun s n a => ⟨fun xs ys e => State.takeAnswer_answers, State.takeAnswer_late⟩, ?_, ?_⟩
  · intro s dt b w cls p h hexp hlen tag value
    have htakes := h.relayTakes hexp hlen
    exact ⟨_, rfl, htakes.late, fun xs ys e => htakes.answers⟩
  · intro s dt xs ys e d hrun hentries hsent hdue hpast hother
    have hruns : (s.elapse dt).isRunning = true := (State.isRunning_iff _).2 hrun
    have hexpired := State.answerTimerExpired_eq (s := s.elapse dt) hentries hsent hdue hpast hother
    refine ⟨_, congrArg Host.Outcome.next ((if_pos hruns).trans hexpired), rfl, fun x hx htag => ?_, fun a htag => ?_⟩
    · have hwaiting := List.find?_some hx
      simp only [Bool.and_eq_true, decide_eq_true_eq] at hwaiting
      rcases eq_or_mem_of_mem_around (List.mem_of_find?_eq_some hx) with rfl | hout
      · exact absurd hwaiting.1 (show QueryState.expired ≠ .waiting by decide)
      · exact hother x hout htag
    · rw [State.takeAnswer_late]
      · exact ⟨rfl, rfl⟩
      · rintro x hx ⟨hstate, hsame, -⟩
        rcases eq_or_mem_of_mem_around hx with rfl | hout
        · exact absurd hstate (show QueryState.expired ≠ .sent by decide)
        · exact hother x hout (hsame.trans htag)

end Sys2Proof.Machine
end
